-- ==== Sys2Proof/Word.lean ====
section
/-! DEFINITION. The byte, and the plainest container operations the model is written with. Nothing here is particular to one rule of the manual. -/

namespace Sys2Proof

/-- One byte of a frame's payload (12.1). -/
abbrev Byte := BitVec 8

/-- A vector with the element at `i` replaced by `f` of it. -/
def updAt {α : Type} {n : Nat} (v : Vector α n) (i : Fin n) (f : α → α) : Vector α n :=
  v.set i (f v[i])

/-- A vector with the element at `i` replaced. -/
def putAt {α : Type} {n : Nat} (v : Vector α n) (i : Fin n) (x : α) : Vector α n :=
  v.set i x

end Sys2Proof
end

