-- ==== Sys2Proof/Syntax.lean ====
section
/-! DEFINITION. The commands of the block: one constructor of `Instr` for each row of
spec/opcode_table.json, with the operands the row's event has.

A row of the table is one whole, indivisible step of the module (spec/95): a frame arriving, a
timer expiring, a unit of the module completing its work, or the command unit executing the
command that stands at the front of its queue. The host computer's own command parameters are not
operands of a row: they arrive inside the frame (LINE_A_FRAME_ARRIVAL, LINE_B_FRAME_ARRIVAL) and
wait in the module's command queue until the row of that command executes them (log 3). -/

namespace Sys2Proof

/-- The two Ethernet stream lines (0.2). -/
inductive Line where
  | a
  | b
  deriving DecidableEq, Repr

/-- The two measurers of a tracker (chapter 3). -/
inductive Role where
  | primary
  | secondary
  deriving DecidableEq, Repr

/-- One Ethernet frame as it stands on a line (chapter 12): destination and source address, frame
type field, payload, and the frame check sequence, which R187 lets the module treat "as this mark of
agreement alone" (log 7). -/
structure Frame where
  dest : BitVec 48
  src : BitVec 48
  ftype : BitVec 16
  payload : List Byte
  fcsAgrees : Bool
  deriving DecidableEq, Repr

/-- How the happenings of one step that the manual leaves unordered ("either may be taken first")
fall: each number resolves the next such coincidence; where the list has run out the first
alternative is taken. It stands for the outside world, and every list is allowed (log 5). -/
abbrev Ties := List Nat

/-- A trigger of the capture unit that falls in the instant of a frame: a TRIGGER CAPTURE that stands at the
front, or the completion of the evaluation in the engine (R137). -/
inductive MetTrigger where
  | command
  | evaluation
  deriving DecidableEq, Repr

/-- What a frame on line A meets in its own instant (log 5, log 41). `order` resolves the coincidences of
its own happenings. `expiry`: a silence timer that expires in the instant of a stale frame is taken first
(R20). `triggers`: those taken after the realign notice of the frame has reached the capture unit and before
the sets of its block (R141). It stands for the outside world, and every value is allowed. -/
structure Meeting where
  order : Ties
  expiry : Bool
  triggers : List MetTrigger
  deriving DecidableEq, Repr

/-- The commands of the block, one for each row of spec/opcode_table.json, in its order. -/
inductive Instr where
  /-- R1: a whole frame arrives on line A. -/
  | lineAFrameArrival (f : Frame) (meeting : Meeting)
  /-- R2: a whole frame arrives on line B. -/
  | lineBFrameArrival (f : Frame) (ties : Ties)
  /-- R19: the silence timer of a source expires. -/
  | silenceTimeout (source : Fin 8) (ties : Ties)
  /-- R43: the usability timer of a measurer expires. -/
  | usabilityTimeout (tracker : Fin 2) (measurer : Role) (ties : Ties)
  /-- R47: the hold timer of a tracker expires. -/
  | holdTimeout (tracker : Fin 2) (ties : Ties)
  /-- R83: the engine completes its evaluation. -/
  | evaluationComplete (ties : Ties)
  /-- R128: the transmitter of a line completes its frame. -/
  | transmitComplete (line : Line)
  /-- R149: the oldest command's code is not recognised, or is missing. -/
  | unknownCommand
  /-- R158. -/
  | identify
  /-- R159. -/
  | readStatus
  /-- R161. -/
  | readEntry
  /-- R162. -/
  | writeEntry (ties : Ties)
  /-- R112. -/
  | readChecks
  /-- R50. -/
  | setTracker
  /-- R153. -/
  | startAnalysis
  /-- R154. -/
  | stopAnalysis
  /-- R155. -/
  | restart
  /-- R156: the command restart begins, its reply having been transmitted. -/
  | commandRestart
  /-- R156: supply is applied. -/
  | powerOnRestart
  /-- R172: the load copies the next table. -/
  | loadTableCopied
  /-- R152: the load completes. -/
  | loadComplete (ties : Ties)
  /-- R135. -/
  | armCapture
  /-- R138. -/
  | triggerCapture
  /-- R142. -/
  | readCapture
  /-- R143. -/
  | releaseCapture
  /-- R143. -/
  | disarmCapture
  /-- R168. -/
  | storeTable
  /-- R169: programming of a stored image ends; `agrees` is whether the read-back agrees. -/
  | storeProgrammingComplete (agrees : Bool)
  /-- R170. -/
  | restoreTable
  /-- R170: the restore copy and its repair complete. -/
  | restoreCopyComplete (ties : Ties)
  /-- R167. -/
  | queryProgress
  /-- R176. -/
  | setRuntimeLock
  /-- R176. -/
  | clearRuntimeLock
  /-- R177. -/
  | writeProtection
  /-- R177: programming of the protection record ends; `agrees` is whether the read-back agrees. -/
  | protectionProgrammingComplete (agrees : Bool)
  /-- R178. -/
  | freezeProtection
  /-- R184. -/
  | readCounters
  /-- R185. -/
  | clearCounters
  /-- R182. -/
  | clearFaults
  /-- R175: the key-switch contact closes (`true`) or opens (`false`). -/
  | maintenanceLineChange (closed : Bool)
  /-- R186: one millisecond passes. -/
  | localTimeTick
  /-- R166: the 24 V supply is removed. -/
  | supplyRemoved
  deriving DecidableEq, Repr

end Sys2Proof
end

