-- ==== Sys2Proof/Decode.lean ====
section
/-! DEFINITION. The command that a word spells by the bits of spec/opcode_table.json. Every row of
the table has an empty list of fields: the table gives no row any bits, so no word spells a command
(log 32). The decoding of the frames themselves (chapter 12) is Machine/Operands.lean. -/

namespace Sys2Proof

/-- The command a word of the opcode table spells: none, since the table gives no row bits. -/
def decodeTableWord (_nbits _w : Nat) : Option Instr := none

end Sys2Proof
end

