-- ==== Sys2Proof/Config.lean ====
section
/-! DEFINITION. What one built module fixes for good: the sizes and constants the manual states,
and, as constants without a body, the values it says are "set when the module is built" and does
not give (the line addresses and the revision number). -/

namespace Sys2Proof.Config

/-- R191: the line address of each line, "a fixed 6-byte value set when the module is built". Free
value (log 8): nothing constrains it. -/
opaque lineAddress : Line → BitVec 48

/-- R158: the revision number, 1..255, is one more than this. Free value (log 8). -/
opaque revisionIndex : Fin 255

/-- R158: the revision number of the module, 1..255. -/
def revision : Nat := revisionIndex.val + 1

/-- R3: a forward queue holds up to 32 frames. -/
def forwardDepth : Nat := 32

/-- R123: the record queue holds at most 16 records. -/
def recordDepth : Nat := 16

/-- R147: the command queue has 4 places. -/
def commandPlaces : Nat := 4

/-- R134, chapter 8: the capture buffer holds 4,096 sample sets. -/
def captureSets : Nat := 4096

/-- R129: an inserted frame is passed over by at most four forwarded frames. -/
def passedOverLimit : Nat := 4

/-- R184: every counter saturates at 65,535. -/
def counterMax : Nat := 65535

/-- R180: the more-faults count saturates at 255. R140: so does the missed-trigger count. -/
def smallCountMax : Nat := 255

/-- R87, R105: magnitudes and the interference figure are limited to 16,777,215. -/
def magnitudeMax : Nat := 16777215

/-- R90: a ratio is limited to 65,535. -/
def ratioMax : Nat := 65535

/-- R44: the frequency in FREE, in mHz. -/
def nominalFrequency : Nat := 50000

/-- R44: the least frequency in use, in mHz. -/
def frequencyMin : Nat := 47000

/-- R44: the greatest frequency in use, in mHz. -/
def frequencyMax : Nat := 53000

/-- R146: the target station of a broadcast. -/
def broadcastStation : Nat := 65535

end Sys2Proof.Config
end

