-- ==== Sys2Proof/Machine/Types.lean ====
section
/-! DEFINITION. The plain data the module's state is made of: table entries, runtime records,
frames waiting, records, counters. Every type follows the field list of the rule its docstring
names. -/

namespace Sys2Proof.Machine

/-! ### Named values -/

/-- Channel kinds (2.1), in the order of their codes (12.1). -/
inductive Kind where
  | acVoltage
  | acCurrent
  | dcVoltage
  | dcCurrent
  deriving DecidableEq, Repr

/-- R16: what replaces a value that was not received. -/
inductive FillPolicy where
  | repeatLast
  | zero
  deriving DecidableEq, Repr

/-- The requested mode of a TRACKERS entry (3.1). -/
inductive RequestedMode where
  | auto
  | fixed
  deriving DecidableEq, Repr

/-- The class written in a plan bin (6.1). -/
inductive BinClass where
  | auto
  | characteristic
  | noncharacteristic
  | watch
  deriving DecidableEq, Repr

/-- The class an evaluation uses for a bin (R32, R33). -/
inductive ResolvedClass where
  | characteristic
  | noncharacteristic
  | watch
  deriving DecidableEq, Repr

/-- The class of an alert entry (R111), and of the trigger classes (8.1). -/
inductive AlertClass where
  | characteristic
  | noncharacteristic
  | interference
  deriving DecidableEq, Repr

/-- The verdict mode of a plan row (R118). -/
inductive VerdictMode where
  | all
  | changes
  | silent
  deriving DecidableEq, Repr

/-- The close arbiter's mode (R76). -/
inductive ArbiterMode where
  | fixed
  | rotating
  deriving DecidableEq, Repr

/-- A check state (R96). -/
inductive CheckState where
  | clear
  | rising (n : Nat)
  | alert
  | falling (n : Nat)
  deriving DecidableEq, Repr

/-- The five states of a tracker (3.3), in the order of their codes (12.1). -/
inductive TrackerState where
  | followPrimary
  | followSecondary
  | hold
  | free
  | fixed
  deriving DecidableEq, Repr

/-- The operating states (R151). -/
inductive OpState where
  | loading
  | configuring
  | analysing
  deriving DecidableEq, Repr

/-- The states of a source (1.4). -/
inductive SourceState where
  | off
  | await
  | running
  | lost
  deriving DecidableEq, Repr

/-- The states of a measurer (R38). -/
inductive MeasurerState where
  | idle
  | seeking
  | counting
  deriving DecidableEq, Repr

/-- The states of the capture unit (R134). -/
inductive CaptureState where
  | off
  | armed
  | post
  | held
  deriving DecidableEq, Repr

/-- The twelve fault kinds (11.1), in the order of their codes (12.1). -/
inductive FaultKind where
  | malformedFrame
  | sourceRealign
  | sourceLost
  | referenceSwitch
  | trackerHold
  | trackerFree
  | windowMissed
  | recordDropped
  | forwardDropped
  | commandDropped
  | storeFailed
  | storedInvalid
  deriving DecidableEq, Repr

/-- The statuses of a reply (R149), in the order of their codes (12.1). -/
inductive Status where
  | done
  | adjusted
  | inProgress
  | busy
  | protected_
  | badParam
  | wrongState
  | unknownCommand
  deriving DecidableEq, Repr

/-- The protect mode (R166). -/
inductive ProtectMode where
  | opened
  | keyed
  deriving DecidableEq, Repr

/-- The eight tables (9.4), in the order of their numbers. -/
inductive TableId where
  | general
  | sources
  | channels
  | groups
  | trackers
  | plans
  | bands
  | signatures
  deriving DecidableEq, Repr

/-! ### Table entries -/

/-- One SOURCES entry (1.3). -/
structure SourceEntry where
  enabled : Bool
  sourceId : Nat
  channelCount : Nat
  fill : FillPolicy
  gapLimit : Nat
  silenceTimeout : Nat
  deriving DecidableEq, Repr

/-- One CHANNELS entry (2.1). -/
structure ChannelEntry where
  enabled : Bool
  source : Fin 8
  slot : Fin 8
  kind : Kind
  group : Fin 4
  deriving DecidableEq, Repr

/-- One GROUPS entry (2.2). -/
structure GroupEntry where
  enabled : Bool
  pulse : Nat
  tracker : Fin 2
  dcFloor : Nat
  acFloor : Nat
  fillLimit : Nat
  interferenceLimit : Nat
  interferenceHysteresis : Nat
  deriving DecidableEq, Repr

/-- One TRACKERS entry (3.1). The hold time is in seconds. -/
structure TrackerEntry where
  primary : Option (Fin 16)
  secondary : Option (Fin 16)
  floor : Nat
  holdTime : Nat
  mode : RequestedMode
  fixedFrequency : Nat
  deriving DecidableEq, Repr

/-- One bin entry of a PLANS row (6.1). -/
structure PlanBin where
  k : Nat
  limit : Nat
  cls : BinClass
  deriving DecidableEq, Repr

/-- One PLANS row (6.1). -/
structure PlanRow where
  hysteresis : Nat
  raiseCount : Nat
  clearCount : Nat
  verdictMode : VerdictMode
  bins : List PlanBin
  deriving DecidableEq, Repr

/-- One BANDS entry (6.3.1). The edges are in hertz, the weight in per mille. -/
structure BandEntry where
  enabled : Bool
  low : Nat
  high : Nat
  weight : Nat
  deriving DecidableEq, Repr

/-- One SIGNATURES entry (6.4.1). The bin set is held in ascending k. -/
structure SignatureEntry where
  enabled : Bool
  kind : Kind
  bins : List Nat
  code : Nat
  deriving DecidableEq, Repr

/-- The trigger classes of the capture settings (8.1). -/
structure TriggerClasses where
  characteristic : Bool
  noncharacteristic : Bool
  interference : Bool
  deriving DecidableEq, Repr

/-- The four capture settings (8.1). -/
structure CaptureSettings where
  source : Fin 8
  preTrigger : Nat
  classes : TriggerClasses
  autoRearm : Bool
  deriving DecidableEq, Repr

/-- The one GENERAL entry (9.5). -/
structure GeneralEntry where
  station : Nat
  streamType : BitVec 16
  autoStart : Bool
  arbiterMode : ArbiterMode
  capture : CaptureSettings
  deriving DecidableEq, Repr

/-- The eight tables: the working tables of the table memory (5.3), and the contents of the stored
images (R166). -/
structure Tables where
  general : GeneralEntry
  sources : Vector SourceEntry 8
  channels : Vector ChannelEntry 16
  groups : Vector GroupEntry 4
  trackers : Vector TrackerEntry 2
  plans : Vector PlanRow 16
  bands : Vector BandEntry 8
  signatures : Vector SignatureEntry 16
  deriving DecidableEq, Repr

/-- The whole content of one table: what the store unit's buffer holds (R168). -/
inductive TableImage where
  | general (e : GeneralEntry)
  | sources (v : Vector SourceEntry 8)
  | channels (v : Vector ChannelEntry 16)
  | groups (v : Vector GroupEntry 4)
  | trackers (v : Vector TrackerEntry 2)
  | plans (v : Vector PlanRow 16)
  | bands (v : Vector BandEntry 8)
  | signatures (v : Vector SignatureEntry 16)
  deriving DecidableEq, Repr

/-- One typed, checked and clamped entry with its place: what a taken write puts into a working
table (R162). -/
inductive EntryWrite where
  | general (e : GeneralEntry)
  | source (i : Fin 8) (e : SourceEntry)
  | channel (i : Fin 16) (e : ChannelEntry)
  | group (i : Fin 4) (e : GroupEntry)
  | tracker (i : Fin 2) (e : TrackerEntry)
  | plan (i : Fin 16) (e : PlanRow)
  | band (i : Fin 8) (e : BandEntry)
  | signature (i : Fin 16) (e : SignatureEntry)
  deriving DecidableEq, Repr

/-! ### The sample path -/

/-- A stamp: second, and block counter + offset (R6). -/
structure Stamp where
  second : Nat
  counter : Nat
  deriving DecidableEq, Repr

/-- One value of one slot with its filled mark (R18). -/
structure SlotValue where
  value : Int
  filled : Bool
  deriving DecidableEq, Repr

/-- One sample set as the source monitor delivers it (R18). -/
structure SampleSet where
  stamp : Stamp
  test : Bool
  values : List SlotValue
  deriving DecidableEq, Repr

/-- One item of the series a source's consumers receive (R18). -/
inductive Item where
  | start
  | realign
  | loss
  | set (ss : SampleSet)
  deriving DecidableEq, Repr

/-- A consumer of a source (R18): a measurer, an active channel, the capture unit. A loss, which takes
the usability of both measurers of a tracker away at one moment, reaches them through their tracker
(log 23). -/
inductive Consumer where
  | measurer (t : Fin 2) (r : Role)
  | tracker (t : Fin 2)
  | channel (c : Fin 16)
  | capture
  deriving DecidableEq, Repr

/-- The runtime record of a source (1.4). `silence` is the silence timer: stopped, or running with
the duration in ms it was started with. -/
structure SourceRecord where
  state : SourceState
  lastPos : Option Nat
  lastValues : Vector Int 8
  silence : Option Nat
  deriving DecidableEq, Repr

/-! ### Frequency tracking -/

/-- A measurement: a frequency in mHz and its valid mark (R38, R42). -/
structure Measurement where
  freq : Nat
  valid : Bool
  deriving DecidableEq, Repr

/-- A measurer (R38). `index` is the running index the next sample takes; `prev` is the sample
before it. `usable` is whether the usability timer runs, its duration always 500 ms (R43). -/
structure Measurer where
  state : MeasurerState
  armed : Bool
  prev : Option Int
  index : Nat
  startStamp : Nat
  crossings : Nat
  peak : Nat
  last : Option Measurement
  run : Nat
  usable : Bool
  deriving DecidableEq, Repr

/-- A tracker (R44). `hold` is the hold timer: stopped, or running with the duration in s it was
started with. -/
structure Tracker where
  state : TrackerState
  freq : Nat
  atLimit : Bool
  hold : Option Nat
  primary : Measurer
  secondary : Measurer
  deriving DecidableEq, Repr

/-! ### Windows and evaluation -/

/-- The cosine and the sine sum of one bin (R60). -/
structure BinSum where
  k : Nat
  cosSum : Int
  sinSum : Int
  deriving DecidableEq, Repr

/-- The content of a FILLING or PENDING context (R55). `sums` holds one pair for each bin of the
snapshot and one for bin 10, which is one and the same pair where the snapshot holds bin 10. -/
structure Window where
  seq : Nat
  len : Nat
  freq : Nat
  trackerState : TrackerState
  atLimit : Bool
  stamp : Stamp
  count : Nat
  snapshot : List Nat
  sums : List BinSum
  plain : Int
  filled : Nat
  test : Bool
  degradedAtOpen : Bool
  deriving DecidableEq, Repr

/-- A window context (R55). -/
inductive Context where
  | free
  | filling (w : Window)
  | pending (w : Window)
  deriving DecidableEq, Repr

/-- A channel unit: its two contexts (R55), its sequence counter (R58) and its bin list (R56). -/
structure ChannelUnit where
  ctx0 : Context
  ctx1 : Context
  seqNext : Nat
  binList : List Nat
  deriving DecidableEq, Repr

/-- The spectral engine (R78). In WAITING the copy is held, or `none` where it is marked
discarded. -/
inductive Engine where
  | idle
  | waiting (c : Fin 16) (copy : Option Window)
  | evaluating (c : Fin 16) (copy : Window)
  deriving DecidableEq, Repr

/-- The owner of the table memory (R79). The command side is the command unit or the store unit. -/
inductive MemOwner where
  | free
  | engine
  | command
  | store
  deriving DecidableEq, Repr

/-- The check results of one plan entry (R96). -/
structure BinCheck where
  k : Nat
  state : Option CheckState
  lastRatio : Option Nat
  lastClass : Option ResolvedClass
  deriving DecidableEq, Repr

/-- The last evaluation summary (R96). -/
structure EvalSummary where
  seq : Nat
  degraded : Bool
  test : Bool
  noReference : Bool
  deriving DecidableEq, Repr

/-- The check results of one channel in the table memory (R96). The interference state and figure
have a meaning on a DC_CURRENT channel only. -/
structure ChannelChecks where
  bins : List BinCheck
  interferenceState : CheckState
  lastFigure : Option Nat
  code : Nat
  summary : Option EvalSummary
  deriving DecidableEq, Repr

/-! ### Records -/

/-- One bin result of a verdict record (7.2). -/
structure BinResult where
  k : Nat
  magnitude : Nat
  ratio : Option Nat
  cls : ResolvedClass
  state : Option CheckState
  deriving DecidableEq, Repr

/-- The flags of a verdict record (R119). -/
structure VerdictFlags where
  degraded : Bool
  test : Bool
  noReference : Bool
  saturated : Bool
  atLimit : Bool
  deriving DecidableEq, Repr

/-- A verdict record (7.2), with the station number and stream type of its building (R117, R191). -/
structure VerdictRecord where
  station : Nat
  streamType : BitVec 16
  channel : Fin 16
  group : Fin 4
  seq : Nat
  stamp : Stamp
  len : Nat
  freq : Nat
  trackerState : TrackerState
  flags : VerdictFlags
  filled : Nat
  mean : Int
  a10 : Nat
  ref : Nat
  bins : List BinResult
  interference : Option (Nat × CheckState)
  code : Nat
  deriving DecidableEq, Repr

/-- What an alarm record reports, with the fields its cause calls for (7.3). -/
inductive Cause where
  | binAlert (c : Fin 16) (seq k : Nat) (cls : ResolvedClass)
  | binClear (c : Fin 16) (seq k : Nat) (cls : ResolvedClass)
  | interferenceAlert (c : Fin 16) (seq figure : Nat)
  | interferenceClear (c : Fin 16) (seq figure : Nat)
  | signature (c : Fin 16) (seq code : Nat)
  | trackerState (t : Fin 2) (st : TrackerState) (freq : Nat)
  | faultCaptured (kind : FaultKind) (subject : Nat)
  deriving DecidableEq, Repr

/-- An alarm record (7.3). -/
structure AlarmRecord where
  station : Nat
  streamType : BitVec 16
  cause : Cause
  localTime : BitVec 32
  deriving DecidableEq, Repr

/-- A record of the record queue (R123). -/
inductive OutRecord where
  | verdict (v : VerdictRecord)
  | alarm (a : AlarmRecord)
  deriving DecidableEq, Repr

/-! ### Capture -/

/-- The cause of a capture (R134). -/
inductive CaptureCause where
  | command (tag : Nat)
  | alert (c : Fin 16) (k : Option Nat) (cls : AlertClass) (seq : Nat)
  deriving DecidableEq, Repr

/-- The capture header (R134). `total` is absent until the unit enters HELD. -/
structure CaptureHeader where
  source : Fin 8
  perSet : Nat
  cause : CaptureCause
  stamp : Option Stamp
  time : BitVec 32
  preActual : Nat
  total : Option Nat
  truncated : Bool
  deriving DecidableEq, Repr

/-- The capture unit (R133, R134): its settings copy, its state, the source and the values per set
recorded at arming (R135), the buffer with its oldest set first, the header and the missed-trigger
count. The count of sets held is the length of the buffer. -/
structure CaptureUnit where
  settings : CaptureSettings
  state : CaptureState
  source : Fin 8
  perSet : Nat
  buffer : List SampleSet
  header : Option CaptureHeader
  missed : Nat
  deriving DecidableEq, Repr

/-- An alert entry handed to the capture unit (R111). -/
structure AlertEntry where
  k : Option Nat
  cls : AlertClass
  deriving DecidableEq, Repr

/-! ### Lines and commands -/

/-- A reply frame waiting in a reply queue (R127), and whether it answers RESTART (R155). -/
structure Reply where
  frame : Frame
  restart : Bool
  deriving DecidableEq, Repr

/-- The output side of one line: the forward queue that feeds it (R3), its reply queue (R127), its
transmitter, which is IDLE or SENDING a frame (R128), and its passed-over count (R129). -/
structure LineOut where
  forward : List Frame
  replies : List Reply
  sending : Option Reply
  passedOver : Nat
  deriving DecidableEq, Repr

/-- A command frame in the command queue (R146): the line it arrived on, the source address its
reply goes to (R191), and the bytes of its message, up to its effective length (R187). -/
structure CommandFrame where
  line : Line
  src : BitVec 48
  bytes : List Byte
  deriving DecidableEq, Repr

/-- How far a RESTART has come (R155): none asked for, its reply formed, or its reply transmitted. -/
inductive RestartPhase where
  | none
  | replied
  | due
  deriving DecidableEq, Repr

/-- The command unit (R147, R148): the commands not yet answered, oldest first; whether the oldest
has requested the table memory (its execution has begun and waits); and the RESTART under way. The
commands whose replies have not left are held by the reply queues (R127). -/
structure CommandUnit where
  queue : List CommandFrame
  requested : Bool
  restart : RestartPhase
  deriving DecidableEq, Repr

/-! ### Settings store and protection -/

/-- The values of a protection record (R166). -/
structure Protection where
  mode : ProtectMode
  locks : Vector Bool 8
  first : Fin 4
  last : Fin 4
  complement : Bool
  lockDefault : Bool
  deriving DecidableEq, Repr

/-- One stored copy of the protection record (R166). -/
structure ProtectionCopy where
  content : Protection
  generation : Nat
  valid : Bool
  deriving DecidableEq, Repr

/-- What the store unit is engaged in (R167). -/
inductive StoreOp where
  | idle
  | storing (buffer : TableImage)
  | restoring (t : TableId)
  | storingProtection
  deriving DecidableEq, Repr

/-- The outcome of the store unit's last completed operation (R167); the target is a table, or
`none` for PROTECTION. `repaired` counts the entries repaired by a RESTORE (R171). -/
inductive StoreOutcome where
  | none
  | doneOk (target : Option TableId) (repaired : Option Nat)
  | failed (target : Option TableId)
  deriving DecidableEq, Repr

/-- The settings store and the store unit (R166, R167): the contents and the validity marks of the
stored images, the two copies of the protection record, the operation and the outcome. -/
structure SettingsStore where
  images : Tables
  valid : Vector Bool 8
  copy0 : ProtectionCopy
  copy1 : ProtectionCopy
  op : StoreOp
  outcome : StoreOutcome
  deriving DecidableEq, Repr

/-- The protection logic (R176, R178): the runtime locks and the freeze flag. -/
structure ProtectionLogic where
  runtime : Vector Bool 8
  freeze : Bool
  deriving DecidableEq, Repr

/-! ### Faults and counters -/

/-- A fault's detail (11.1): absent, a number, or a second count with a block counter. -/
inductive FaultDetail where
  | absent
  | number (n : Nat)
  | position (second counter : Nat)
  deriving DecidableEq, Repr

/-- The content of a held fault record (R180). -/
structure FaultRecord where
  kind : FaultKind
  subject : Nat
  detail : FaultDetail
  time : BitVec 32
  deriving DecidableEq, Repr

/-- The fault unit's record, summary flags and more-faults count (R180). -/
structure FaultUnit where
  record : Option FaultRecord
  summary : Vector Bool 12
  more : Nat
  deriving DecidableEq, Repr

/-- The six counters of a source (11.2). -/
structure SourceCounters where
  gapBlocks : Nat
  stale : Nat
  realigns : Nat
  losses : Nat
  clamped : Nat
  malformed : Nat
  deriving DecidableEq, Repr

/-- The four counters of a channel (11.2). -/
structure ChannelCounters where
  evaluated : Nat
  abandoned : Nat
  missed : Nat
  degraded : Nat
  deriving DecidableEq, Repr

/-- The counters (11.2): of each source, of each channel, and the seven of the device. -/
structure Counters where
  sources : Vector SourceCounters 8
  channels : Vector ChannelCounters 16
  forwardDropsAB : Nat
  forwardDropsBA : Nat
  verdictDrops : Nat
  alarmDrops : Nat
  commandDrops : Nat
  malformedCommands : Nat
  foreignFrames : Nat
  deriving DecidableEq, Repr

end Sys2Proof.Machine
end

