-- ==== Sys2Proof/Machine/Spectrum.lean ====
section
/-! DEFINITION. The arithmetic of windows and evaluations in exact integers: the phase tables
(R60, R61), the integer square root (R86), the mean (R85), magnitude (R86, R87), reference (R88),
ratio (R90), the window length (R52) and the interference figure (R104, R105). -/

namespace Sys2Proof.Machine

/-! ### The phase tables (R61)

R61 gives c[p] as 32,767 × cos(2πp / 4,096) rounded to the nearest whole number, and s[p] likewise.
They are computed here in fixed point with 64 fractional bits, by the cosine and sine series on one
eighth of a turn and by symmetry elsewhere (log 31). -/

/-- One in fixed point. -/
def fixOne : Nat := 18446744073709551616

/-- π in fixed point, floor(π × 2^64). -/
def fixPi : Nat := 57952155664616982739

/-- cos(2πr / 4,096) in fixed point, for r at most 512. -/
def cosOctant (r : Nat) : Nat :=
  let x := fixPi * r / 2048
  let y := x * x / fixOne
  [132, 90, 56, 30, 12, 2].foldl (fun h d => fixOne - (y * h / fixOne) / d) fixOne

/-- sin(2πr / 4,096) in fixed point, for r at most 512. -/
def sinOctant (r : Nat) : Nat :=
  let x := fixPi * r / 2048
  let y := x * x / fixOne
  x * [110, 72, 42, 20, 6].foldl (fun h d => fixOne - (y * h / fixOne) / d) fixOne / fixOne

/-- A fixed-point value times 32,767, rounded to the nearest whole number. -/
def toTable (v : Nat) : Int := ((32767 * v + fixOne / 2) / fixOne : Nat)

/-- The cosine table on the first quarter of a turn, r at most 1,024. -/
def cosQuarter (r : Nat) : Int :=
  if r ≤ 512 then toTable (cosOctant r) else toTable (sinOctant (1024 - r))

/-- c[p] of R61. -/
def cosTable (p : Nat) : Int :=
  let r := p % 1024
  match p / 1024 % 4 with
  | 0 => cosQuarter r
  | 1 => -cosQuarter (1024 - r)
  | 2 => -cosQuarter r
  | _ => cosQuarter (1024 - r)

/-- s[p] of R61: the sine is the cosine a quarter of a turn earlier. -/
def sinTable (p : Nat) : Int := cosTable (p + 3072)

/-- R60: the phase index of bin `k` at sample `n` of a window of `len` sets. -/
def phaseIndex (k n len : Nat) : Nat := 4096 * (k * n % len) / len

/-! ### Window length (R52) -/

/-- R52: N = floor((128,000,000 + floor(f / 2)) / f). -/
def windowLength (f : Nat) : Nat := (128000000 + f / 2) / f

/-! ### Integer square root (R86) -/

/-- One pass over the bits `b − 1` down to 0: raises `r` by each power of two that keeps its square
at most `n`. -/
def isqrtBits (n : Nat) : Nat → Nat → Nat
  | 0, r => r
  | b + 1, r => isqrtBits n b (if (r + 2 ^ b) * (r + 2 ^ b) ≤ n then r + 2 ^ b else r)

/-- R86: the largest whole number whose square does not exceed `n`. -/
def isqrt (n : Nat) : Nat := isqrtBits n (Nat.log2 n / 2 + 1) 0

/-! ### Mean, magnitude, reference, ratio -/

/-- R85: the window mean, rounded half away from zero. -/
def windowMean (plain : Int) (len : Nat) : Int :=
  plain.sign * (((plain.natAbs + len / 2) / len : Nat) : Int)

/-- R86: the magnitude of a bin from its sums, before R87's limit. -/
def rawMagnitude (c s : Int) (len : Nat) : Nat :=
  let r := isqrt (c.natAbs * c.natAbs + s.natAbs * s.natAbs)
  let d := 32767 * len
  (2 * r + d / 2) / d

/-- R87: a magnitude is limited to 16,777,215. -/
def limitMagnitude (a : Nat) : Nat := min a Config.magnitudeMax

/-- The cosine and sine sums a window holds for bin `k`. -/
def sumsOf (sums : List BinSum) (k : Nat) : Int × Int :=
  match sums.find? (fun b => b.k == k) with
  | some b => (b.cosSum, b.sinSum)
  | none => (0, 0)

/-- R86: the magnitude of bin `k` of a window, before R87's limit. -/
def Window.rawMagnitude (w : Window) (k : Nat) : Nat :=
  Machine.rawMagnitude (sumsOf w.sums k).1 (sumsOf w.sums k).2 w.len

/-- R86, R87: the magnitude of bin `k` of a window. -/
def Window.magnitude (w : Window) (k : Nat) : Nat := limitMagnitude (w.rawMagnitude k)

/-- R87: the evaluation is marked saturated when any magnitude is limited, bin 10 included. -/
def Window.saturated (w : Window) : Bool :=
  (10 :: w.snapshot).any fun k => Config.magnitudeMax < w.rawMagnitude k

/-- Whether a kind is DC_VOLTAGE or DC_CURRENT. -/
def Kind.isDC : Kind → Bool
  | .dcVoltage => true
  | .dcCurrent => true
  | .acVoltage => false
  | .acCurrent => false

/-- R88: the reference of a window by the channel's kind. -/
def windowReference (kind : Kind) (mean : Int) (a10 : Nat) : Nat :=
  if kind.isDC then mean.natAbs else a10

/-- R89: the reference floor that applies to a kind. -/
def GroupEntry.floorFor (g : GroupEntry) (kind : Kind) : Nat :=
  if kind.isDC then g.dcFloor else g.acFloor

/-- R90: the ratio of a magnitude to the reference, in units of 0.01 %. -/
def binRatio (a ref : Nat) : Nat := min Config.ratioMax ((10000 * a + ref / 2) / ref)

/-! ### Measured frequency (R40, R41) -/

/-- R40: the stamp of a crossing between x0 at running index `i` and x1. -/
def crossingStamp (i : Nat) (x0 x1 : Int) : Nat :=
  256 * i + 256 * (-x0).toNat / (x1 - x0).toNat

/-- R41: the measured frequency of a span of `p` stamp units, in mHz. -/
def measuredFrequency (p : Nat) : Nat := (32768000000 + p / 2) / p

/-! ### The interference figure (R104, R105) -/

/-- R104: whether bin `k` of a window opened at `f` lies in a band, on the exact f_k = k × f / 10. -/
def inBand (b : BandEntry) (k f : Nat) : Bool :=
  b.enabled && decide (b.low * 10000 ≤ k * f) && decide (k * f ≤ b.high * 10000)

/-- R104: the weight of a bin, the largest among the bands it lies in; absent where it lies in none. -/
def bandWeight (bands : List BandEntry) (k f : Nat) : Option Nat :=
  ((bands.filter fun b => inBand b k f).map BandEntry.weight).max?

/-- The square of one bin's weighted magnitude, 0 where it takes no part. -/
def weightedSquare (bands : List BandEntry) (f k a : Nat) : Nat :=
  match bandWeight bands k f with
  | some w => (w * a) * (w * a)
  | none => 0

/-- R105: the interference figure from the bins' indices and magnitudes. -/
def interferenceFigure (bands : List BandEntry) (f : Nat) (bins : List (Nat × Nat)) : Nat :=
  let j := isqrt ((bins.map fun b => weightedSquare bands f b.1 b.2).sum)
  min Config.magnitudeMax ((j + 500) / 1000)

end Sys2Proof.Machine
end

