-- ==== Sys2Proof/Machine/Flags.lean ====
section
/-! DEFINITION. The marks and states an evaluation computes: window conditions (R72, R89), resolved
classes (R32, R33), the check state machine (R98, R106), alerts beginning and ending (6.5), signature
matching (R108), and the qualification of measurements (R42). -/

namespace Sys2Proof.Machine

/-- R72: DEGRADED. -/
def Window.isDegraded (w : Window) (g : GroupEntry) : Bool :=
  decide (g.fillLimit < w.filled) || w.degradedAtOpen

/-- R89: NO_REFERENCE. -/
def noReference (g : GroupEntry) (kind : Kind) (ref : Nat) : Bool :=
  decide (ref < g.floorFor kind) || decide (ref = 0)

/-- R32: the class AUTO resolves to. -/
def resolveAuto (kind : Kind) (pulse k : Nat) : ResolvedClass :=
  if kind.isDC then
    if k % (10 * pulse) = 0 then .characteristic else .noncharacteristic
  else if k % 10 = 0 ∧ (k / 10 % pulse = 1 ∨ k / 10 % pulse = pulse - 1) then .characteristic
  else .noncharacteristic

/-- R32, R33: the class an evaluation uses for a bin. -/
def resolveClass (kind : Kind) (pulse : Nat) (b : PlanBin) : ResolvedClass :=
  match b.cls with
  | .auto => resolveAuto kind pulse b.k
  | .characteristic => .characteristic
  | .noncharacteristic => .noncharacteristic
  | .watch => .watch

/-- R98: the check state after an evaluation that is not held, for value `r`, limit `l`, hysteresis
`h`, raise count `nr` and clear count `nc`. -/
def checkStep (st : CheckState) (r l h nr nc : Nat) : CheckState :=
  match st with
  | .clear => if l < r then (if nr = 1 then .alert else .rising 1) else .clear
  | .rising n => if l < r then (if nr ≤ n + 1 then .alert else .rising (n + 1)) else .clear
  | .alert => if r + h ≤ l then (if nc = 1 then .clear else .falling 1) else .alert
  | .falling n => if r + h ≤ l then (if nc ≤ n + 1 then .clear else .falling (n + 1)) else .alert

/-- A check is in alert while its state is ALERT or FALLING (6.5). -/
def CheckState.inAlert : CheckState → Bool
  | .alert => true
  | .falling _ => true
  | .clear => false
  | .rising _ => false

/-- An alert begins when a check enters ALERT from CLEAR or RISING (6.5). -/
def alertBegan (before after : CheckState) : Bool := !before.inAlert && after == .alert

/-- An alert ends when a check enters CLEAR from ALERT or FALLING (6.5). -/
def alertEnded (before after : CheckState) : Bool := before.inAlert && after == .clear

/-- R106: the interference check at an evaluation that is not held. A limit of 0 sets CLEAR. -/
def interferenceStep (st : CheckState) (figure : Nat) (g : GroupEntry) (row : PlanRow) :
    CheckState :=
  if g.interferenceLimit = 0 then .clear
  else checkStep st figure g.interferenceLimit g.interferenceHysteresis row.raiseCount
    row.clearCount

/-- R108: whether a SIGNATURES entry matches a channel of `kind` whose checked bins have `states`. -/
def SignatureEntry.isMatch (s : SignatureEntry) (kind : Kind)
    (states : List (Nat × Option CheckState)) : Bool :=
  s.enabled && s.kind == kind
    && s.bins.all fun k => states.any fun p => p.1 == k && p.2 == some .alert

/-- R108: the condition code the signatures give, 0 if none matches. -/
def matchCode (sigs : List SignatureEntry) (kind : Kind)
    (states : List (Nat × Option CheckState)) : Nat :=
  match sigs.find? fun s => s.isMatch kind states with
  | some s => s.code
  | none => 0

/-- R42: whether a measurement is valid. -/
def measurementValid (freq peak floor : Nat) : Bool :=
  decide (45000 ≤ freq) && decide (freq ≤ 55000) && decide (floor ≤ peak)

end Sys2Proof.Machine
end

