-- ==== Sys2Proof/Machine/Operands.lean ====
section
/-! DEFINITION. Chapter 12: how the bytes of frames are read and written. Byte order (R187), the
fields of sample and command frames (R188, R190), the content of table entries (12.5), the codes
shared by several layouts (12.1), and the frames the module builds (R191). -/

namespace Sys2Proof.Machine

/-! ### Reading bytes (R187: most significant byte first) -/

/-- The byte at an offset as a number; a byte not received is 0 (R188). -/
def byteAt (bs : List Byte) (i : Nat) : Nat := (bs.getD i 0).toNat

/-- Two bytes at an offset, most significant first. -/
def word2At (bs : List Byte) (i : Nat) : Nat := 256 * byteAt bs i + byteAt bs (i + 1)

/-- Four bytes at an offset, most significant first. -/
def word4At (bs : List Byte) (i : Nat) : Nat := 65536 * word2At bs i + word2At bs (i + 2)

/-- Four bytes at an offset as a two's complement number. -/
def int4At (bs : List Byte) (i : Nat) : Int := (BitVec.ofNat 32 (word4At bs i)).toInt

/-- R187: a yes/no field is 00h for no and 01h for yes; any other value is undecodable. -/
def yesNo (n : Nat) : Option Bool :=
  if n = 0 then some false else if n = 1 then some true else none

/-! ### Writing bytes -/

/-- One byte. -/
def put1 (n : Nat) : List Byte := [BitVec.ofNat 8 n]

/-- Two bytes, most significant first. -/
def put2 (n : Nat) : List Byte := [BitVec.ofNat 8 (n / 256), BitVec.ofNat 8 n]

/-- Three bytes, most significant first. -/
def put3 (n : Nat) : List Byte := BitVec.ofNat 8 (n / 65536) :: put2 n

/-- Four bytes, most significant first. -/
def put4 (n : Nat) : List Byte := put2 (n / 65536) ++ put2 n

/-- Eight bytes, most significant first. -/
def put8 (n : Nat) : List Byte := put4 (n / 4294967296) ++ put4 n

/-- A signed four-byte field, two's complement. -/
def putInt4 (z : Int) : List Byte := put4 (BitVec.ofInt 32 z).toNat

/-- A yes/no field: 00h for no, 01h for yes. For the marks and flags that have no code of their own this is the
model's choice (log 19). -/
def putBool (b : Bool) : List Byte := put1 (if b then 1 else 0)

/-- R189: an item that may be absent: a presence byte, then its full width, 0 where it is absent. -/
def putOption {α : Type} (width : Nat) (enc : α → List Byte) : Option α → List Byte
  | some x => put1 1 ++ enc x
  | none => put1 0 ++ List.replicate width 0

/-- R189: a set of indices as one byte with bit i set for index i. -/
def setByte (v : Vector Bool 8) : Nat :=
  v.toList.foldr (fun b acc => (if b then 1 else 0) + 2 * acc) 0

/-- Whether bit `i` of a byte is set. -/
def bitOf (n i : Nat) : Bool := n / 2 ^ i % 2 = 1

/-! ### The message of a payload (12.1, R187) -/

/-- R187: the effective length E, the smaller of the message length L and the bytes received. -/
def effectiveLength (payload : List Byte) : Nat := min (word2At payload 1) payload.length

/-- The bytes of a received message: the first E of the payload. -/
def message (payload : List Byte) : List Byte := payload.take (effectiveLength payload)

/-- The frame kind, the first byte of the payload where there is one. It is read from the header
whatever E is (log 9). -/
def frameKind (payload : List Byte) : Option Nat := payload.head?.map BitVec.toNat

/-- Frame kind SAMPLES (12.1). -/
def kindSamples : Nat := 0x01

/-- Frame kind COMMAND (12.1). -/
def kindCommand : Nat := 0x02

/-- Frame kind REPLY (12.1). -/
def kindReply : Nat := 0x03

/-- Frame kind VERDICT (12.1). -/
def kindVerdict : Nat := 0x04

/-- Frame kind ALARM (12.1). -/
def kindAlarm : Nat := 0x05

/-! ### Sample frames (12.2, R188), read from their message -/

/-- Test flag. -/
def sampleTest (m : List Byte) : Bool := bitOf (byteAt m 3) 0

/-- Source id; absent when the message holds no whole one (R188). -/
def sampleSourceId (m : List Byte) : Option Nat :=
  if m.length < 6 then none else some (word2At m 4)

/-- Second count. -/
def sampleSecond (m : List Byte) : Nat := word4At m 6

/-- Block counter. -/
def sampleCounter (m : List Byte) : Nat := word2At m 10

/-- Channel count. -/
def sampleCount (m : List Byte) : Nat := byteAt m 12

/-- Whether the channel quality field marks slot `i` bad. -/
def sampleBad (m : List Byte) (i : Nat) : Bool := bitOf (byteAt m 13) i

/-- The value of slot `i` in set `j`, as received. -/
def sampleValue (m : List Byte) (j i : Nat) : Int := int4At m (14 + 4 * (j * sampleCount m + i))

/-- R10, R188: whether a frame that matches an entry with expected channel count `expected` is
malformed. -/
def sampleMalformed (m : List Byte) (expected : Nat) : Bool :=
  decide (m.length < 14) || decide (m.length < 14 + 16 * sampleCount m)
    || decide (sampleCount m ≠ expected) || decide (sampleCounter m % 4 ≠ 0)
    || decide (12796 < sampleCounter m)

/-! ### Command frames (12.3, R190), read from their message -/

/-- Target station; absent when E is less than 5. -/
def commandTarget (m : List Byte) : Option Nat :=
  if m.length < 5 then none else some (word2At m 3)

/-- Tag, for a message that holds one. -/
def commandTag (m : List Byte) : Nat := word2At m 5

/-- Command code; absent when E is less than 8. -/
def commandCode (m : List Byte) : Option Nat :=
  if m.length < 8 then none else some (byteAt m 7)

/-- The parameter list: bytes 8 to E − 1. -/
def commandParams (m : List Byte) : List Byte := m.drop 8

/-- The codes of the module's commands (12.3). -/
def knownCodes : List Nat :=
  [0x01, 0x02, 0x10, 0x11, 0x12, 0x13, 0x20, 0x21, 0x22, 0x30, 0x31, 0x32, 0x38, 0x39, 0x3A, 0x3B,
   0x40, 0x41, 0x42, 0x50, 0x51, 0x52, 0x53, 0x54]

/-- An empty parameter list. -/
def parseNone (p : List Byte) : Option Unit := if p.length = 0 then some () else none

/-- A parameter list of one byte: a table, or a channel. -/
def parseByte (p : List Byte) : Option Nat := if p.length = 1 then some (byteAt p 0) else none

/-- READ ENTRY: table, index. -/
def parseAddress (p : List Byte) : Option (Nat × Nat) :=
  if p.length = 2 then some (byteAt p 0, byteAt p 1) else none

/-- SET TRACKER: tracker, mode, fixed frequency. -/
def parseSetTracker (p : List Byte) : Option (Nat × Nat × Nat) :=
  if p.length = 6 then some (byteAt p 0, byteAt p 1, word4At p 2) else none

/-- READ CAPTURE: index, count. -/
def parseReadCapture (p : List Byte) : Option (Nat × Nat) :=
  if p.length = 3 then some (word2At p 0, byteAt p 2) else none

/-- WRITE PROTECTION parameters as received (12.3). -/
structure RawProtection where
  mode : Nat
  locks : Nat
  first : Nat
  last : Nat
  complement : Bool
  lockDefault : Bool
  deriving DecidableEq, Repr

/-- WRITE PROTECTION: mode, stored locks, first and last group, complement, runtime-lock default. -/
def parseProtection (p : List Byte) : Option RawProtection :=
  if p.length = 6 then
    match yesNo (byteAt p 4), yesNo (byteAt p 5) with
    | some c, some d =>
      some { mode := byteAt p 0, locks := byteAt p 1, first := byteAt p 2, last := byteAt p 3,
             complement := c, lockDefault := d }
    | _, _ => none
  else none

/-! ### Entry content as received (12.5): decoded fields, not yet checked or clamped -/

/-- GENERAL content. -/
structure RawGeneral where
  station : Nat
  streamType : BitVec 16
  autoStart : Bool
  arbiter : Nat
  source : Nat
  preTrigger : Nat
  classes : Nat
  autoRearm : Bool
  deriving DecidableEq, Repr

/-- SOURCES content. -/
structure RawSource where
  enabled : Bool
  sourceId : Nat
  channelCount : Nat
  fill : Nat
  gapLimit : Nat
  silenceTimeout : Nat
  deriving DecidableEq, Repr

/-- CHANNELS content. -/
structure RawChannel where
  enabled : Bool
  source : Nat
  slot : Nat
  kind : Nat
  group : Nat
  deriving DecidableEq, Repr

/-- GROUPS content. -/
structure RawGroup where
  enabled : Bool
  pulse : Nat
  tracker : Nat
  dcFloor : Nat
  acFloor : Nat
  fillLimit : Nat
  interferenceLimit : Nat
  interferenceHysteresis : Nat
  deriving DecidableEq, Repr

/-- TRACKERS content. -/
structure RawTracker where
  primary : Nat
  secondary : Nat
  floor : Nat
  holdTime : Nat
  mode : Nat
  fixedFrequency : Nat
  deriving DecidableEq, Repr

/-- One bin of PLANS content. -/
structure RawPlanBin where
  k : Nat
  limit : Nat
  cls : Nat
  deriving DecidableEq, Repr

/-- PLANS content. -/
structure RawPlan where
  hysteresis : Nat
  raiseCount : Nat
  clearCount : Nat
  verdictMode : Nat
  bins : List RawPlanBin
  deriving DecidableEq, Repr

/-- BANDS content. -/
structure RawBand where
  enabled : Bool
  low : Nat
  high : Nat
  weight : Nat
  deriving DecidableEq, Repr

/-- SIGNATURES content. -/
structure RawSignature where
  enabled : Bool
  kind : Nat
  bins : List Nat
  code : Nat
  deriving DecidableEq, Repr

/-- The content of an entry with its place, as a WRITE ENTRY carries it. -/
inductive RawWrite where
  | general (r : RawGeneral)
  | source (i : Fin 8) (r : RawSource)
  | channel (i : Fin 16) (r : RawChannel)
  | group (i : Fin 4) (r : RawGroup)
  | tracker (i : Fin 2) (r : RawTracker)
  | plan (i : Fin 16) (r : RawPlan)
  | band (i : Fin 8) (r : RawBand)
  | signature (i : Fin 16) (r : RawSignature)
  deriving DecidableEq, Repr

/-- GENERAL content (11 bytes). -/
def decodeGeneral (b : List Byte) : Option RawGeneral :=
  if b.length = 11 then
    match yesNo (byteAt b 4), yesNo (byteAt b 10) with
    | some a, some r =>
      some { station := word2At b 0, streamType := BitVec.ofNat 16 (word2At b 2), autoStart := a,
             arbiter := byteAt b 5, source := byteAt b 6, preTrigger := word2At b 7,
             classes := byteAt b 9, autoRearm := r }
    | _, _ => none
  else none

/-- SOURCES content (7 bytes). -/
def decodeSource (b : List Byte) : Option RawSource :=
  if b.length = 7 then
    (yesNo (byteAt b 0)).map fun e =>
      { enabled := e, sourceId := word2At b 1, channelCount := byteAt b 3, fill := byteAt b 4,
        gapLimit := byteAt b 5, silenceTimeout := byteAt b 6 }
  else none

/-- CHANNELS content (5 bytes). -/
def decodeChannel (b : List Byte) : Option RawChannel :=
  if b.length = 5 then
    (yesNo (byteAt b 0)).map fun e =>
      { enabled := e, source := byteAt b 1, slot := byteAt b 2, kind := byteAt b 3,
        group := byteAt b 4 }
  else none

/-- GROUPS content (21 bytes). -/
def decodeGroup (b : List Byte) : Option RawGroup :=
  if b.length = 21 then
    (yesNo (byteAt b 0)).map fun e =>
      { enabled := e, pulse := byteAt b 1, tracker := byteAt b 2, dcFloor := word4At b 3,
        acFloor := word4At b 7, fillLimit := word2At b 11, interferenceLimit := word4At b 13,
        interferenceHysteresis := word4At b 17 }
  else none

/-- TRACKERS content (13 bytes). -/
def decodeTracker (b : List Byte) : Option RawTracker :=
  if b.length = 13 then
    some { primary := byteAt b 0, secondary := byteAt b 1, floor := word4At b 2,
           holdTime := word2At b 6, mode := byteAt b 8, fixedFrequency := word4At b 9 }
  else none

/-- PLANS content (6 + 5m bytes, m the count byte at offset 5). -/
def decodePlan (b : List Byte) : Option RawPlan :=
  if 6 ≤ b.length ∧ b.length = 6 + 5 * byteAt b 5 then
    some { hysteresis := word2At b 0, raiseCount := byteAt b 2, clearCount := byteAt b 3,
           verdictMode := byteAt b 4,
           bins := (List.range (byteAt b 5)).map fun j =>
             { k := word2At b (6 + 5 * j), limit := word2At b (8 + 5 * j),
               cls := byteAt b (10 + 5 * j) } }
  else none

/-- BANDS content (7 bytes). -/
def decodeBand (b : List Byte) : Option RawBand :=
  if b.length = 7 then
    (yesNo (byteAt b 0)).map fun e =>
      { enabled := e, low := word2At b 1, high := word2At b 3, weight := word2At b 5 }
  else none

/-- SIGNATURES content (4 + 2m bytes, m the count byte at offset 2). -/
def decodeSignature (b : List Byte) : Option RawSignature :=
  if 4 ≤ b.length ∧ b.length = 4 + 2 * byteAt b 2 then
    (yesNo (byteAt b 0)).map fun e =>
      { enabled := e, kind := byteAt b 1,
        bins := (List.range (byteAt b 2)).map fun j => word2At b (3 + 2 * j),
        code := byteAt b (3 + 2 * byteAt b 2) }
  else none

/-- A number as an index below `n`. -/
def index? (n i : Nat) : Option (Fin n) := if h : i < n then some ⟨i, h⟩ else none

/-- WRITE ENTRY: table, index, content. A list that cannot be decoded (R190) and an address that
does not exist (R160) are refused alike, BAD_PARAM before the table memory is requested, so both
give `none`. -/
def parseWrite (p : List Byte) : Option RawWrite :=
  if p.length < 2 then none else
  match byteAt p 0 with
  | 0 => (index? 1 (byteAt p 1)).bind fun _ => (decodeGeneral (p.drop 2)).map .general
  | 1 => (index? 8 (byteAt p 1)).bind fun i => (decodeSource (p.drop 2)).map (.source i)
  | 2 => (index? 16 (byteAt p 1)).bind fun i => (decodeChannel (p.drop 2)).map (.channel i)
  | 3 => (index? 4 (byteAt p 1)).bind fun i => (decodeGroup (p.drop 2)).map (.group i)
  | 4 => (index? 2 (byteAt p 1)).bind fun i => (decodeTracker (p.drop 2)).map (.tracker i)
  | 5 => (index? 16 (byteAt p 1)).bind fun i => (decodePlan (p.drop 2)).map (.plan i)
  | 6 => (index? 8 (byteAt p 1)).bind fun i => (decodeBand (p.drop 2)).map (.band i)
  | 7 => (index? 16 (byteAt p 1)).bind fun i => (decodeSignature (p.drop 2)).map (.signature i)
  | _ => none

/-! ### Codes (12.1, 12.5, R189) -/

/-- Table numbers (9.4). -/
def TableId.num : TableId → Fin 8
  | .general => 0
  | .sources => 1
  | .channels => 2
  | .groups => 3
  | .trackers => 4
  | .plans => 5
  | .bands => 6
  | .signatures => 7

/-- The table of a number (9.4). -/
def tableOf? : Nat → Option TableId
  | 0 => some .general
  | 1 => some .sources
  | 2 => some .channels
  | 3 => some .groups
  | 4 => some .trackers
  | 5 => some .plans
  | 6 => some .bands
  | 7 => some .signatures
  | _ => none

/-- Channel kind codes. -/
def Kind.code : Kind → Nat
  | .acVoltage => 0
  | .acCurrent => 1
  | .dcVoltage => 2
  | .dcCurrent => 3

/-- The kind of a code. -/
def kindOf? : Nat → Option Kind
  | 0 => some .acVoltage
  | 1 => some .acCurrent
  | 2 => some .dcVoltage
  | 3 => some .dcCurrent
  | _ => none

/-- Bin class codes, as written. -/
def BinClass.code : BinClass → Nat
  | .auto => 0
  | .characteristic => 1
  | .noncharacteristic => 2
  | .watch => 3

/-- The bin class of a code. -/
def binClassOf? : Nat → Option BinClass
  | 0 => some .auto
  | 1 => some .characteristic
  | 2 => some .noncharacteristic
  | 3 => some .watch
  | _ => none

/-- Bin class codes, as resolved. -/
def ResolvedClass.code : ResolvedClass → Nat
  | .characteristic => 1
  | .noncharacteristic => 2
  | .watch => 3

/-- Class codes in the capture header. -/
def AlertClass.code : AlertClass → Nat
  | .characteristic => 1
  | .noncharacteristic => 2
  | .interference => 4

/-- Check state codes; `none` is a WATCH bin's. -/
def checkStateCode : Option CheckState → Nat
  | some .clear => 0
  | some (.rising _) => 1
  | some .alert => 2
  | some (.falling _) => 3
  | none => 4

/-- The count of a check state, 0 where it does not apply. -/
def checkStateCount : Option CheckState → Nat
  | some (.rising n) => n
  | some (.falling n) => n
  | _ => 0

/-- Tracker state codes. -/
def TrackerState.code : TrackerState → Nat
  | .followPrimary => 0
  | .followSecondary => 1
  | .hold => 2
  | .free => 3
  | .fixed => 4

/-- Fault kinds counted from 0; the code of 12.1 is one more. -/
def FaultKind.index : FaultKind → Fin 12
  | .malformedFrame => 0
  | .sourceRealign => 1
  | .sourceLost => 2
  | .referenceSwitch => 3
  | .trackerHold => 4
  | .trackerFree => 5
  | .windowMissed => 6
  | .recordDropped => 7
  | .forwardDropped => 8
  | .commandDropped => 9
  | .storeFailed => 10
  | .storedInvalid => 11

/-- Fault kind codes. -/
def FaultKind.code (k : FaultKind) : Nat := k.index.val + 1

/-- Status codes. -/
def Status.code : Status → Nat
  | .done => 0
  | .adjusted => 1
  | .inProgress => 2
  | .busy => 3
  | .protected_ => 4
  | .badParam => 5
  | .wrongState => 6
  | .unknownCommand => 7

/-- Operating states, by position in R151's list (R189). -/
def OpState.code : OpState → Nat
  | .loading => 0
  | .configuring => 1
  | .analysing => 2

/-- Source states, by position in R22's list (R189). -/
def SourceState.code : SourceState → Nat
  | .off => 0
  | .await => 1
  | .running => 2
  | .lost => 3

/-- Measurer states, by position in R38's table (R189). -/
def MeasurerState.code : MeasurerState → Nat
  | .idle => 0
  | .seeking => 1
  | .counting => 2

/-- Capture states, by position in R134's table (R189). -/
def CaptureState.code : CaptureState → Nat
  | .off => 0
  | .armed => 1
  | .post => 2
  | .held => 3

/-- Fill policy codes (12.5). -/
def FillPolicy.code : FillPolicy → Nat
  | .repeatLast => 0
  | .zero => 1

/-- Requested mode codes (12.5). -/
def RequestedMode.code : RequestedMode → Nat
  | .auto => 0
  | .fixed => 1

/-- The requested mode of a code. -/
def requestedModeOf? : Nat → Option RequestedMode
  | 0 => some .auto
  | 1 => some .fixed
  | _ => none

/-- Verdict mode codes (12.5). -/
def VerdictMode.code : VerdictMode → Nat
  | .all => 0
  | .changes => 1
  | .silent => 2

/-- The verdict mode of a code. -/
def verdictModeOf? : Nat → Option VerdictMode
  | 0 => some .all
  | 1 => some .changes
  | 2 => some .silent
  | _ => none

/-- Arbiter mode codes (12.5). -/
def ArbiterMode.code : ArbiterMode → Nat
  | .fixed => 0
  | .rotating => 1

/-- Protect mode codes (12.3). -/
def ProtectMode.code : ProtectMode → Nat
  | .opened => 0
  | .keyed => 1

/-- The reference channel of a code: FFh is none, 0..15 a channel; anything else is neither. -/
def referenceOf? (n : Nat) : Option (Option (Fin 16)) :=
  if n = 255 then some none else (index? 16 n).map some

/-! ### Entry content as returned (12.5) -/

/-- A reference channel, FFh for none. -/
def putReference : Option (Fin 16) → List Byte
  | some c => put1 c.val
  | none => put1 255

/-- The trigger classes byte. -/
def triggerClassesByte (t : TriggerClasses) : Nat :=
  (if t.characteristic then 1 else 0) + (if t.noncharacteristic then 2 else 0)
    + (if t.interference then 4 else 0)

/-- GENERAL content. -/
def encodeGeneral (e : GeneralEntry) : List Byte :=
  put2 e.station ++ put2 e.streamType.toNat ++ putBool e.autoStart ++ put1 e.arbiterMode.code
    ++ put1 e.capture.source.val ++ put2 e.capture.preTrigger
    ++ put1 (triggerClassesByte e.capture.classes) ++ putBool e.capture.autoRearm

/-- SOURCES content. -/
def encodeSource (e : SourceEntry) : List Byte :=
  putBool e.enabled ++ put2 e.sourceId ++ put1 e.channelCount ++ put1 e.fill.code
    ++ put1 e.gapLimit ++ put1 e.silenceTimeout

/-- CHANNELS content. -/
def encodeChannel (e : ChannelEntry) : List Byte :=
  putBool e.enabled ++ put1 e.source.val ++ put1 e.slot.val ++ put1 e.kind.code
    ++ put1 e.group.val

/-- GROUPS content. -/
def encodeGroup (e : GroupEntry) : List Byte :=
  putBool e.enabled ++ put1 e.pulse ++ put1 e.tracker.val ++ put4 e.dcFloor ++ put4 e.acFloor
    ++ put2 e.fillLimit ++ put4 e.interferenceLimit ++ put4 e.interferenceHysteresis

/-- TRACKERS content. -/
def encodeTracker (e : TrackerEntry) : List Byte :=
  putReference e.primary ++ putReference e.secondary ++ put4 e.floor ++ put2 e.holdTime
    ++ put1 e.mode.code ++ put4 e.fixedFrequency

/-- PLANS content. -/
def encodePlan (e : PlanRow) : List Byte :=
  put2 e.hysteresis ++ put1 e.raiseCount ++ put1 e.clearCount ++ put1 e.verdictMode.code
    ++ put1 e.bins.length ++ e.bins.flatMap fun b => put2 b.k ++ put2 b.limit ++ put1 b.cls.code

/-- BANDS content. -/
def encodeBand (e : BandEntry) : List Byte :=
  putBool e.enabled ++ put2 e.low ++ put2 e.high ++ put2 e.weight

/-- SIGNATURES content. -/
def encodeSignature (e : SignatureEntry) : List Byte :=
  putBool e.enabled ++ put1 e.kind.code ++ put1 e.bins.length ++ e.bins.flatMap put2
    ++ put1 e.code

/-- The content of an entry as written (R162). -/
def EntryWrite.content : EntryWrite → List Byte
  | .general e => encodeGeneral e
  | .source _ e => encodeSource e
  | .channel _ e => encodeChannel e
  | .group _ e => encodeGroup e
  | .tracker _ e => encodeTracker e
  | .plan _ e => encodePlan e
  | .band _ e => encodeBand e
  | .signature _ e => encodeSignature e

/-- R161: the content of the entry at a table number and an index, where there is one (R160). -/
def entryContent (t : Tables) (table i : Nat) : Option (List Byte) :=
  match table with
  | 0 => (index? 1 i).map fun _ => encodeGeneral t.general
  | 1 => (index? 8 i).map fun j => encodeSource t.sources[j]
  | 2 => (index? 16 i).map fun j => encodeChannel t.channels[j]
  | 3 => (index? 4 i).map fun j => encodeGroup t.groups[j]
  | 4 => (index? 2 i).map fun j => encodeTracker t.trackers[j]
  | 5 => (index? 16 i).map fun j => encodePlan t.plans[j]
  | 6 => (index? 8 i).map fun j => encodeBand t.bands[j]
  | 7 => (index? 16 i).map fun j => encodeSignature t.signatures[j]
  | _ => none

/-! ### Items of result lists (R189) -/

/-- A fault detail, 8 bytes. An absent one is 0, marked by the presence byte before it. -/
def putDetail : FaultDetail → List Byte
  | .absent => put1 0 ++ put8 0
  | .number n => put1 1 ++ put8 n
  | .position s c => put1 1 ++ put4 s ++ put2 c ++ put2 0

/-- The content of a fault record (R180): kind, subject, detail, local time. -/
def putFaultRecord (r : FaultRecord) : List Byte :=
  put1 r.kind.code ++ put1 r.subject ++ putDetail r.detail ++ put4 r.time.toNat

/-- The fault record or empty, the summary flag of each kind, and the more-faults count. -/
def putFaultUnit (f : FaultUnit) : List Byte :=
  putOption 15 putFaultRecord f.record ++ f.summary.toList.flatMap putBool ++ put2 f.more

/-- A stamp, 6 bytes. -/
def putStamp (s : Stamp) : List Byte := put4 s.second ++ put2 s.counter

/-- The capture cause, 9 bytes (R189). -/
def putCaptureCause : CaptureCause → List Byte
  | .command tag => put1 0 ++ put2 tag ++ put1 0 ++ put2 0 ++ put1 0 ++ put2 0
  | .alert c k cls seq =>
    put1 1 ++ put2 0 ++ put1 c.val ++ put2 (k.getD 0) ++ put1 cls.code ++ put2 seq

/-- The capture header's fields in the order of R134's table (log 17), the truncated flag 01h where it is set
(log 19). -/
def putCaptureHeader (h : CaptureHeader) : List Byte :=
  put1 h.source.val ++ put1 h.perSet ++ putCaptureCause h.cause ++ putOption 6 putStamp h.stamp
    ++ put4 h.time.toNat ++ put2 h.preActual ++ put2 (h.total.getD 0) ++ putBool h.truncated

/-- The capture header with its presence byte; 27 bytes follow it. -/
def putHeaderItem (h : Option CaptureHeader) : List Byte := putOption 27 putCaptureHeader h

/-- One set of READ CAPTURE (12.3): second, block counter, mark byte, filled byte, values. -/
def putCapturedSet (perSet : Nat) (ss : SampleSet) : List Byte :=
  put4 ss.stamp.second ++ put2 ss.stamp.counter ++ put1 (if ss.test then 1 else 0)
    ++ put1 ((ss.values.take perSet).foldr (fun v acc => (if v.filled then 1 else 0) + 2 * acc) 0)
    ++ (ss.values.take perSet).flatMap fun v => putInt4 v.value

/-- The progress of QUERY PROGRESS (R167): its position in the rule's list, then its table with a
presence byte, 255 standing for PROTECTION; in STORING PROTECTION, as with no operation, the table is
absent, 00h 00h (log 14). -/
def putProgress (op : StoreOp) (table : TableImage → TableId) (o : StoreOutcome) : List Byte :=
  let target : Option TableId → List Byte := fun t =>
    put1 1 ++ put1 (match t with | some t => t.num.val | none => 255)
  match op with
  | .storing b => put1 0 ++ target (some (table b))
  | .restoring t => put1 1 ++ target (some t)
  | .storingProtection => put1 2 ++ put1 0 ++ put1 0
  | .idle =>
    match o with
    | .doneOk t _ => put1 3 ++ target t
    | .failed t => put1 4 ++ target t
    | .none => put1 5 ++ put1 0 ++ put1 0

/-- Protection in force (R167), in the codes of WRITE PROTECTION's parameters (log 19). -/
def putProtection (p : Protection) : List Byte :=
  put1 p.mode.code ++ put1 (setByte p.locks) ++ put1 p.first.val ++ put1 p.last.val
    ++ putBool p.complement ++ putBool p.lockDefault

/-- One yes/no byte for each of 8 tables or sources, in index order. -/
def putBools (v : Vector Bool 8) : List Byte := v.toList.flatMap putBool

/-- A last measurement: frequency and valid mark, or absent. Chapter 12 gives the mark no code: 01h for valid
is the model's choice (log 19). -/
def putMeasurement (m : Option Measurement) : List Byte :=
  putOption 5 (fun x => put4 x.freq ++ putBool x.valid) m

/-- A measurer as READ STATUS reports it (R54). Its usability, which has no code, is sent 01h for usable (log
19). -/
def putMeasurer (m : Measurer) : List Byte :=
  put1 m.state.code ++ putMeasurement m.last ++ putBool m.usable

/-- A tracker as READ STATUS reports it (R54). Its at-limit flag, which has no code, is sent 01h where it is
set (log 19). -/
def putTracker (t : Tracker) : List Byte :=
  put1 t.state.code ++ put4 t.freq ++ putBool t.atLimit ++ putMeasurer t.primary
    ++ putMeasurer t.secondary

/-- The six counters of a source, in the order of 11.2. -/
def putSourceCounters (c : SourceCounters) : List Byte :=
  put2 c.gapBlocks ++ put2 c.stale ++ put2 c.realigns ++ put2 c.losses ++ put2 c.clamped
    ++ put2 c.malformed

/-- The four counters of a channel, in the order of 11.2. -/
def putChannelCounters (c : ChannelCounters) : List Byte :=
  put2 c.evaluated ++ put2 c.abandoned ++ put2 c.missed ++ put2 c.degraded

/-- Every counter in the order of R184. -/
def putCounters (c : Counters) : List Byte :=
  c.sources.toList.flatMap putSourceCounters ++ c.channels.toList.flatMap putChannelCounters
    ++ put2 c.forwardDropsAB ++ put2 c.forwardDropsBA ++ put2 c.verdictDrops ++ put2 c.alarmDrops
    ++ put2 c.commandDrops ++ put2 c.malformedCommands ++ put2 c.foreignFrames

/-- The last evaluation summary (R112): the sequence number, then DEGRADED, TEST and NO_REFERENCE as one
yes/no byte each (log 16). -/
def putSummary (e : EvalSummary) : List Byte :=
  put2 e.seq ++ putBool e.degraded ++ putBool e.test ++ putBool e.noReference

/-- One bin result of READ CHECKS (R112). -/
def putBinCheck (row : PlanBin) (c : BinCheck) : List Byte :=
  put2 row.k ++ put2 row.limit ++ put1 row.cls.code
    ++ putOption 1 (fun r => put1 (ResolvedClass.code r)) c.lastClass
    ++ put1 (checkStateCode c.state) ++ put1 (checkStateCount c.state)
    ++ putOption 2 put2 c.lastRatio

/-- The interference item of READ CHECKS: check state with its count, last figure or absent. -/
def putInterference (st : CheckState) (fig : Option Nat) : List Byte :=
  put1 (checkStateCode (some st)) ++ put1 (checkStateCount (some st)) ++ putOption 4 put4 fig

/-! ### Frames the module builds (R191) -/

/-- R191: a frame of the stream: the line address as source, the message with its length field, the
payload padded with 00h to 46 bytes, the frame check sequence agreeing. -/
def buildFrame (line : Line) (dest : BitVec 48) (streamType : BitVec 16) (kind : Nat)
    (body : List Byte) : Frame :=
  let msg := put1 kind ++ put2 (3 + body.length) ++ body
  { dest := dest
    src := Config.lineAddress line
    ftype := streamType
    payload := msg ++ List.replicate (46 - msg.length) 0
    fcsAgrees := true }

/-- R148, 12.3: the message of a reply after its length field. A missing code is sent as 00h
(R190). -/
def replyBody (station : Nat) (cmd : List Byte) (status : Status) (result : List Byte) :
    List Byte :=
  put2 station ++ put2 (commandTag cmd) ++ put1 ((commandCode cmd).getD 0) ++ put1 status.code
    ++ result

/-- The all-ones address records are sent to (R191). -/
def allOnes : BitVec 48 := BitVec.allOnes 48

/-- One bin result of a verdict record (12.4), 12 bytes. -/
def putBinResult (b : BinResult) : List Byte :=
  put2 b.k ++ put4 b.magnitude ++ put2 (b.ratio.getD 0) ++ put1 b.cls.code
    ++ put1 (if b.state.isSome then checkStateCode b.state else 0)
    ++ put1 (checkStateCount b.state)
    ++ put1 ((if b.ratio.isSome then 1 else 0) + (if b.state.isSome then 2 else 0))

/-- The flags byte of a verdict record (12.4). -/
def verdictFlagsByte (v : VerdictRecord) : Nat :=
  (if v.flags.degraded then 1 else 0) + (if v.flags.test then 2 else 0)
    + (if v.flags.noReference then 4 else 0) + (if v.flags.saturated then 8 else 0)
    + (if v.flags.atLimit then 16 else 0) + (if v.interference.isSome then 32 else 0)
    + (if v.code ≠ 0 then 64 else 0)

/-- The message of a verdict record after its length field (12.4). A field that is absent is sent
as 0 (R191). -/
def verdictBody (v : VerdictRecord) : List Byte :=
  put2 v.station ++ put1 v.channel.val ++ put1 v.group.val ++ put2 v.seq ++ put4 v.stamp.second
    ++ put2 v.stamp.counter ++ put2 v.len ++ put4 v.freq ++ put1 v.trackerState.code
    ++ put1 (verdictFlagsByte v) ++ put2 v.filled ++ putInt4 v.mean ++ put4 v.a10 ++ put4 v.ref
    ++ put1 v.code
    ++ (match v.interference with
        | some (fig, st) =>
          put1 (checkStateCode (some st)) ++ put1 (checkStateCount (some st)) ++ put3 fig
        | none => List.replicate 5 0)
    ++ put1 v.bins.length ++ v.bins.flatMap putBinResult

/-- The variable fields of an alarm record by cause (12.4): channel, cause code, presence bits,
sequence, bin k, class, code or state, tracker, figure or frequency, fault subject. -/
structure AlarmFields where
  channel : Nat
  cause : Nat
  presence : Nat
  seq : Nat
  k : Nat
  cls : Nat
  code : Nat
  tracker : Nat
  figure : Nat
  subject : Nat
  deriving DecidableEq, Repr

/-- R121, R122, R181: what each cause puts into the fields of an alarm record. -/
def Cause.fields : Cause → AlarmFields
  | .binAlert c seq k cls =>
    { channel := c.val, cause := 1, presence := 3, seq := seq, k := k, cls := cls.code,
      code := 2, tracker := 0, figure := 0, subject := 0 }
  | .binClear c seq k cls =>
    { channel := c.val, cause := 2, presence := 3, seq := seq, k := k, cls := cls.code,
      code := 0, tracker := 0, figure := 0, subject := 0 }
  | .interferenceAlert c seq fig =>
    { channel := c.val, cause := 3, presence := 5, seq := seq, k := 0, cls := 0, code := 2,
      tracker := 0, figure := fig, subject := 0 }
  | .interferenceClear c seq fig =>
    { channel := c.val, cause := 4, presence := 5, seq := seq, k := 0, cls := 0, code := 0,
      tracker := 0, figure := fig, subject := 0 }
  | .signature c seq code =>
    { channel := c.val, cause := 5, presence := 1, seq := seq, k := 0, cls := 0, code := code,
      tracker := 0, figure := 0, subject := 0 }
  | .trackerState t st freq =>
    { channel := 255, cause := 6, presence := 8, seq := 0, k := 0, cls := 0, code := st.code,
      tracker := t.val, figure := freq, subject := 0 }
  | .faultCaptured kind subject =>
    { channel := 255, cause := 7, presence := 16, seq := 0, k := 0, cls := 0, code := kind.code,
      tracker := 0, figure := 0, subject := subject }

/-- The message of an alarm record after its length field (12.4). -/
def alarmBody (a : AlarmRecord) : List Byte :=
  let f := a.cause.fields
  put2 a.station ++ put1 f.channel ++ put1 f.cause ++ put1 f.presence ++ put2 f.seq ++ put2 f.k
    ++ put1 f.cls ++ put1 f.code ++ put1 f.tracker ++ put4 f.figure ++ put1 f.subject
    ++ put4 a.localTime.toNat

/-- The frame of a record, sent on line B (R191). -/
def recordFrame : OutRecord → Frame
  | .verdict v => buildFrame .b allOnes v.streamType kindVerdict (verdictBody v)
  | .alarm a => buildFrame .b allOnes a.streamType kindAlarm (alarmBody a)

end Sys2Proof.Machine
end

