-- ==== Sys2Proof/Machine/Defaults.lean ====
section
/-! DEFINITION. The factory defaults given beside each table (1.3, 2.1, 2.2, 3.1, 6.1, 6.3.1, 6.4.1,
8.1, 9.5) and the factory protection record (R166), and the fresh value of each runtime record. -/

namespace Sys2Proof.Machine

/-- Default of a SOURCES entry (1.3). -/
def factorySource : SourceEntry :=
  { enabled := false, sourceId := 1, channelCount := 1, fill := .repeatLast, gapLimit := 8,
    silenceTimeout := 5 }

/-- Default of a CHANNELS entry (2.1). -/
def factoryChannel : ChannelEntry :=
  { enabled := false, source := 0, slot := 0, kind := .acVoltage, group := 0 }

/-- Default of a GROUPS entry (2.2). -/
def factoryGroup : GroupEntry :=
  { enabled := false, pulse := 12, tracker := 0, dcFloor := 1000, acFloor := 1000,
    fillLimit := 64, interferenceLimit := 0, interferenceHysteresis := 0 }

/-- Default of a TRACKERS entry (3.1). -/
def factoryTracker : TrackerEntry :=
  { primary := none, secondary := none, floor := 100000, holdTime := 10, mode := .auto,
    fixedFrequency := 50000 }

/-- Default of a PLANS row (6.1). -/
def factoryPlan : PlanRow :=
  { hysteresis := 10, raiseCount := 3, clearCount := 3, verdictMode := .changes, bins := [] }

/-- Default of a BANDS entry (6.3.1). -/
def factoryBand : BandEntry := { enabled := false, low := 1, high := 1, weight := 0 }

/-- Default of a SIGNATURES entry (6.4.1). -/
def factorySignature : SignatureEntry :=
  { enabled := false, kind := .acVoltage, bins := [20], code := 1 }

/-- Default of the capture settings (8.1). -/
def factoryCapture : CaptureSettings :=
  { source := 0, preTrigger := 3072,
    classes := { characteristic := false, noncharacteristic := true, interference := false },
    autoRearm := false }

/-- Default of GENERAL (9.5). -/
def factoryGeneral : GeneralEntry :=
  { station := 1, streamType := 0x9A4C#16, autoStart := false, arbiterMode := .rotating,
    capture := factoryCapture }

/-- The factory tables (R166). -/
def factoryTables : Tables :=
  { general := factoryGeneral
    sources := Vector.replicate 8 factorySource
    channels := Vector.replicate 16 factoryChannel
    groups := Vector.replicate 4 factoryGroup
    trackers := Vector.replicate 2 factoryTracker
    plans := Vector.replicate 16 factoryPlan
    bands := Vector.replicate 8 factoryBand
    signatures := Vector.replicate 16 factorySignature }

/-- The factory protection record: mode OPEN, no stored lock, a guard range that covers no group,
runtime-lock default clear (R166). -/
def factoryProtection : Protection :=
  { mode := .opened, locks := Vector.replicate 8 false, first := 1, last := 0,
    complement := false, lockDefault := false }

/-- The settings store as the module leaves the factory (R166). What the invalid copy 1 holds beside
its mark is not stated, and nothing reads it while it is invalid (log 13). -/
def factoryStore : SettingsStore :=
  { images := factoryTables
    valid := Vector.replicate 8 true
    copy0 := { content := factoryProtection, generation := 0, valid := true }
    copy1 := { content := factoryProtection, generation := 0, valid := false }
    op := .idle
    outcome := .none }

/-- A source right after reset: OFF (R9), its last position absent and its last values 0 (log 12). -/
def freshSource : SourceRecord :=
  { state := .off, lastPos := none, lastValues := Vector.replicate 8 0, silence := none }

/-- A measurer after a restart (R53), IDLE until the load completes (log 12). -/
def freshMeasurer : Measurer :=
  { state := .idle, armed := false, prev := none, index := 0, startStamp := 0, crossings := 0,
    peak := 0, last := none, run := 0, usable := false }

/-- A tracker after a restart: FREE at 50,000 mHz (R53). -/
def freshTracker : Tracker :=
  { state := .free, freq := Config.nominalFrequency, atLimit := false, hold := none,
    primary := freshMeasurer, secondary := freshMeasurer }

/-- A channel unit after a restart (R73), its bin list empty until the load completes (log 12). -/
def freshChannel : ChannelUnit := { ctx0 := .free, ctx1 := .free, seqNext := 0, binList := [] }

/-- The check results of a channel with no plan bins, all CLEAR or absent (R113): what they hold from a restart
until the load completes (DESIGN CHOICE, log 12). -/
def freshChecks : ChannelChecks :=
  { bins := [], interferenceState := .clear, lastFigure := none, code := 0, summary := none }

/-- The capture unit after a restart (R134). -/
def freshCapture : CaptureUnit :=
  { settings := factoryCapture, state := .off, source := 0, perSet := 1, buffer := [],
    header := none, missed := 0 }

/-- The output side of a line after a power-on restart (R131). -/
def freshLine : LineOut := { forward := [], replies := [], sending := none, passedOver := 0 }

/-- The command unit after a restart (R156). -/
def freshCommand : CommandUnit := { queue := [], requested := false, restart := .none }

/-- The fault unit after a power-on restart (R183). -/
def freshFault : FaultUnit := { record := none, summary := Vector.replicate 12 false, more := 0 }

/-- The counters of a source, all 0. -/
def zeroSourceCounters : SourceCounters :=
  { gapBlocks := 0, stale := 0, realigns := 0, losses := 0, clamped := 0, malformed := 0 }

/-- The counters of a channel, all 0. -/
def zeroChannelCounters : ChannelCounters :=
  { evaluated := 0, abandoned := 0, missed := 0, degraded := 0 }

/-- Every counter 0 (R184, R185). -/
def zeroCounters : Counters :=
  { sources := Vector.replicate 8 zeroSourceCounters
    channels := Vector.replicate 16 zeroChannelCounters
    forwardDropsAB := 0, forwardDropsBA := 0, verdictDrops := 0, alarmDrops := 0,
    commandDrops := 0, malformedCommands := 0, foreignFrames := 0 }

end Sys2Proof.Machine
end

