-- ==== Sys2Proof/Machine/State.lean ====
section
/-! DEFINITION. The whole state of the module as plain data, the machine right after reset, and the
two closed lists of reasons a step can stop (none of the manual's events stops the module). -/

namespace Sys2Proof.Machine

/-- Faults of the model. There are none: the manual gives every event of the module an effect, and
the faults it speaks of are reports to the fault unit (chapter 11), which are effects on the state.
Safe: the type is empty, so no step can end in one. -/
inductive Fault where
  deriving DecidableEq, Repr

/-- Refusals of the model. -/
inductive Refusal where
  /-- Raised by an arm of `exec` that has no meaning yet. Safe: it answers no state. No arm of this
  model raises it. -/
  | notModelled (mnemonic : String)
  deriving DecidableEq, Repr

/-- The state of the module (INVENTORY.md lists each field with the rule that names it). -/
@[ext]
structure State where
  /-- Whether the 24 V supply is applied (0.7, R166). -/
  powered : Bool
  /-- The maintenance line: closed, or open (R175). -/
  maintenanceClosed : Bool
  /-- Local time in ms (R186). -/
  localTime : BitVec 32
  /-- The operating state (R151). -/
  opState : OpState
  /-- In LOADING, how many tables the load has copied, in table order (R172). -/
  loadedTables : Nat
  /-- The station number in force until the load reaches GENERAL (R157). -/
  bootStation : Nat
  /-- The stream type in force until the load reaches GENERAL (R157). -/
  bootStreamType : BitVec 16
  /-- The working tables (5.3). -/
  tables : Tables
  /-- The runtime record of each source (1.4). -/
  sources : Vector SourceRecord 8
  /-- The last-gap source, absent (255) if none (R22). -/
  lastGap : Option (Fin 8)
  /-- The lost-source set (R19). -/
  lostSources : Vector Bool 8
  /-- The trackers FT0 and FT1 (R44) with their measurers (R38). -/
  trackers : Vector Tracker 2
  /-- The channel units (R55, R56, R58). -/
  channels : Vector ChannelUnit 16
  /-- The close arbiter's rotation point (R76). -/
  rotation : Fin 16
  /-- The spectral engine (R78). -/
  engine : Engine
  /-- The owner of the table memory (R79). -/
  memOwner : MemOwner
  /-- The check results of each channel (R96). -/
  checks : Vector ChannelChecks 16
  /-- The record queue, head first (R123). -/
  records : List OutRecord
  /-- Line A's output side: the B→A forward queue, its reply queue and its transmitter. -/
  lineA : LineOut
  /-- Line B's output side: the A→B forward queue, its reply queue and its transmitter. -/
  lineB : LineOut
  /-- The capture unit (R134). -/
  capture : CaptureUnit
  /-- The command unit (R147). -/
  command : CommandUnit
  /-- The settings store and the store unit (R166, R167). -/
  store : SettingsStore
  /-- The protection logic (R176, R178). -/
  protection : ProtectionLogic
  /-- The fault unit (R180). -/
  fault : FaultUnit
  /-- The counters (R184). -/
  counters : Counters
  /-- The model's own field: the coincidences of the step being taken (log 5). Empty between steps
  that set it. -/
  ties : List Nat
  /-- The model's own field: the commands waiting for the block, first in, first out (log 1). -/
  pending : List Instr
  deriving DecidableEq, Repr

/-- The module right after the power-on restart of a module as it leaves the factory (R156, R166):
LOADING, its load not yet begun to copy, every queue and the fault record empty. The maintenance
line, an input, is taken open (log 11). -/
def State.reset : State :=
  { powered := true
    maintenanceClosed := false
    localTime := 0
    opState := .loading
    loadedTables := 0
    bootStation := 1
    bootStreamType := 0x9A4C#16
    tables := factoryTables
    sources := Vector.replicate 8 freshSource
    lastGap := none
    lostSources := Vector.replicate 8 false
    trackers := Vector.replicate 2 freshTracker
    channels := Vector.replicate 16 freshChannel
    rotation := 0
    engine := .idle
    memOwner := .store
    checks := Vector.replicate 16 freshChecks
    records := []
    lineA := freshLine
    lineB := freshLine
    capture := freshCapture
    command := freshCommand
    store := factoryStore
    protection := { runtime := Vector.replicate 8 false, freeze := false }
    fault := freshFault
    counters := zeroCounters
    ties := []
    pending := [] }

end Sys2Proof.Machine
end

