-- ==== Sys2Proof/Machine/Ops.lean ====
section
/-! DEFINITION. The named operations every block uses: saturating counts (R184), coincidences left
unordered (log 5), the station number and stream type in force (R157), the output arbiters (R128,
R129), the forward queues (R3), the record queue (R123, R124), the fault unit (R180, R181) and the
reply queues (R127). -/

namespace Sys2Proof.Machine

/-! ### Counts and ranges -/

/-- R184: an increase of a counter, saturating at 65,535. -/
def countUp (n by_ : Nat) : Nat := min Config.counterMax (n + by_)

/-- A count that saturates at 255, increased by one (R140, R180). -/
def countUpSmall (n : Nat) : Nat := min Config.smallCountMax (n + 1)

/-- A value clamped into a range. -/
def clampTo (lo hi n : Nat) : Nat := max lo (min hi n)

/-! ### Coincidences (log 5) -/

/-- Two happenings of one instant, "either may be taken first". -/
def either (f g : State → State) (s : State) : State :=
  match s.ties with
  | [] => g (f s)
  | t :: ts => if t % 2 = 0 then g (f { s with ties := ts }) else f (g { s with ties := ts })

/-- A list with an element put in at a position. -/
def insertAt {α : Type} (i : Nat) (x : α) (l : List α) : List α := l.take i ++ x :: l.drop i

/-- A list in the order the coincidences give, and the coincidences left. -/
def orderBy {α : Type} : List α → Ties → List α × Ties
  | [], ts => ([], ts)
  | x :: xs, ts =>
    match orderBy xs ts with
    | ([], ts') => ([x], ts')
    | (ys, []) => (x :: ys, [])
    | (ys, t :: ts') => (insertAt (t % (ys.length + 1)) x ys, ts')

/-- Happenings of one instant with no order among them, one for each element of a list. -/
def inSomeOrder {α : Type} (l : List α) (f : α → State → State) (s : State) : State :=
  let r := orderBy l s.ties
  r.1.foldl (fun s x => f x s) { s with ties := r.2 }

/-- Two series of happenings of one instant woven into one. Each keeps its own order and there is no
order between the two, but that where `after` says so a happening of `xs` comes after the one at the
same place of `ys`. The coincidences say before how many of those left of `ys` the next of `xs`
comes. -/
def weave {α : Type} (after : List Bool) : List α → List α → Ties → List α × Ties
  | [], ys, ts => (ys, ts)
  | x :: xs, ys, ts =>
    let least := if after.headD false then ys.length - xs.length else 0
    let n := max least (ts.headD 0 % (ys.length + 1))
    let r := weave after.tail xs (ys.drop n) ts.tail
    (ys.take n ++ x :: r.1, r.2)

/-- Series of happenings of one instant, with no order between different ones, woven into one. -/
def weaveAll {α : Type} : List (List α) → Ties → List α × Ties
  | [], ts => ([], ts)
  | xs :: rest, ts =>
    let r := weaveAll rest ts
    weave [] xs r.1 r.2

/-! ### Station number and stream type in force (R157) -/

/-- Whether the load has not yet copied GENERAL. -/
def State.beforeGeneral (s : State) : Bool :=
  s.opState == .loading && s.loadedTables == 0

/-- The station number in force (R157). -/
def State.station (s : State) : Nat :=
  if s.beforeGeneral then s.bootStation else s.tables.general.station

/-- The stream type in force (R157). -/
def State.streamType (s : State) : BitVec 16 :=
  if s.beforeGeneral then s.bootStreamType else s.tables.general.streamType

/-! ### The output side of a line (R128, R129) -/

/-- The output side of a line. -/
def State.out (s : State) : Line → LineOut
  | .a => s.lineA
  | .b => s.lineB

/-- Replaces the output side of a line. -/
def setOut (l : Line) (o : LineOut) (s : State) : State :=
  match l with
  | .a => { s with lineA := o }
  | .b => { s with lineB := o }

/-- The records that wait for a line: the record queue on line B, none on line A. -/
def State.recordsFor (s : State) : Line → List OutRecord
  | .a => []
  | .b => s.records

/-- Whether an inserted frame waits for a line (R129). -/
def State.insertedWaits (s : State) (l : Line) : Bool :=
  !(s.out l).replies.isEmpty || !(s.recordsFor l).isEmpty

/-- R129: the oldest inserted frame of a line goes: the reply before the record. -/
def sendInserted (l : Line) (s : State) : State :=
  match (s.out l).replies with
  | r :: rs => setOut l { s.out l with replies := rs, sending := some r, passedOver := 0 } s
  | [] =>
    match s.recordsFor l with
    | r :: rs =>
      setOut l { s.out l with sending := some { frame := recordFrame r, restart := false },
                              passedOver := 0 } { s with records := rs }
    | [] => setOut l { s.out l with sending := none } s

/-- R129: the oldest forwarded frame of a line goes; it raises the passed-over count while an
inserted frame waits. With none waiting the transmitter becomes IDLE (R128). -/
def sendForward (l : Line) (s : State) : State :=
  match (s.out l).forward with
  | f :: fs =>
    setOut l { s.out l with
      forward := fs
      sending := some { frame := f, restart := false }
      passedOver := if s.insertedWaits l then (s.out l).passedOver + 1 else (s.out l).passedOver } s
  | [] => setOut l { s.out l with sending := none } s

/-- R129: the output arbiter's choice. -/
def choose (l : Line) (s : State) : State :=
  if s.insertedWaits l
      && (decide (Config.passedOverLimit ≤ (s.out l).passedOver) || (s.out l).forward.isEmpty) then
    sendInserted l s
  else sendForward l s

/-- R128: when a frame joins a queue of an IDLE transmitter, the arbiter chooses at once. -/
def kick (l : Line) (s : State) : State :=
  if (s.out l).sending.isNone then choose l s else s

/-! ### The record queue and the fault unit (R123, R124, R180, R181) -/

/-- An alarm record of a cause, built now (R121, R122). -/
def State.alarm (s : State) (c : Cause) : AlarmRecord :=
  { station := s.station, streamType := s.streamType, cause := c, localTime := s.localTime }

/-- R124: the verdict nearest the tail, and the queue without it. -/
def takeNewestVerdict : List OutRecord → Option (VerdictRecord × List OutRecord)
  | [] => none
  | r :: rs =>
    match takeNewestVerdict rs with
    | some (v, rs') => some (v, r :: rs')
    | none =>
      match r with
      | .verdict v => some (v, rs)
      | .alarm _ => none

/-- R123, R124: what the record queue does with a record offered: the record dropped, if one is,
and the queue after. -/
def enqueue (q : List OutRecord) (r : OutRecord) : Option OutRecord × List OutRecord :=
  if q.length < Config.recordDepth then (none, q ++ [r])
  else
    match r with
    | .verdict _ => (some r, q)
    | .alarm _ =>
      match takeNewestVerdict q with
      | some (v, rest) => (some (.verdict v), rest ++ [r])
      | none => (some r, q)

/-- The channel of a record as a fault subject: 255 for a tracker's or the fault unit's (R124). -/
def OutRecord.subject : OutRecord → Nat
  | .verdict v => v.channel.val
  | .alarm a =>
    match a.cause with
    | .binAlert c _ _ _ => c.val
    | .binClear c _ _ _ => c.val
    | .interferenceAlert c _ _ => c.val
    | .interferenceClear c _ _ => c.val
    | .signature c _ _ => c.val
    | .trackerState _ _ _ => 255
    | .faultCaptured _ _ => 255

/-- The sequence number of a record as a fault detail, absent for a record that has none (R124). -/
def OutRecord.detail : OutRecord → FaultDetail
  | .verdict v => .number v.seq
  | .alarm a =>
    match a.cause with
    | .binAlert _ seq _ _ => .number seq
    | .binClear _ seq _ _ => .number seq
    | .interferenceAlert _ seq _ => .number seq
    | .interferenceClear _ seq _ => .number seq
    | .signature _ seq _ => .number seq
    | .trackerState _ _ _ => .absent
    | .faultCaptured _ _ => .absent

/-- R124: a dropped record raises the drop counter of its kind. -/
def countDrop (r : OutRecord) (s : State) : State :=
  match r with
  | .verdict _ => { s with counters := { s.counters with verdictDrops := countUp s.counters.verdictDrops 1 } }
  | .alarm _ => { s with counters := { s.counters with alarmDrops := countUp s.counters.alarmDrops 1 } }

/-- R180, record held: the summary flag is set and the more-faults count raised. -/
def noteFault (k : FaultKind) (s : State) : State :=
  { s with fault := { s.fault with
      summary := putAt s.fault.summary k.index true
      more := countUpSmall s.fault.more } }

/-- A record offered to the record queue while the fault record is held: a drop only sets the flag
and raises the count (R126). -/
def offerWhileHeld (r : OutRecord) (s : State) : State :=
  let q := enqueue s.records r
  let s := kick .b { s with records := q.2 }
  match q.1 with
  | none => s
  | some d => noteFault .recordDropped (countDrop d s)

/-- R180, record empty: the record becomes held, and the summary flag is set. -/
def fillFault (k : FaultKind) (subject : Nat) (detail : FaultDetail) (s : State) : State :=
  { s with fault := { s.fault with
      record := some { kind := k, subject := subject, detail := detail, time := s.localTime }
      summary := putAt s.fault.summary k.index true } }

/-- R180: a fault reported to the fault unit. An empty record is filled and one FAULT_CAPTURED alarm
record offered (R181). -/
def reportFault (k : FaultKind) (subject : Nat) (detail : FaultDetail) (s : State) : State :=
  match s.fault.record with
  | some _ => noteFault k s
  | none =>
    offerWhileHeld (.alarm (s.alarm (.faultCaptured k subject))) (fillFault k subject detail s)

/-- R123, R124: a record offered to the record queue. A drop is counted and reported, in one happening with the
offer: no fault of the same instant comes between the two (DESIGN CHOICE, log 5, log 38). -/
def offerRecord (r : OutRecord) (s : State) : State :=
  let q := enqueue s.records r
  let s := kick .b { s with records := q.2 }
  match q.1 with
  | none => s
  | some d => reportFault .recordDropped d.subject d.detail (countDrop d s)

/-- An alarm record built and offered now. -/
def offerAlarm (c : Cause) (s : State) : State := offerRecord (.alarm (s.alarm c)) s

/-! ### The forward queues (R3) -/

/-- R3: the direction a forward queue carries, as a fault detail: A→B feeds line B. -/
def forwardDirection : Line → Nat
  | .b => 0
  | .a => 1

/-- R3: a frame meets a full forward queue. -/
def countForwardDrop (l : Line) (s : State) : State :=
  match l with
  | .b => { s with counters := { s.counters with forwardDropsAB := countUp s.counters.forwardDropsAB 1 } }
  | .a => { s with counters := { s.counters with forwardDropsBA := countUp s.counters.forwardDropsBA 1 } }

/-- R3: a frame offered to the forward queue that feeds line `l`. -/
def offerForward (l : Line) (f : Frame) (s : State) : State :=
  if (s.out l).forward.length < Config.forwardDepth then
    kick l (setOut l { s.out l with forward := (s.out l).forward ++ [f] } s)
  else
    reportFault .forwardDropped 255 (.number (forwardDirection l)) (countForwardDrop l s)

/-! ### Counters of sources and channels -/

/-- Changes the counters of a source. -/
def onSourceCounters (i : Fin 8) (f : SourceCounters → SourceCounters) (s : State) : State :=
  { s with counters := { s.counters with sources := updAt s.counters.sources i f } }

/-- Changes the counters of a channel. -/
def onChannelCounters (c : Fin 16) (f : ChannelCounters → ChannelCounters) (s : State) : State :=
  { s with counters := { s.counters with channels := updAt s.counters.channels c f } }

/-- R66: windows ended are counted in the channel's abandoned counter. -/
def countAbandoned (c : Fin 16) (n : Nat) (s : State) : State :=
  onChannelCounters c (fun k => { k with abandoned := countUp k.abandoned n }) s

/-! ### The command queue and the replies (R127, R147, R148) -/

/-- R127, R147: how many of the 4 places are held: commands not yet answered, and replies that have
not left their line. -/
def State.placesHeld (s : State) : Nat :=
  s.command.queue.length + s.lineA.replies.length + s.lineB.replies.length

/-- R147: a command offered to the command queue. -/
def offerCommand (c : CommandFrame) (s : State) : State :=
  if s.placesHeld < Config.commandPlaces then
    { s with command := { s.command with queue := s.command.queue ++ [c] } }
  else
    reportFault .commandDropped 255 (.number (match c.line with | .a => 0 | .b => 1))
      { s with counters := { s.counters with commandDrops := countUp s.counters.commandDrops 1 } }

/-- R148: the reply frame to a command, as formed now. -/
def State.replyFrame (s : State) (c : CommandFrame) (status : Status) (result : List Byte) :
    Frame :=
  buildFrame c.line c.src s.streamType kindReply (replyBody s.station c.bytes status result)

/-- R127, R148: the reply to the oldest command is formed: it joins the reply queue of the line the
command arrived on, and the command's execution ends. `restart` marks the reply to RESTART. -/
def replyWith (restart : Bool) (c : CommandFrame) (status : Status) (result : List Byte)
    (s : State) : State :=
  let r : Reply := { frame := s.replyFrame c status result, restart := restart }
  kick c.line
    (setOut c.line { s.out c.line with replies := (s.out c.line).replies ++ [r] }
      { s with command := { s.command with queue := s.command.queue.tail, requested := false } })

/-- The reply to any command but RESTART. -/
def reply (c : CommandFrame) (status : Status) (result : List Byte) (s : State) : State :=
  replyWith false c status result s

end Sys2Proof.Machine
end

