-- ==== Sys2Proof/Machine/Capture.lean ====
section
/-! DEFINITION. Chapter 8: the capture unit's ring, triggers, truncation and release (R133 to R144). -/

namespace Sys2Proof.Machine

/-- Changes the capture unit. -/
def onCapture (f : CaptureUnit → CaptureUnit) (s : State) : State := { s with capture := f s.capture }

/-- R143: the unit taken to OFF and emptied. -/
def CaptureUnit.toOff (u : CaptureUnit) : CaptureUnit :=
  { u with state := .off, buffer := [], header := none, missed := 0 }

/-- R135: the unit taken to ARMED on the capture source of the settings copy, whose expected channel
count becomes the values per set. -/
def CaptureUnit.arm (u : CaptureUnit) (sources : Vector SourceEntry 8) : CaptureUnit :=
  { u with state := .armed, buffer := [], header := none, missed := 0
           source := u.settings.source, perSet := sources[u.settings.source].channelCount }

/-- R139, R141: the unit enters HELD with `n` sets held. -/
def CaptureUnit.hold (u : CaptureUnit) (n : Nat) (truncated : Bool) : CaptureUnit :=
  { u with state := .held
           header := u.header.map fun h => { h with total := some n, truncated := truncated } }

/-- R136: the ring after one more set: at 4,096 sets the oldest is replaced. -/
def ringWrite (buffer : List SampleSet) (ss : SampleSet) : List SampleSet :=
  if buffer.length < Config.captureSets then buffer ++ [ss] else buffer.tail ++ [ss]

/-- R136, R139: the unit takes one set of its source. -/
def CaptureUnit.takeSet (u : CaptureUnit) (ss : SampleSet) : CaptureUnit :=
  match u.state with
  | .armed => { u with buffer := ringWrite u.buffer ss }
  | .post =>
    let u' := { u with buffer := u.buffer ++ [ss] }
    if Config.captureSets ≤ u'.buffer.length then u'.hold u'.buffer.length false else u'
  | .off => u
  | .held => u

/-- R136, R141: a loss or realign notice of its source empties the ring, or ends POST truncated. -/
def CaptureUnit.breakRun (u : CaptureUnit) : CaptureUnit :=
  match u.state with
  | .armed => { u with buffer := [] }
  | .post => u.hold u.buffer.length true
  | .off => u
  | .held => u

/-- R18, R136, R139, R141: an item of the capture source reaches the unit. -/
def CaptureUnit.item (u : CaptureUnit) (i : Item) : CaptureUnit :=
  match i with
  | .start => u
  | .realign => u.breakRun
  | .loss => u.breakRun
  | .set ss => u.takeSet ss

/-- R135: whether the unit is a consumer of source `src`: in ARMED and POST, of its capture source. -/
def CaptureUnit.consumes (u : CaptureUnit) (src : Fin 8) : Bool :=
  (u.state == .armed || u.state == .post) && u.source == src

/-- R138: a trigger in ARMED fixes the header, keeps the pre-trigger part and enters POST. -/
def CaptureUnit.fire (u : CaptureUnit) (cause : CaptureCause) (time : BitVec 32) : CaptureUnit :=
  let pre := min u.settings.preTrigger u.buffer.length
  { u with
    state := .post
    buffer := u.buffer.drop (u.buffer.length - pre)
    missed := 0
    header := some {
      source := u.source, perSet := u.perSet, cause := cause,
      stamp := u.buffer.getLast?.map SampleSet.stamp, time := time, preActual := pre,
      total := none, truncated := false } }

/-- R138, R140: a trigger reaches the unit: in ARMED it starts a capture, in POST and HELD it is
missed, in OFF it is ignored. -/
def CaptureUnit.trigger (u : CaptureUnit) (cause : CaptureCause)
    (time : BitVec 32) : CaptureUnit :=
  match u.state with
  | .armed => u.fire cause time
  | .post => { u with missed := countUpSmall u.missed }
  | .held => { u with missed := countUpSmall u.missed }
  | .off => u

/-- R137: whether a class is one of the trigger classes. -/
def TriggerClasses.holds (t : TriggerClasses) : AlertClass → Bool
  | .characteristic => t.characteristic
  | .noncharacteristic => t.noncharacteristic
  | .interference => t.interference

/-- R137: the alert entries of a completion on channel `c` reach the unit. The first that qualifies
gives the cause. -/
def triggerByAlert (c : Fin 16) (seq : Nat) (entries : List AlertEntry)
    (s : State) : State :=
  if s.tables.channels[c].source = s.capture.settings.source then
    match entries.find? fun e => s.capture.settings.classes.holds e.cls with
    | some e => onCapture (fun u => u.trigger (.alert c e.k e.cls seq) s.localTime) s
    | none => s
  else s

/-- R136, R141: the SOURCES entry of the capture source changes: disabling acts as a loss, and a
change of source id or expected channel count as a realign, after which the new count is the values
per set of an ARMED unit (log 22). -/
def CaptureUnit.sourceWritten (u : CaptureUnit) (src : Fin 8) (old new : SourceEntry) : CaptureUnit :=
  if u.consumes src then
    let broken :=
      if (old.enabled && !new.enabled) || old.sourceId != new.sourceId
          || old.channelCount != new.channelCount then u.breakRun
      else u
    if broken.state == .armed then { broken with perSet := new.channelCount } else broken
  else u

/-- R144: a RESTORE of GENERAL: a change of capture source or pre-trigger count takes an ARMED or POST
unit to OFF; the settings copy is set. -/
def CaptureUnit.restored (u : CaptureUnit) (new : CaptureSettings) : CaptureUnit :=
  if (u.state == .armed || u.state == .post)
      && (u.settings.source != new.source || u.settings.preTrigger != new.preTrigger) then
    { u.toOff with settings := new }
  else { u with settings := new }

end Sys2Proof.Machine
end

