-- ==== Sys2Proof/Machine/Tracking.lean ====
section
/-! DEFINITION. Chapter 3: measurers (R38 to R43) and trackers (R44 to R51). -/

namespace Sys2Proof.Machine

/-! ### Measurers -/

/-- R39: a measurer that is not IDLE returns to SEEKING: any open span is closed, the armed mark
cleared, the previous sample forgotten, and the next sample is index 0. -/
def Measurer.toSeeking (m : Measurer) : Measurer :=
  match m.state with
  | .idle => m
  | _ => { m with state := .seeking, armed := false, prev := none, index := 0, startStamp := 0,
                  crossings := 0, peak := 0 }

/-- R42, R43: the last measurement becomes absent, the run 0, and the measurer unusable. -/
def Measurer.forget (m : Measurer) : Measurer :=
  { m with last := none, run := 0, usable := false }

/-- R40: whether a sample makes a positive-going crossing. -/
def Measurer.crosses (m : Measurer) (x : Int) : Bool :=
  match m.prev with
  | some x0 => m.armed && decide (x0 < 0) && decide (0 ≤ x)
  | none => false

/-- R41: the peak magnitude of an open span after a sample. -/
def Measurer.peakAfter (m : Measurer) (x : Int) : Nat :=
  match m.state with
  | .counting => max m.peak x.natAbs
  | _ => m.peak

/-- What a sample set did to a measurer that its tracker acts on (R45, R46, R48). -/
inductive MeasurerEvent where
  | nothing
  | valid (freq : Nat) (qualifies : Bool)
  | unusable
  deriving DecidableEq, Repr

/-- R42: a measurement of frequency `f` completes with peak `peak` against reference floor `floor`. -/
def Measurer.complete (m : Measurer) (f peak floor : Nat) : Measurer × MeasurerEvent :=
  if measurementValid f peak floor then
    let run := min 255 (m.run + 1)
    ({ m with last := some { freq := f, valid := true }, run := run, usable := true },
      .valid f (decide (2 ≤ run)))
  else
    ({ m with last := some { freq := f, valid := false }, run := 0, usable := false },
      if m.usable then .unusable else .nothing)

/-- R41: the measurer as a counted crossing with stamp `stamp` and sample `x` leaves it, the sample
itself already taken in. -/
def Measurer.onCrossing (m : Measurer) (stamp : Nat) (x : Int) (floor : Nat) :
    Measurer × MeasurerEvent :=
  match m.state with
  | .counting =>
    if m.crossings < 9 then ({ m with crossings := m.crossings + 1 }, .nothing)
    else
      let r := m.complete (measuredFrequency (stamp - m.startStamp)) m.peak floor
      ({ r.1 with startStamp := stamp, crossings := 0, peak := x.natAbs }, r.2)
  | _ =>
    ({ m with state := .counting, startStamp := stamp, crossings := 0, peak := x.natAbs }, .nothing)

/-- R40, R41: a measurer takes one sample. -/
def Measurer.sample (m : Measurer) (floor : Nat) (x : Int) : Measurer × MeasurerEvent :=
  let m' := { m with prev := some x, index := m.index + 1, peak := m.peakAfter x }
  if m.crosses x then
    { m' with armed := false }.onCrossing (crossingStamp (m.index - 1) (m.prev.getD 0) x) x floor
  else
    ({ m' with armed := m.armed || decide (x < -((floor / 2 : Nat) : Int)) }, .nothing)

/-- R38, R39: a measurer takes the value of its slot in one sample set: none where the set carries no
value for the slot, a filled one, or a sample. -/
def Measurer.takes (m : Measurer) (floor : Nat) (v : Option SlotValue) : Measurer × MeasurerEvent :=
  match v with
  | none => (m, .nothing)
  | some sv => if sv.filled then (m.toSeeking, .nothing) else m.sample floor sv.value

/-- The named measurer of a tracker. -/
def Tracker.measurer (t : Tracker) : Role → Measurer
  | .primary => t.primary
  | .secondary => t.secondary

/-- Replaces the named measurer of a tracker. -/
def Tracker.setMeasurer (t : Tracker) (r : Role) (m : Measurer) : Tracker :=
  match r with
  | .primary => { t with primary := m }
  | .secondary => { t with secondary := m }

/-- The reference channel of a measurer (3.1). -/
def TrackerEntry.reference (e : TrackerEntry) : Role → Option (Fin 16)
  | .primary => e.primary
  | .secondary => e.secondary

/-! ### Trackers -/

/-- Replaces a tracker. -/
def putTrackerAt (t : Fin 2) (tr : Tracker) (s : State) : State :=
  { s with trackers := putAt s.trackers t tr }

/-- R44: the frequency in use set from a measurement, clamped, with the at-limit flag. -/
def Tracker.setFrequency (tr : Tracker) (f : Nat) : Tracker :=
  { tr with freq := clampTo Config.frequencyMin Config.frequencyMax f
            atLimit := decide (f < Config.frequencyMin) || decide (Config.frequencyMax < f) }

/-- R44, R48: entering FOLLOW on a measurer's measurement; the hold timer is stopped. -/
def Tracker.follow (tr : Tracker) (r : Role) (f : Nat) : Tracker :=
  { tr.setFrequency f with
    state := match r with | .primary => .followPrimary | .secondary => .followSecondary
    hold := none }

/-- R45, R50: entering HOLD; frequency and flag stay, the hold timer starts. -/
def Tracker.enterHold (tr : Tracker) (holdTime : Nat) : Tracker :=
  { tr with state := .hold, hold := some holdTime }

/-- R44, R47: entering FREE. -/
def Tracker.enterFree (tr : Tracker) : Tracker :=
  { tr with state := .free, freq := Config.nominalFrequency, atLimit := false, hold := none }

/-- R44, R50: entering FIXED, or a new fixed frequency while FIXED. -/
def Tracker.enterFixed (tr : Tracker) (f : Nat) : Tracker :=
  { tr with state := .fixed, freq := f, atLimit := false, hold := none }

/-- R51: a tracker has changed its state: one TRACKER_STATE alarm record, and the fault the change
reports, if any, with the frequency after the change as detail. -/
def trackerMoved (t : Fin 2) (fault : Option FaultKind) (s : State) : State :=
  let tr := s.trackers[t]
  let record := offerAlarm (.trackerState t tr.state tr.freq)
  match fault with
  | none => record s
  | some k => either record (reportFault k t.val (.number tr.freq)) s

/-- R45, R46: a measurer of tracker `t` has become unusable. -/
def measurerFailed (t : Fin 2) (r : Role) (s : State) : State :=
  let tr := s.trackers[t]
  let toHold := trackerMoved t (some .trackerHold)
    (putTrackerAt t (tr.enterHold s.tables.trackers[t].holdTime) s)
  match tr.state, r with
  | .followPrimary, .primary =>
    if tr.secondary.usable then
      match tr.secondary.last with
      | some m => trackerMoved t (some .referenceSwitch) (putTrackerAt t (tr.follow .secondary m.freq) s)
      | none => toHold
    else toHold
  | .followSecondary, .secondary => toHold
  | _, _ => s

/-- R45, R46, R48: a measurer of tracker `t` has completed a valid measurement. -/
def measurerSucceeded (t : Fin 2) (r : Role) (f : Nat) (qualifies : Bool) (s : State) : State :=
  let tr := s.trackers[t]
  let recovered := trackerMoved t none (putTrackerAt t (tr.follow r f) s)
  match tr.state, r with
  | .followPrimary, .primary => putTrackerAt t (tr.setFrequency f) s
  | .followSecondary, .secondary => putTrackerAt t (tr.setFrequency f) s
  | .followSecondary, .primary => if qualifies then recovered else s
  | .hold, _ => if qualifies then recovered else s
  | .free, _ => if qualifies then recovered else s
  | .followPrimary, .secondary => s
  | .fixed, _ => s

/-- What a tracker does on an event of a measurer of its own. -/
def trackerActs (t : Fin 2) (r : Role) (e : MeasurerEvent) (s : State) : State :=
  match e with
  | .nothing => s
  | .valid f q => measurerSucceeded t r f q s
  | .unusable => measurerFailed t r s

/-! ### Items of a source reaching measurers and trackers -/

/-- The slot a measurer reads on source `src`, if its reference channel lies on that source. -/
def State.referenceSlot (s : State) (t : Fin 2) (r : Role) (src : Fin 8) : Option (Fin 8) :=
  match s.tables.trackers[t].reference r with
  | none => none
  | some c => if s.tables.channels[c].source = src then some s.tables.channels[c].slot else none

/-- The value a sample set holds for a slot, if it holds one. -/
def SampleSet.slot? (ss : SampleSet) (slot : Fin 8) : Option SlotValue := ss.values[slot.val]?

/-- R18, R39: a measurer takes one item of its source's series. A loss reaches it through its tracker
(`trackerLoses`). -/
def Measurer.item (m : Measurer) (floor : Nat) (slot : Fin 8) (item : Item) :
    Measurer × MeasurerEvent :=
  match item with
  | .start => (m.toSeeking, .nothing)
  | .realign => (m.toSeeking, .nothing)
  | .loss => (m, .nothing)
  | .set ss => m.takes floor (ss.slot? slot)

/-- One item of source `src` reaches one measurer, and its tracker acts on what came of it. -/
def measurerItem (t : Fin 2) (r : Role) (src : Fin 8) (item : Item) (s : State) : State :=
  match s.referenceSlot t r src with
  | none => s
  | some slot =>
    let tr := s.trackers[t]
    let res := (tr.measurer r).item s.tables.trackers[t].floor slot item
    trackerActs t r res.2 (putTrackerAt t (tr.setMeasurer r res.1) s)

/-- R42: whether an event is a measurement that qualifies its measurer. -/
def MeasurerEvent.qualifies : MeasurerEvent → Bool
  | .valid _ q => q
  | .nothing => false
  | .unusable => false

/-- R42: for each item of a series, whether the measurer qualifies on it. -/
def Measurer.qualifyings (floor : Nat) (slot : Fin 8) : Measurer → List Item → List Bool
  | _, [] => []
  | m, i :: is =>
    let res := m.item floor slot i
    res.2.qualifies :: Measurer.qualifyings floor slot res.1 is

/-- A change made to each measurer of tracker `t` that reads source `src`. -/
def onReaders (t : Fin 2) (src : Fin 8) (f : Measurer → Measurer) (s : State) : State :=
  let tr := s.trackers[t]
  let change : Role → Measurer := fun r =>
    if (s.referenceSlot t r src).isSome then f (tr.measurer r) else tr.measurer r
  putTrackerAt t { tr with primary := change .primary, secondary := change .secondary } s

/-- R39: the measurers of tracker `t` that read source `src` return to SEEKING. -/
def trackerSeeks (t : Fin 2) (src : Fin 8) (s : State) : State :=
  onReaders t src Measurer.toSeeking s

/-- R42, R43, R45, R46: source `src` is lost or disabled to tracker `t`: both measurers that read it
lose their usability at that moment, before the tracker acts (log 23). -/
def trackerLoses (t : Fin 2) (src : Fin 8) (s : State) : State :=
  let tr := s.trackers[t]
  let failed : Role → State → State := fun r s' =>
    if (s.referenceSlot t r src).isSome && (tr.measurer r).usable then measurerFailed t r s' else s'
  failed .secondary (failed .primary (onReaders t src (fun m => m.toSeeking.forget) s))

/-! ### SET TRACKER and TRACKERS writes (R50, R37) -/

/-- R50: what the requested mode and fixed frequency, once written, make the tracker do. -/
def requestMode (t : Fin 2) (mode : RequestedMode) (f : Nat) (s : State) : State :=
  let tr := s.trackers[t]
  match tr.state, mode with
  | .fixed, .fixed => putTrackerAt t (tr.enterFixed f) s
  | .fixed, .auto =>
    trackerMoved t none (putTrackerAt t (tr.enterHold s.tables.trackers[t].holdTime) s)
  | _, .fixed => trackerMoved t none (putTrackerAt t (tr.enterFixed f) s)
  | _, .auto => s

/-- R37: a measurer whose reference channel is changed: all it held is discarded; SEEKING on the new
channel, or IDLE where there is none. -/
def Measurer.rereferenced (new : Option (Fin 16)) : Measurer :=
  { freshMeasurer with state := match new with | some _ => .seeking | none => .idle }

/-- R37: the reference channels change: both measurers are changed before the tracker acts. -/
def changeReferences (t : Fin 2) (old new : TrackerEntry) (s : State) : State :=
  let tr := s.trackers[t]
  let change : Role → Measurer := fun r =>
    if old.reference r = new.reference r then tr.measurer r
    else Measurer.rereferenced (new.reference r)
  let failed : Role → State → State := fun r s' =>
    if old.reference r = new.reference r then s' else measurerFailed t r s'
  failed .secondary (failed .primary
    (putTrackerAt t { tr with primary := change .primary, secondary := change .secondary } s))

/-- R37: a TRACKERS entry is written: floor and hold time, then mode and fixed frequency, then the
reference channels. -/
def writeTracker (t : Fin 2) (new : TrackerEntry) (s : State) : State :=
  let old := s.tables.trackers[t]
  let s := { s with tables := { s.tables with trackers := putAt s.tables.trackers t new } }
  if old = new then s
  else changeReferences t old new (requestMode t new.mode new.fixedFrequency s)

/-- R26: a CHANNELS write that changes the source or slot of channel `c` returns the measurers that
read it to SEEKING. -/
def seekOnChannel (c : Fin 16) (t : Fin 2) (s : State) : State :=
  let tr := s.trackers[t]
  let change : Role → Measurer := fun r =>
    if s.tables.trackers[t].reference r = some c then (tr.measurer r).toSeeking else tr.measurer r
  putTrackerAt t { tr with primary := change .primary, secondary := change .secondary } s

end Sys2Proof.Machine
end

