-- ==== Sys2Proof/Machine/Windows.lean ====
section
/-! DEFINITION. Chapter 4 and the arbitration of chapter 5: window contexts opening, accumulating,
closing and ending (R55 to R71), the close arbiter (R75, R76, R77), the engine's states (R78) and the
hand-over of the table memory (R79, R80, R82). -/

namespace Sys2Proof.Machine

/-! ### Accumulation (R60) -/

/-- R60: the bins a window keeps a pair of sums for: the snapshot, and bin 10. -/
def accumulatedBins (snapshot : List Nat) : List Nat :=
  if snapshot.contains 10 then snapshot else 10 :: snapshot

/-- R60: one bin's sums after the value `x` at sample index `n` of a window of `len` sets. -/
def BinSum.add (b : BinSum) (x : Int) (n len : Nat) : BinSum :=
  { b with cosSum := b.cosSum + x * cosTable (phaseIndex b.k n len)
           sinSum := b.sinSum + x * sinTable (phaseIndex b.k n len) }

/-- R60: a window after one sample set: its value, its filled mark and the set's test mark. -/
def Window.add (w : Window) (v : SlotValue) (test : Bool) : Window :=
  { w with
    sums := w.sums.map fun b => b.add v.value w.count w.len
    plain := w.plain + v.value
    filled := if v.filled then w.filled + 1 else w.filled
    test := w.test || test
    count := w.count + 1 }

/-- R57: the window a channel unit would open now, under tracker `t`, on a set with this stamp. -/
def ChannelUnit.opened (u : ChannelUnit) (t : Tracker) (stamp : Stamp) : Window :=
  { seq := u.seqNext
    len := windowLength t.freq
    freq := t.freq
    trackerState := t.state
    atLimit := t.atLimit
    stamp := stamp
    count := 0
    snapshot := u.binList
    sums := (accumulatedBins u.binList).map fun k => { k := k, cosSum := 0, sinSum := 0 }
    plain := 0
    filled := 0
    test := false
    degradedAtOpen := t.state == .free }

/-! ### Contexts -/

/-- Whether a context is FILLING. -/
def Context.isFilling : Context → Bool
  | .filling _ => true
  | .free => false
  | .pending _ => false

/-- Whether a context is PENDING. -/
def Context.isPending : Context → Bool
  | .pending _ => true
  | .free => false
  | .filling _ => false

/-- Whether a context is FREE. -/
def Context.isFree : Context → Bool
  | .free => true
  | .filling _ => false
  | .pending _ => false

/-- R57: a window opens in a FREE context, context 0 first, when none is FILLING; the sequence
counter advances (R58). -/
def ChannelUnit.openIfNone (u : ChannelUnit) (w : Window) : ChannelUnit :=
  if u.ctx0.isFilling || u.ctx1.isFilling then u
  else if u.ctx0.isFree then { u with ctx0 := .filling w, seqNext := (u.seqNext + 1) % 65536 }
  else if u.ctx1.isFree then { u with ctx1 := .filling w, seqNext := (u.seqNext + 1) % 65536 }
  else u

/-- What one sample set does to a channel unit: the unit after it, whether a window closed, and the
sequence number of a window missed by the close (R64). -/
structure SetResult where
  unit : ChannelUnit
  closed : Bool
  missed : Option Nat
  deriving DecidableEq, Repr

/-- R64: the sequence number of the window a context holds PENDING. -/
def Context.pendingSeq : Context → Option Nat
  | .pending w => some w.seq
  | .free => none
  | .filling _ => none

/-- R64: the other context at a close: an older PENDING window is discarded. -/
def Context.afterClose : Context → Context
  | .pending _ => .free
  | c => c

/-- R60, R63, R64: the FILLING window takes one sample set, and closes on the set that brings its
count to N. -/
def ChannelUnit.advance (u : ChannelUnit) (v : SlotValue) (test : Bool) : SetResult :=
  match u.ctx0, u.ctx1 with
  | .filling w, other =>
    let w' := w.add v test
    if w'.len ≤ w'.count then
      { unit := { u with ctx0 := .pending w', ctx1 := other.afterClose }, closed := true,
        missed := other.pendingSeq }
    else { unit := { u with ctx0 := .filling w' }, closed := false, missed := none }
  | other, .filling w =>
    let w' := w.add v test
    if w'.len ≤ w'.count then
      { unit := { u with ctx0 := other.afterClose, ctx1 := .pending w' }, closed := true,
        missed := other.pendingSeq }
    else { unit := { u with ctx1 := .filling w' }, closed := false, missed := none }
  | _, _ => { unit := u, closed := false, missed := none }

/-- The PENDING window of a channel unit, and the unit with that context FREE (R65). -/
def ChannelUnit.takePending (u : ChannelUnit) : Option (Window × ChannelUnit) :=
  match u.ctx0, u.ctx1 with
  | .pending w, _ => some (w, { u with ctx0 := .free })
  | _, .pending w => some (w, { u with ctx1 := .free })
  | _, _ => none

/-- R63, R75: a channel requests the close arbiter while it has a PENDING context. -/
def ChannelUnit.requests (u : ChannelUnit) : Bool := u.ctx0.isPending || u.ctx1.isPending

/-- How many windows a channel unit holds. -/
def ChannelUnit.held (u : ChannelUnit) : Nat :=
  (if u.ctx0.isFree then 0 else 1) + (if u.ctx1.isFree then 0 else 1)

/-! ### Active channels (R24) and their tracker -/

/-- R24: whether a channel is active. -/
def State.active (s : State) (c : Fin 16) : Bool :=
  s.tables.channels[c].enabled && s.tables.groups[s.tables.channels[c].group].enabled
    && s.tables.sources[s.tables.channels[c].source].enabled

/-- The group entry of a channel. -/
def State.groupOf (s : State) (c : Fin 16) : GroupEntry :=
  s.tables.groups[s.tables.channels[c].group]

/-- R52: the tracker the channel's group names. -/
def State.trackerOf (s : State) (c : Fin 16) : Tracker := s.trackers[(s.groupOf c).tracker]

/-! ### The close arbiter and the engine (R75 to R82) -/

/-- R76: the order in which standing requests are served. -/
def State.arbiterOrder (s : State) : List (Fin 16) :=
  match s.tables.general.arbiterMode with
  | .fixed => List.finRange 16
  | .rotating => (List.finRange 16).map fun i => s.rotation + i

/-- R75: the first requesting channel in the arbiter's order. -/
def State.nextGrant (s : State) : Option (Fin 16) :=
  s.arbiterOrder.find? fun c => s.channels[c].requests

/-- R77: a grant to channel `c`: the engine takes the copy, the context becomes FREE, and the engine
requests the table memory, which it owns at once where it is free (R79). -/
def grant (c : Fin 16) (s : State) : State :=
  match s.channels[c].takePending with
  | none => s
  | some (w, u) =>
    let s := { s with
      channels := putAt s.channels c u
      rotation := match s.tables.general.arbiterMode with
        | .rotating => c + 1
        | .fixed => s.rotation }
    if s.memOwner == .free then { s with engine := .evaluating c w, memOwner := .engine }
    else { s with engine := .waiting c (some w) }

/-- R75: the close arbiter grants when the engine is IDLE and a request stands. -/
def arbitrate (s : State) : State :=
  match s.engine with
  | .idle =>
    match s.nextGrant with
    | some c => grant c s
    | none => s
  | .waiting _ _ => s
  | .evaluating _ _ => s

/-- R80: who is given the memory at the engine's release: a waiting command, then a waiting RESTORE
copy, or no one. -/
def State.commandSideWaits (s : State) : MemOwner :=
  if s.command.requested then .command
  else
    match s.store.op with
    | .restoring _ => .store
    | _ => .free

/-- R80, R82, R83: the engine releases the table memory and becomes IDLE; a waiting command-side
request is served before the engine can be granted again. -/
def engineRelease (s : State) : State :=
  arbitrate { s with engine := .idle, memOwner := s.commandSideWaits }

/-- R80: the command side releases the table memory. A waiting engine is given it: with a held copy
it begins its evaluation (R84); with a discarded one it releases at once (R82). -/
def commandRelease (s : State) : State :=
  match s.engine with
  | .waiting c (some w) => { s with engine := .evaluating c w, memOwner := .engine }
  | .waiting _ none => engineRelease s
  | .idle => { s with memOwner := .free }
  | .evaluating _ _ => { s with memOwner := .free }

/-! ### Windows taking sets, and ending -/

/-- R64: a missed window is counted and reported. -/
def reportMissed (c : Fin 16) (missed : Option Nat) (s : State) : State :=
  match missed with
  | none => s
  | some seq =>
    reportFault .windowMissed c.val (.number seq)
      (onChannelCounters c (fun k => { k with missed := countUp k.missed 1 }) s)

/-- R57, R60, R63: an active channel receives the value of its slot in one sample set. Windows exist
only in ANALYSING (R59). -/
def channelTakes (c : Fin 16) (ss : SampleSet) (s : State) : State :=
  match s.opState, ss.values[s.tables.channels[c].slot.val]? with
  | .analysing, some v =>
    let u := s.channels[c]
    let r := (u.openIfNone (u.opened (s.trackerOf c) ss.stamp)).advance v ss.test
    let s := reportMissed c r.missed { s with channels := putAt s.channels c r.unit }
    if r.closed then arbitrate s else s
  | _, _ => s

/-- R66: a channel's FILLING window is abandoned and its PENDING window discarded, each counted. -/
def endWindows (c : Fin 16) (s : State) : State :=
  countAbandoned c s.channels[c].held
    { s with channels := updAt s.channels c fun u => { u with ctx0 := .free, ctx1 := .free } }

/-- R25, R66: an engine copy of the channel that waits for the table memory is discarded and
counted. -/
def discardCopy (c : Fin 16) (s : State) : State :=
  match s.engine with
  | .waiting c' (some _) =>
    if c' = c then countAbandoned c 1 { s with engine := .waiting c none } else s
  | _ => s

/-- R25: every window of a channel ends, the waiting engine copy included. -/
def endAllWindows (c : Fin 16) (s : State) : State := discardCopy c (endWindows c s)

/-- R67: a notice or set of its source reaches an active channel. -/
def channelItem (c : Fin 16) (item : Item) (s : State) : State :=
  match item with
  | .start => s
  | .realign => endWindows c s
  | .loss => endWindows c s
  | .set ss => channelTakes c ss s

end Sys2Proof.Machine
end

