-- ==== Sys2Proof/Machine/SamplePath.lean ====
section
/-! DEFINITION. Chapter 1: the source monitor (R5 to R21) and the sorting of arriving frames (R1, R2,
R146, R187). -/

namespace Sys2Proof.Machine

/-! ### Delivery (R18) -/

/-- R18: the active channels and the capture unit, as far as they are consumers of a source. -/
def State.setConsumers (s : State) (src : Fin 8) : List Consumer :=
  ((List.finRange 16).filter fun c =>
      s.active c && s.tables.channels[c].source == src).map Consumer.channel
    ++ (if s.capture.consumes src then [Consumer.capture] else [])

/-- R18: the measurers of a tracker that are consumers of a source. -/
def State.measurersOn (s : State) (t : Fin 2) (src : Fin 8) : List Role :=
  [Role.primary, Role.secondary].filter fun r => (s.referenceSlot t r src).isSome

/-- One item of source `src` reaches one consumer; a tracker is reached by a loss alone. -/
def consume (src : Fin 8) (item : Item) (who : Consumer) (s : State) : State :=
  match who with
  | .measurer t r => measurerItem t r src item s
  | .tracker t => trackerLoses t src s
  | .channel c => channelItem c item s
  | .capture => onCapture (fun u => u.item item) s

/-- A consumer's part in a delivery: the series, item by item. -/
def seriesOf (items : List Item) (who : Consumer) : List (Consumer × Item) :=
  items.map fun i => (who, i)

/-- R46, R48: the items of a delivery on which both measurers of a tracker would qualify, where both read the
source. R48 orders the two in HOLD and FREE alone; in FOLLOW SECONDARY nothing does, and the model takes the
primary first there too, as in every state (DESIGN CHOICE, log 5). -/
def State.bothQualify (s : State) (t : Fin 2) (src : Fin 8) (items : List Item) : List Bool :=
  match s.referenceSlot t .primary src, s.referenceSlot t .secondary src with
  | some p, some q =>
    let floor := s.tables.trackers[t].floor
    List.zipWith (· && ·) (s.trackers[t].primary.qualifyings floor p items)
      (s.trackers[t].secondary.qualifyings floor q items)
  | _, _ => []

/-- R18, R48: the parts of a tracker's measurers in a delivery. The two have no order between them, but
that on an item on which both qualify the primary's comes first. -/
def State.measurerSeries (s : State) (src : Fin 8) (items : List Item) (t : Fin 2) (ts : Ties) :
    List (Consumer × Item) × Ties :=
  match s.measurersOn t src with
  | [r] => (seriesOf items (.measurer t r), ts)
  | [p, q] =>
    weave (s.bothQualify t src items) (seriesOf items (.measurer t q))
      (seriesOf items (.measurer t p)) ts
  | _ => ([], ts)

/-- R18: the happenings of one delivery: every consumer of the source receives the whole series in its
order, and there is no order among different consumers (log 5). -/
def State.delivery (s : State) (src : Fin 8) (items : List Item) : List (Consumer × Item) × Ties :=
  let m0 := s.measurerSeries src items 0 s.ties
  let m1 := s.measurerSeries src items 1 m0.2
  weaveAll (m0.1 :: m1.1 :: (s.setConsumers src).map (seriesOf items)) m1.2

/-- R18, R141: one happening of a delivery. What the frame meets, `met`, is taken after its realign notice has
reached the capture unit and before the sets of its block (log 41). -/
def consumeMeeting (met : State → State) (src : Fin 8) (x : Consumer × Item) (s : State) : State :=
  match x with
  | (.capture, .realign) => met (consume src .realign .capture s)
  | (who, item) => consume src item who s

/-- R18: the items of one delivery, other than a loss, reach every consumer of the source. -/
def deliver (met : State → State) (src : Fin 8) (items : List Item) (s : State) : State :=
  let d := s.delivery src items
  d.1.foldl (fun s x => consumeMeeting met src x s) { s with ties := d.2 }

/-- R18, R19: a loss notice reaches every consumer, in no given order (log 5). -/
def deliverLoss (src : Fin 8) (s : State) : State :=
  inSomeOrder
    (((List.finRange 2).filter fun t => !(s.measurersOn t src).isEmpty).map Consumer.tracker
      ++ s.setConsumers src) (consume src .loss) s

/-! ### Preparing values (R16, R17) -/

/-- R17: the 24-bit count of a 32-bit field, clamped by sign where it lies outside. -/
def clampValue (v : Int) : Int :=
  if v < -8388608 then -8388608 else if 8388607 < v then 8388607 else v

/-- R17: whether a value is clamped. -/
def isClamped (v : Int) : Bool := decide (v < -8388608) || decide (8388607 < v)

/-- R16: what replaces a value by the fill policy. -/
def fillValue (p : FillPolicy) (last : Int) : Int :=
  match p with
  | .repeatLast => last
  | .zero => 0

/-- R6: the stamp of the set at offset `j` of the block at position `q`. -/
def stampOf (q j : Nat) : Stamp := { second := q / 3200, counter := 4 * (q % 3200) + j }

/-- R6: the block position of a frame. -/
def blockPosition (m : List Byte) : Nat := sampleSecond m * 3200 + sampleCounter m / 4

/-- R13: the four synthesised sets of the block at position `q`. -/
def synthesised (e : SourceEntry) (last : Vector Int 8) (test : Bool) (q : Nat) : List SampleSet :=
  (List.range 4).map fun j =>
    { stamp := stampOf q j, test := test
      values := (last.toList.take e.channelCount).map fun x =>
        { value := fillValue e.fill x, filled := true } }

/-- R16, R17: the prepared value of slot `i` in set `j` of a taken frame. -/
def preparedValue (e : SourceEntry) (last : Vector Int 8) (m : List Byte) (j i : Nat) : SlotValue :=
  if sampleBad m i then { value := fillValue e.fill (last.toList.getD i 0), filled := true }
  else { value := clampValue (sampleValue m j i), filled := false }

/-- The four prepared sets of a taken frame. -/
def preparedSets (e : SourceEntry) (last : Vector Int 8) (m : List Byte) : List SampleSet :=
  (List.range 4).map fun j =>
    { stamp := stampOf (blockPosition m) j, test := sampleTest m
      values := (List.range e.channelCount).map fun i => preparedValue e last m j i }

/-- R16: the last values after a taken frame: of a slot marked good, its value in the fourth set. -/
def lastValuesAfter (e : SourceEntry) (last : Vector Int 8) (m : List Byte) : Vector Int 8 :=
  Vector.ofFn fun i =>
    if i.val < e.channelCount && !sampleBad m i.val then clampValue (sampleValue m 3 i.val)
    else last[i]

/-- R17: how many values of a taken frame are clamped. -/
def clampedCount (e : SourceEntry) (m : List Byte) : Nat :=
  ((List.range 4).flatMap fun j => (List.range e.channelCount).map fun i =>
    !sampleBad m i && isClamped (sampleValue m j i)).count true

/-! ### Silence (R19) -/

/-- Changes the runtime record of a source. -/
def onSource (src : Fin 8) (f : SourceRecord → SourceRecord) (s : State) : State :=
  { s with sources := updAt s.sources src f }

/-- R19: a RUNNING source becomes LOST. -/
def loseSource (src : Fin 8) (s : State) : State :=
  let lastPos := match s.sources[src].lastPos with
    | some p => FaultDetail.number p
    | none => .absent
  let s := onSource src (fun r => { r with state := .lost, silence := none }) s
  let s := onSourceCounters src (fun k => { k with losses := countUp k.losses 1 }) s
  let s := reportFault .sourceLost src.val lastPos
    { s with lostSources := putAt s.lostSources src true }
  deliverLoss src s

/-! ### Taking a frame (R11 to R15, R21) -/

/-- A well-formed frame is taken, after the items `before` that precede its sets: its position becomes
the last block position, the silence timer is started and the source is RUNNING. Among its consumers the
delivery falls in any order that keeps each one's own series (log 5). -/
def takeFrame (met : State → State) (src : Fin 8) (m : List Byte) (before : List Item) (s : State) : State :=
  let e := s.tables.sources[src]
  let last := s.sources[src].lastValues
  let sets := preparedSets e last m
  let s := onSource src (fun r => { r with
    state := .running
    lastPos := some (blockPosition m)
    lastValues := lastValuesAfter e last m
    silence := some e.silenceTimeout }) s
  let s := onSourceCounters src (fun k => { k with clamped := countUp k.clamped (clampedCount e m) }) s
  deliver met src (before ++ sets.map Item.set) s

/-- R13: the missing blocks are synthesised, counted, and delivered before the frame's own sets. -/
def takeAfterGap (src : Fin 8) (m : List Byte) (expected : Nat) (s : State) : State :=
  let missing := blockPosition m - expected
  let filled := (List.range missing).flatMap fun i =>
    synthesised s.tables.sources[src] s.sources[src].lastValues (sampleTest m) (expected + i)
  let s := onSourceCounters src (fun k => { k with gapBlocks := countUp k.gapBlocks missing }) s
  takeFrame id src m (filled.map Item.set) { s with lastGap := some src }

/-- R14: a stale frame is counted and not taken. -/
def countStale (src : Fin 8) (s : State) : State :=
  onSourceCounters src (fun k => { k with stale := countUp k.stale 1 }) s

/-- R15: the frame realigns the source. -/
def realignAndTake (met : State → State) (src : Fin 8) (m : List Byte) (s : State) : State :=
  let s := onSourceCounters src (fun k => { k with realigns := countUp k.realigns 1 }) s
  takeFrame met src m [.realign] (reportFault .sourceRealign src.val (.number (blockPosition m)) s)

/-- R12: the ruling on a well-formed frame of a RUNNING source. `expiry`: the silence timer expires in the
instant of a stale frame and is taken first (R20, log 41). -/
def ruleRunning (expiry : Bool) (met : State → State) (src : Fin 8) (m : List Byte) (lastPos : Nat)
    (s : State) : State :=
  let p := blockPosition m
  let e := lastPos + 1
  if p = e then takeFrame id src m [] s
  else if p < e then countStale src (if expiry then loseSource src s else s)
  else if p ≤ e + s.tables.sources[src].gapLimit then takeAfterGap src m e s
  else realignAndTake met src m s

/-- R10: a malformed frame is counted and reported. -/
def rejectMalformed (src : Fin 8) (m : List Byte) (s : State) : State :=
  reportFault .malformedFrame src.val (.position (sampleSecond m) (sampleCounter m))
    (onSourceCounters src (fun k => { k with malformed := countUp k.malformed 1 }) s)

/-- R11 to R15, R21: a well-formed frame of a source. A RUNNING source holds a last position; an OFF
source has no enabled entry, so no frame of it comes here. -/
def ruleFrame (expiry : Bool) (met : State → State) (src : Fin 8) (m : List Byte) (s : State) : State :=
  match s.sources[src].state, s.sources[src].lastPos with
  | .running, some lastPos => ruleRunning expiry met src m lastPos s
  | .off, _ => s
  | _, _ => takeFrame id src m [.start] s

/-- R5: the enabled SOURCES entry holding a source id. -/
def State.sourceOfId (s : State) (id : Nat) : Option (Fin 8) :=
  (List.finRange 8).find? fun i => s.tables.sources[i].enabled && s.tables.sources[i].sourceId == id

/-- R5: a foreign frame is counted. -/
def countForeign (s : State) : State :=
  { s with counters := { s.counters with foreignFrames := countUp s.counters.foreignFrames 1 } }

/-- R5, R10, R188: the source monitor is given the message of a sample frame. -/
def monitorFrame (expiry : Bool) (met : State → State) (m : List Byte) (s : State) : State :=
  if s.opState = .loading then s
  else
    match (sampleSourceId m).bind s.sourceOfId with
    | none => countForeign s
    | some src =>
      if sampleMalformed m s.tables.sources[src].channelCount then rejectMalformed src m s
      else ruleFrame expiry met src m s

/-! ### Sorting (R1, R2, R146, R190) -/

/-- The class of an arriving frame (R1, R2). -/
inductive FrameClass where
  | sample
  | command
  | broadcast
  | other
  deriving DecidableEq, Repr

/-- R1, R190: the class of a frame by its type, kind and target station. -/
def State.classify (s : State) (f : Frame) : FrameClass :=
  if f.ftype = s.streamType then
    if frameKind f.payload = some kindSamples then .sample
    else if frameKind f.payload = some kindCommand then
      match commandTarget (message f.payload) with
      | none => .other
      | some t =>
        if t = s.station then .command
        else if t = Config.broadcastStation then .broadcast
        else .other
    else .other
  else .other

/-- R146: a command frame for this station reaches the command unit. -/
def giveCommand (l : Line) (f : Frame) (s : State) : State :=
  let m := message f.payload
  if m.length < 7 then
    { s with counters := { s.counters with malformedCommands := countUp s.counters.malformedCommands 1 } }
  else offerCommand { line := l, src := f.src, bytes := m } s

/-- R146: a broadcast command frame reaches the command unit, which takes up IDENTIFY alone. -/
def giveBroadcast (l : Line) (f : Frame) (s : State) : State :=
  let m := message f.payload
  if m.length < 7 ∨ commandCode m = some 0x01 then giveCommand l f s else s

/-- R1: the actions on a frame that arrives on line A, and what it meets in its instant (log 41). -/
def sortLineA (expiry : Bool) (met : State → State) (f : Frame) (s : State) : State :=
  match s.classify f with
  | .sample => either (offerForward .b f) (monitorFrame expiry met (message f.payload)) s
  | .command => giveCommand .a f s
  | .broadcast => either (offerForward .b f) (giveBroadcast .a f) s
  | .other => offerForward .b f s

/-- R2: the actions on a frame that arrives on line B. -/
def sortLineB (f : Frame) (s : State) : State :=
  match s.classify f with
  | .command => giveCommand .b f s
  | .broadcast => either (offerForward .a f) (giveBroadcast .b f) s
  | .sample => offerForward .a f s
  | .other => offerForward .a f s

end Sys2Proof.Machine
end

