-- ==== Sys2Proof/Machine/Settings.lean ====
section
/-! DEFINITION. What writing a table entry is checked against, clamps and does to the running blocks
(R7, R8, R23 to R31, R36, R37, R95, R97, R69, R103, R107, R133, R164, R165), write permission (R173,
R174), the tables as images (R166), consistency repair (R171) and the effects of a RESTORE (R170). -/

namespace Sys2Proof.Machine

/-! ### Protection (R166, R173 to R175) -/

/-- R166: the protection record in force: the valid copy, or of two valid copies the one whose
generation is one more, modulo 256. In every state a run reaches at least one copy is valid, and two
valid copies are consecutive (log 13). -/
def SettingsStore.copyInForce (st : SettingsStore) : Fin 2 :=
  if st.copy1.valid
      && (!st.copy0.valid || st.copy1.generation == (st.copy0.generation + 1) % 256) then 1
  else 0

/-- One of the two copies. -/
def SettingsStore.copy (st : SettingsStore) (i : Fin 2) : ProtectionCopy :=
  if i = 0 then st.copy0 else st.copy1

/-- Replaces one of the two copies. -/
def SettingsStore.setCopy (st : SettingsStore) (i : Fin 2) (c : ProtectionCopy) : SettingsStore :=
  if i = 0 then { st with copy0 := c } else { st with copy1 := c }

/-- The protection in force. -/
def State.inForce (s : State) : Protection := (s.store.copy s.store.copyInForce).content

/-- R175: KEYED mode in force with the maintenance line open. -/
def State.keyRefuses (s : State) : Bool := s.inForce.mode == .keyed && !s.maintenanceClosed

/-- R174: whether the guard range covers a group. Only the groups 0..3 can be covered (log 21). -/
def Protection.covers (p : Protection) (g : Nat) : Bool :=
  let inside := decide (p.first.val ≤ g) && decide (g ≤ p.last.val)
  decide (g < 4) && (if p.complement then !inside else inside)

/-- The table a write addresses. -/
def RawWrite.table : RawWrite → TableId
  | .general _ => .general
  | .source _ _ => .sources
  | .channel _ _ => .channels
  | .group _ _ => .groups
  | .tracker _ _ => .trackers
  | .plan _ _ => .plans
  | .band _ _ => .bands
  | .signature _ _ => .signatures

/-- R174: whether the entry a write addresses lies under the guard range. -/
def State.guarded (s : State) : RawWrite → Bool
  | .group g _ => s.inForce.covers g.val
  | .channel c r => s.inForce.covers s.tables.channels[c].group.val || s.inForce.covers r.group
  | .plan c _ => s.inForce.covers s.tables.channels[c].group.val
  | .general _ => false
  | .source _ _ => false
  | .tracker _ _ => false
  | .band _ _ => false
  | .signature _ _ => false

/-- R173: whether a table is under a runtime or a stored lock. -/
def State.locked (s : State) (t : TableId) : Bool :=
  s.protection.runtime[t.num] || s.inForce.locks[t.num]

/-- R173: whether a WRITE ENTRY is permitted. -/
def State.permitted (s : State) (w : RawWrite) : Bool := !s.locked w.table && !s.guarded w

/-! ### Checks and clamps (R162, steps 2 and 3)

Each check answers the status of its refusal, or the entry after clamping and whether a value was
clamped. -/

/-- R164, R133: GENERAL. -/
def judgeGeneral (s : State) (r : RawGeneral) : Except Status (EntryWrite × Bool) :=
  match (if r.arbiter = 0 then some ArbiterMode.fixed
         else if r.arbiter = 1 then some ArbiterMode.rotating else none), index? 8 r.source with
  | some mode, some src =>
    if r.station = 65535 ∨ 8 ≤ r.classes then .error .badParam
    else
      let pre := clampTo 0 4095 r.preTrigger
      let busy := (s.capture.state == .armed || s.capture.state == .post)
        && (src != s.tables.general.capture.source
            || pre != s.tables.general.capture.preTrigger)
      if busy then .error .busy
      else .ok (.general {
        station := r.station, streamType := r.streamType, autoStart := r.autoStart,
        arbiterMode := mode,
        capture := {
          source := src, preTrigger := pre,
          classes := { characteristic := bitOf r.classes 0, noncharacteristic := bitOf r.classes 1,
                       interference := bitOf r.classes 2 },
          autoRearm := r.autoRearm } }, pre != r.preTrigger)
  | _, _ => .error .badParam

/-- R7: whether another enabled entry holds the source id. -/
def State.idTaken (s : State) (i : Fin 8) (id : Nat) : Bool :=
  (List.finRange 8).any fun j =>
    j != i && s.tables.sources[j].enabled && s.tables.sources[j].sourceId == id

/-- R7: whether an enabled channel of source `i` uses a slot at or above a count. -/
def State.slotAbove (s : State) (i : Fin 8) (count : Nat) : Bool :=
  (List.finRange 16).any fun c =>
    s.tables.channels[c].enabled && s.tables.channels[c].source == i
      && decide (count ≤ s.tables.channels[c].slot.val)

/-- R7: SOURCES. -/
def judgeSource (s : State) (i : Fin 8) (r : RawSource) : Except Status (EntryWrite × Bool) :=
  match (if r.fill = 0 then some FillPolicy.repeatLast
         else if r.fill = 1 then some FillPolicy.zero else none) with
  | none => .error .badParam
  | some fill =>
    if r.sourceId < 1 ∨ 65534 < r.sourceId ∨ r.channelCount < 1 ∨ 8 < r.channelCount
        ∨ (r.enabled ∧ s.idTaken i r.sourceId) ∨ s.slotAbove i r.channelCount then .error .badParam
    else
      let gap := clampTo 1 16 r.gapLimit
      let sil := clampTo 1 100 r.silenceTimeout
      .ok (.source i { enabled := r.enabled, sourceId := r.sourceId, channelCount := r.channelCount,
                       fill := fill, gapLimit := gap, silenceTimeout := sil },
        gap != r.gapLimit || sil != r.silenceTimeout)

/-- R23: whether channel `c` is a reference channel of either tracker. -/
def State.isReference (s : State) (c : Fin 16) : Bool :=
  (List.finRange 2).any fun t =>
    s.tables.trackers[t].primary == some c || s.tables.trackers[t].secondary == some c

/-- Whether a plan row holds bin `k`. -/
def PlanRow.hasBin (p : PlanRow) (k : Nat) : Bool := p.bins.any fun b => b.k == k

/-- R23: CHANNELS. -/
def judgeChannel (s : State) (c : Fin 16) (r : RawChannel) : Except Status (EntryWrite × Bool) :=
  match index? 8 r.source, index? 8 r.slot, kindOf? r.kind, index? 4 r.group with
  | some src, some slot, some kind, some group =>
    if (r.enabled ∧ s.tables.sources[src].channelCount ≤ slot.val)
        ∨ (s.isReference c ∧ kind ≠ .acVoltage)
        ∨ (kind.isDC = false ∧ s.tables.plans[c].hasBin 10) then .error .badParam
    else .ok (.channel c { enabled := r.enabled, source := src, slot := slot, kind := kind,
                           group := group }, false)
  | _, _, _, _ => .error .badParam

/-- R27: GROUPS. -/
def judgeGroup (g : Fin 4) (r : RawGroup) : Except Status (EntryWrite × Bool) :=
  match index? 2 r.tracker with
  | none => .error .badParam
  | some t =>
    if r.pulse ≠ 6 ∧ r.pulse ≠ 12 ∧ r.pulse ≠ 24 then .error .badParam
    else
      let dc := clampTo 0 16777215 r.dcFloor
      let ac := clampTo 0 16777215 r.acFloor
      let fl := clampTo 0 2723 r.fillLimit
      let il := clampTo 0 16777215 r.interferenceLimit
      let ih := clampTo 0 16777215 r.interferenceHysteresis
      .ok (.group g { enabled := r.enabled, pulse := r.pulse, tracker := t, dcFloor := dc,
                      acFloor := ac, fillLimit := fl, interferenceLimit := il,
                      interferenceHysteresis := ih },
        dc != r.dcFloor || ac != r.acFloor || fl != r.fillLimit || il != r.interferenceLimit
          || ih != r.interferenceHysteresis)

/-- R36: whether a reference channel is none or of kind AC_VOLTAGE. -/
def State.referenceKindOk (s : State) : Option (Fin 16) → Bool
  | none => true
  | some c => s.tables.channels[c].kind == .acVoltage

/-- R36: TRACKERS. -/
def judgeTracker (s : State) (t : Fin 2) (r : RawTracker) : Except Status (EntryWrite × Bool) :=
  match referenceOf? r.primary, referenceOf? r.secondary, requestedModeOf? r.mode with
  | some p, some q, some mode =>
    if s.referenceKindOk p = false ∨ s.referenceKindOk q = false ∨ (q.isSome ∧ p.isNone)
        ∨ (q.isSome ∧ q = p) ∨ r.fixedFrequency < 47000 ∨ 53000 < r.fixedFrequency then
      .error .badParam
    else
      let fl := clampTo 0 8388608 r.floor
      let ht := clampTo 1 600 r.holdTime
      .ok (.tracker t { primary := p, secondary := q, floor := fl, holdTime := ht, mode := mode,
                        fixedFrequency := r.fixedFrequency },
        fl != r.floor || ht != r.holdTime)
  | _, _, _ => .error .badParam

/-- Whether numbers are in strictly ascending order (R95). -/
def strictlyAscending : List Nat → Bool
  | [] => true
  | [_] => true
  | a :: b :: rest => decide (a < b) && strictlyAscending (b :: rest)

/-- The bins of PLANS content, if every class is one of the four. -/
def typedBins : List RawPlanBin → Option (List PlanBin)
  | [] => some []
  | b :: rest =>
    match binClassOf? b.cls, typedBins rest with
    | some cls, some bs => some ({ k := b.k, limit := b.limit, cls := cls } :: bs)
    | _, _ => none

/-- R95: PLANS. -/
def judgePlan (s : State) (c : Fin 16) (r : RawPlan) : Except Status (EntryWrite × Bool) :=
  match typedBins r.bins, verdictModeOf? r.verdictMode with
  | some bins, some mode =>
    let ks := bins.map PlanBin.k
    if 24 < bins.length ∨ ks.any (fun k => k < 1 || 1200 < k) ∨ strictlyAscending ks = false
        ∨ (ks.contains 10 ∧ s.tables.channels[c].kind.isDC = false) then .error .badParam
    else
      let rc := clampTo 1 15 r.raiseCount
      let cc := clampTo 1 15 r.clearCount
      .ok (.plan c { hysteresis := r.hysteresis, raiseCount := rc, clearCount := cc,
                     verdictMode := mode, bins := bins },
        rc != r.raiseCount || cc != r.clearCount)
  | _, _ => .error .badParam

/-- R103: BANDS. -/
def judgeBand (b : Fin 8) (r : RawBand) : Except Status (EntryWrite × Bool) :=
  if r.low < 1 ∨ 6400 < r.low ∨ r.high < 1 ∨ 6400 < r.high ∨ r.high < r.low then .error .badParam
  else
    let w := clampTo 0 1000 r.weight
    .ok (.band b { enabled := r.enabled, low := r.low, high := r.high, weight := w }, w != r.weight)

/-- One number put into an ascending list. -/
def insertAscending (k : Nat) : List Nat → List Nat
  | [] => [k]
  | x :: xs => if k ≤ x then k :: x :: xs else x :: insertAscending k xs

/-- A list in ascending order. -/
def ascending : List Nat → List Nat
  | [] => []
  | k :: ks => insertAscending k (ascending ks)

/-- R107: SIGNATURES. The bin set is kept in ascending k (log 35). -/
def judgeSignature (i : Fin 16) (r : RawSignature) : Except Status (EntryWrite × Bool) :=
  match kindOf? r.kind with
  | none => .error .badParam
  | some kind =>
    if r.bins.length < 1 ∨ 6 < r.bins.length ∨ r.bins.any (fun k => k < 1 || 1200 < k)
        ∨ strictlyAscending (ascending r.bins) = false ∨ r.code = 0 then .error .badParam
    else .ok (.signature i { enabled := r.enabled, kind := kind, bins := ascending r.bins,
                             code := r.code }, false)

/-- R162: the checks of the owning table's rule. -/
def judge (s : State) : RawWrite → Except Status (EntryWrite × Bool)
  | .general r => judgeGeneral s r
  | .source i r => judgeSource s i r
  | .channel i r => judgeChannel s i r
  | .group i r => judgeGroup i r
  | .tracker i r => judgeTracker s i r
  | .plan i r => judgePlan s i r
  | .band i r => judgeBand i r
  | .signature i r => judgeSignature i r

/-! ### Effects of a taken write on the running blocks -/

/-- Replaces the working tables. -/
def onTables (f : Tables → Tables) (s : State) : State := { s with tables := f s.tables }

/-- R113: a channel's check results all CLEAR or absent, for the entries of its plan row. -/
def clearedChecks (row : PlanRow) : ChannelChecks :=
  { freshChecks with bins := row.bins.map fun b =>
      { k := b.k, state := if b.cls = .watch then none else some .clear, lastRatio := none,
        lastClass := none } }

/-- R25: the check results of a channel return to CLEAR and absent. -/
def clearChecks (c : Fin 16) (s : State) : State :=
  { s with checks := putAt s.checks c (clearedChecks s.tables.plans[c]) }

/-- The channels for which a condition holds, in channel order. -/
def channelsWhere (p : Fin 16 → Bool) (f : Fin 16 → State → State) (s : State) : State :=
  ((List.finRange 16).filter p).foldl (fun s c => f c s) s

/-- R9: a source enters AWAIT with its runtime record initialised. -/
def awaitSource (r : SourceRecord) : SourceRecord :=
  { r with state := .await, lastPos := none, lastValues := Vector.replicate 8 0, silence := none }

/-- R8: a source becomes OFF; its last values and position are kept (R9). -/
def offSource (r : SourceRecord) : SourceRecord := { r with state := .off, silence := none }

/-- R8, R31, R34: a SOURCES entry written. A change of source id or channel count discards a waiting copy too
(log 43). -/
def writeSource (i : Fin 8) (new : SourceEntry) (s : State) : State :=
  let old := s.tables.sources[i]
  let named : Fin 16 → Bool := fun c => s.tables.channels[c].source == i
  let wasActive : Fin 16 → Bool := fun c => named c && s.active c
  let s := onCapture (fun u => u.sourceWritten i old new)
    (onTables (fun t => { t with sources := putAt t.sources i new }) s)
  if !old.enabled && new.enabled then onSource i awaitSource s
  else if old.enabled && !new.enabled then
    channelsWhere wasActive endAllWindows
      (inSomeOrder (List.finRange 2) (fun t => trackerLoses t i) (onSource i offSource s))
  else if new.enabled && (old.sourceId != new.sourceId || old.channelCount != new.channelCount) then
    channelsWhere named endAllWindows
      (trackerSeeks 1 i (trackerSeeks 0 i (onSource i awaitSource s)))
  else s

/-- R25, R26: a CHANNELS entry written. -/
def writeChannel (c : Fin 16) (new : ChannelEntry) (s : State) : State :=
  let old := s.tables.channels[c]
  let s := onTables (fun t => { t with channels := putAt t.channels c new }) s
  if old = new then s
  else
    let s := clearChecks c (endAllWindows c s)
    if old.source != new.source || old.slot != new.slot then
      seekOnChannel c 1 (seekOnChannel c 0 s)
    else s

/-- R28, R29, R30: a GROUPS entry written. -/
def writeGroup (g : Fin 4) (new : GroupEntry) (s : State) : State :=
  let old := s.tables.groups[g]
  let named : Fin 16 → Bool := fun c => s.tables.channels[c].group == g
  let wasActive : Fin 16 → Bool := fun c => named c && s.active c
  let s := onTables (fun t => { t with groups := putAt t.groups g new }) s
  let s := if old.enabled && !new.enabled then channelsWhere wasActive endAllWindows s else s
  if old.tracker != new.tracker then
    channelsWhere named (fun c s => clearChecks c (endAllWindows c s)) s
  else s

/-- R97: the check results of one entry of a new plan row, from the old row and results. -/
def keptCheck (old : PlanRow) (checks : ChannelChecks) (b : PlanBin) : BinCheck :=
  let fresh : Option CheckState := if b.cls = .watch then none else some .clear
  match old.bins.find? (fun o => o.k == b.k), checks.bins.find? (fun o => o.k == b.k) with
  | some o, some ch =>
    { k := b.k, state := if o.cls = .watch ∨ b.cls = .watch then fresh else ch.state
      lastRatio := ch.lastRatio, lastClass := ch.lastClass }
  | _, _ => { k := b.k, state := fresh, lastRatio := none, lastClass := none }

/-- R97, R56, R69: a PLANS row written. -/
def writePlan (c : Fin 16) (new : PlanRow) (s : State) : State :=
  let old := s.tables.plans[c]
  let s := onTables (fun t => { t with plans := putAt t.plans c new }) s
  if old = new then s
  else
    let s := { s with checks := updAt s.checks c fun ch =>
      { ch with bins := new.bins.map (keptCheck old ch) } }
    if old.bins.map PlanBin.k = new.bins.map PlanBin.k then s
    else
      endAllWindows c { s with channels := updAt s.channels c fun u =>
        { u with binList := new.bins.map PlanBin.k } }

/-- R133, R165: a GENERAL entry written: the capture unit's settings copy is set; the other fields are
read from the table. -/
def writeGeneral (new : GeneralEntry) (s : State) : State :=
  onCapture (fun u => { u with settings := new.capture })
    (onTables (fun t => { t with general := new }) s)

/-- R162, R163: a write is taken: the entry is replaced and its effects on the running blocks are
taken. -/
def applyWrite (w : EntryWrite) (s : State) : State :=
  match w with
  | .general e => writeGeneral e s
  | .source i e => writeSource i e s
  | .channel i e => writeChannel i e s
  | .group i e => writeGroup i e s
  | .tracker i e => writeTracker i e s
  | .plan i e => writePlan i e s
  | .band i e => onTables (fun t => { t with bands := putAt t.bands i e }) s
  | .signature i e => onTables (fun t => { t with signatures := putAt t.signatures i e }) s

/-! ### Images of tables (R166, R168) -/

/-- The table an image is of. -/
def TableImage.table : TableImage → TableId
  | .general _ => .general
  | .sources _ => .sources
  | .channels _ => .channels
  | .groups _ => .groups
  | .trackers _ => .trackers
  | .plans _ => .plans
  | .bands _ => .bands
  | .signatures _ => .signatures

/-- The whole content of one table. -/
def Tables.image (t : Tables) : TableId → TableImage
  | .general => .general t.general
  | .sources => .sources t.sources
  | .channels => .channels t.channels
  | .groups => .groups t.groups
  | .trackers => .trackers t.trackers
  | .plans => .plans t.plans
  | .bands => .bands t.bands
  | .signatures => .signatures t.signatures

/-- Tables with the whole content of one of them replaced. -/
def Tables.setImage (t : Tables) : TableImage → Tables
  | .general e => { t with general := e }
  | .sources v => { t with sources := v }
  | .channels v => { t with channels := v }
  | .groups v => { t with groups := v }
  | .trackers v => { t with trackers := v }
  | .plans v => { t with plans := v }
  | .bands v => { t with bands := v }
  | .signatures v => { t with signatures := v }

/-! ### Consistency repair (R171) -/

/-- R171: an enabled channel whose slot its source does not have is disabled. -/
def repairChannel (t : Tables) (e : ChannelEntry) : ChannelEntry :=
  if e.enabled && decide (t.sources[e.source].channelCount ≤ e.slot.val) then
    { e with enabled := false }
  else e

/-- R171: whether a reference names a channel whose kind is not AC_VOLTAGE. -/
def Tables.badReference (t : Tables) : Option (Fin 16) → Bool
  | some c => t.channels[c].kind != .acVoltage
  | none => false

/-- R171: a tracker's references are repaired. -/
def repairTracker (t : Tables) (e : TrackerEntry) : TrackerEntry :=
  let e := if t.badReference e.primary then { e with primary := none, secondary := none } else e
  if t.badReference e.secondary || (e.secondary.isSome && e.secondary == e.primary) then
    { e with secondary := none }
  else e

/-- R171, R114: bin 10 is left out of the plan row of an AC channel. -/
def repairPlan (kind : Kind) (p : PlanRow) : PlanRow :=
  if kind.isDC then p else { p with bins := p.bins.filter fun b => b.k != 10 }

/-- R171: consistency repair over the working tables, in the order of its table. -/
def repair (t : Tables) : Tables :=
  let t := { t with channels := Vector.ofFn fun c => repairChannel t t.channels[c] }
  let t := { t with trackers := Vector.ofFn fun i => repairTracker t t.trackers[i] }
  { t with plans := Vector.ofFn fun c => repairPlan t.channels[c].kind t.plans[c] }

/-- R171: how many entries repair changed. -/
def repairedCount (before after : Tables) : Nat :=
  ((List.finRange 16).filter fun c => before.channels[c] != after.channels[c]).length
    + ((List.finRange 2).filter fun t => before.trackers[t] != after.trackers[t]).length
    + ((List.finRange 16).filter fun c => before.plans[c] != after.plans[c]).length

/-! ### The effects of a RESTORE (R170) -/

/-- The entries of one table that differ between two sets of tables, in index order. -/
def changedEntries (old new : Tables) : TableId → List EntryWrite
  | .general => if old.general = new.general then [] else [.general new.general]
  | .sources => ((List.finRange 8).filter fun i => old.sources[i] != new.sources[i]).map
      fun i => .source i new.sources[i]
  | .channels => ((List.finRange 16).filter fun i => old.channels[i] != new.channels[i]).map
      fun i => .channel i new.channels[i]
  | .groups => ((List.finRange 4).filter fun i => old.groups[i] != new.groups[i]).map
      fun i => .group i new.groups[i]
  | .trackers => ((List.finRange 2).filter fun i => old.trackers[i] != new.trackers[i]).map
      fun i => .tracker i new.trackers[i]
  | .plans => ((List.finRange 16).filter fun i => old.plans[i] != new.plans[i]).map
      fun i => .plan i new.plans[i]
  | .bands => ((List.finRange 8).filter fun i => old.bands[i] != new.bands[i]).map
      fun i => .band i new.bands[i]
  | .signatures => ((List.finRange 16).filter fun i => old.signatures[i] != new.signatures[i]).map
      fun i => .signature i new.signatures[i]

/-- All tables in table order. -/
def allTables : List TableId :=
  [.general, .sources, .channels, .groups, .trackers, .plans, .bands, .signatures]

/-- R170, R171: every entry a RESTORE of `t` changes: those of `t` first, in index order, then those
that repair changed in other tables (log 24). -/
def restoreWrites (old new : Tables) (t : TableId) : List EntryWrite :=
  changedEntries old new t ++ (allTables.filter fun u => u != t).flatMap (changedEntries old new)

/-- R170, R144: a restored entry acts as a permitted write of its content would; a restored GENERAL
may take the capture unit to OFF. -/
def applyRestored (w : EntryWrite) (s : State) : State :=
  match w with
  | .general e =>
    onCapture (fun u => u.restored e.capture) (onTables (fun t => { t with general := e }) s)
  | w => applyWrite w s

end Sys2Proof.Machine
end

