-- ==== Sys2Proof/Machine/Commands.lean ====
section
/-! DEFINITION. What the commands of the host computer share: execution in order of arrival (R148,
R155), screening (R149), and the request for the table memory (R79, R80, R160). -/

namespace Sys2Proof.Machine

/-- The outcome of every event of the module: a next state. -/
abbrev Result := Host.Outcome State Fault Refusal

/-- An event of a module without supply does nothing (log 25). -/
def whilePowered (f : State → State) (s : State) : State := if s.powered then f s else s

/-- An event with coincidences: they are resolved by `ties` while it is taken (log 5). -/
def withTies (ties : Ties) (f : State → State) (s : State) : State :=
  { f { s with ties := ties } with ties := [] }

/-- R148, R155: whether the command unit may take up a command: no RESTART has been answered. -/
def State.executes (s : State) : Bool := s.powered && s.command.restart == .none

/-- R148: the oldest command of the queue is executed if a condition on it holds; otherwise the event
cannot occur now and nothing happens (log 2, log 3). -/
def onOldest (p : CommandFrame → Bool) (body : CommandFrame → State → State) (s : State) : State :=
  match s.command.queue with
  | [] => s
  | c :: _ => if s.executes && p c then body c s else s

/-- Whether a queued command carries a code. -/
def CommandFrame.hasCode (code : Nat) (c : CommandFrame) : Bool :=
  commandCode c.bytes == some code

/-- R149, steps 2 and 3, for a command other than IDENTIFY: BUSY in LOADING; BAD_PARAM where the
parameter list cannot be decoded; else the command's own rule. -/
def screened {α : Type} (parse : List Byte → Option α) (body : α → CommandFrame → State → State)
    (c : CommandFrame) (s : State) : State :=
  if s.opState = .loading then reply c .busy [] s
  else
    match parse (commandParams c.bytes) with
    | none => reply c .badParam [] s
    | some p => body p c s

/-- One command of the host computer: its code, how its parameters are decoded, its own rule. -/
def command {α : Type} (code : Nat) (parse : List Byte → Option α)
    (body : α → CommandFrame → State → State) (s : State) : State :=
  onOldest (CommandFrame.hasCode code) (screened parse body) s

/-- R79: whether the store unit waits for or holds the table memory for a RESTORE copy. -/
def State.restoring (s : State) : Bool :=
  match s.store.op with
  | .restoring _ => true
  | .idle => false
  | .storing _ => false
  | .storingProtection => false

/-- R175, R178: whether the freeze flag or the key refuses STORE TABLE, CLEAR RUNTIME LOCK and WRITE
PROTECTION. -/
def State.barred (s : State) : Bool := s.protection.freeze || s.keyRefuses

/-! ### Tests made before the table memory is requested -/

/-- R160: BAD_PARAM for an address that does not exist, then BUSY during a RESTORE copy. -/
def State.addressRefusal (s : State) (exists_ : Bool) : Option Status :=
  if exists_ then (if s.restoring then some .busy else none) else some .badParam

/-- R153: why a START ANALYSIS is refused, if it is. -/
def State.startRefusal (s : State) : Option Status :=
  if s.opState = .analysing then some .wrongState
  else if s.restoring then some .busy else none

/-- R168: why a STORE TABLE is refused, if it is. -/
def State.storeRefusal (s : State) (t : Option TableId) : Option Status :=
  match t with
  | none => some .badParam
  | some t =>
    if s.store.op ≠ .idle then some .busy
    else if s.inForce.locks[t.num] || s.barred then some .protected_
    else none

/-- What a command's tests before the table memory come to, where its parameters decode: none where it
requests the memory. A RESTORE TABLE does not: it is answered at once, and the store unit's request, which
it makes in its own execution, comes after the release of the memory (DEDUCED, log 42). -/
def State.memoryRefusal (s : State) (code : Nat) (p : List Byte) : Option (Option Status) :=
  if code = 0x10 then
    (parseAddress p).map fun a => s.addressRefusal (entryContent s.tables a.1 a.2).isSome
  else if code = 0x11 then (parseWrite p).map fun _ => s.addressRefusal true
  else if code = 0x12 then (parseByte p).map fun n => s.addressRefusal (index? 16 n).isSome
  else if code = 0x13 then
    (parseSetTracker p).map fun x => s.addressRefusal (index? 2 x.1).isSome
  else if code = 0x20 then (parseNone p).map fun _ => s.startRefusal
  else if code = 0x30 then (parseByte p).map fun n => s.storeRefusal (tableOf? n)
  else none

/-- R79, R148: whether a command whose execution begins now requests the table memory. -/
def State.asks (s : State) (c : CommandFrame) : Bool :=
  s.executes && s.opState != .loading
    && ((commandCode c.bytes).bind fun code => s.memoryRefusal code (commandParams c.bytes))
      == some none

/-! ### Holding the table memory -/

/-- R82, R148, R162: the reply is formed before the memory is released, and the next command of the
queue then begins. Where the engine waits with a discarded copy, that command's request stands when the
engine gives the memory back (log 42). -/
def beginNext (s : State) : State :=
  match s.engine, s.command.queue with
  | .waiting _ none, c :: _ =>
    if s.asks c then { s with command := { s.command with requested := true } } else s
  | _, _ => s

/-- R80: the command side owns the table memory while `f` is done, and then releases it. -/
def holdingMemory (f : State → State) (s : State) : State :=
  commandRelease (beginNext (f { s with memOwner := .command }))

/-- R79, R80, R160: a command that needs the table memory. `refusal` is the status of a test its rule
makes before the memory is requested. The request of a command that finds the memory owned waits; the
command goes on at its next event once the memory has been given to it (log 4). -/
def withMemory (refusal : Option Status) (f : State → State) (c : CommandFrame) (s : State) : State :=
  if s.command.requested then
    if s.memOwner = .command then holdingMemory f s else s
  else
    match refusal with
    | some st => reply c st [] s
    | none =>
      if s.memOwner = .free then holdingMemory f s
      else { s with command := { s.command with requested := true } }

/-- Replaces the settings store and store unit. -/
def onStore (f : SettingsStore → SettingsStore) (s : State) : State := { s with store := f s.store }

end Sys2Proof.Machine
end

