-- ==== Sys2Proof/Machine/CaptureCommands.lean ====
section
/-! DEFINITION. The capture commands: ARM (R135), TRIGGER (R138, R140), READ (R142), RELEASE and DISARM
CAPTURE (R143). -/

namespace Sys2Proof.Machine

/-- ARM CAPTURE (R135). -/
def execArmCapture (s : State) : Result :=
  .next (command 0x50 parseNone
    (fun () c s =>
      match s.capture.state with
      | .off => reply c .done [] (onCapture (fun u => u.arm s.tables.sources) s)
      | .armed => reply c .wrongState [] s
      | .post => reply c .wrongState [] s
      | .held => reply c .wrongState [] s) s)

/-- R138, R140: the result list of TRIGGER CAPTURE: in ARMED the state POST and pre_actual, in POST and
HELD the present state and the missed-trigger count after the increase. -/
def triggerResult (before after : CaptureUnit) : List Byte :=
  put1 after.state.code
    ++ (match before.state, after.header with
        | .armed, some h => put2 h.preActual
        | _, _ => put2 after.missed)

/-- R138, R140: the trigger of a command, and its reply. -/
def triggerAnswered (c : CommandFrame) (s : State) : State :=
  match s.capture.state with
  | .off => reply c .wrongState [] s
  | _ =>
    let s' := onCapture (fun u => u.trigger (.command (commandTag c.bytes)) s.localTime) s
    reply c .done (triggerResult s.capture s'.capture) s'

/-- TRIGGER CAPTURE (R137, R138, R140), where it is the command that begins next. -/
def triggerCommand (s : State) : State :=
  command 0x51 parseNone (fun () c s => triggerAnswered c s) s

/-- TRIGGER CAPTURE (R137, R138, R140, R141). -/
def execTriggerCapture (s : State) : Result := .next (triggerCommand s)

/-- The total held of a capture unit's header, 0 while it is not set. -/
def CaptureUnit.totalHeld (u : CaptureUnit) : Nat := (u.header.bind CaptureHeader.total).getD 0

/-- R142: why a READ CAPTURE is refused, if it is. -/
def CaptureUnit.readRefusal (u : CaptureUnit) (i n : Nat) : Option Status :=
  match u.state with
  | .held =>
    if n < 1 ∨ 32 < n ∨ u.totalHeld < i + n then some .badParam else none
  | .off => some .busy
  | .armed => some .busy
  | .post => some .busy

/-- R142: the result list of READ CAPTURE: header, missed-trigger count, sets. -/
def CaptureUnit.readout (u : CaptureUnit) (i n : Nat) : List Byte :=
  putHeaderItem u.header ++ put2 u.missed
    ++ ((u.buffer.drop i).take n).flatMap (putCapturedSet u.perSet)

/-- READ CAPTURE (R142). -/
def execReadCapture (s : State) : Result :=
  .next (command 0x52 parseReadCapture
    (fun p c s =>
      match s.capture.readRefusal p.1 p.2 with
      | some st => reply c st [] s
      | none => reply c .done (s.capture.readout p.1 p.2) s) s)

/-- R143: a held capture is released. -/
def CaptureUnit.release (u : CaptureUnit) (sources : Vector SourceEntry 8) : CaptureUnit :=
  if u.settings.autoRearm then u.arm sources else u.toOff

/-- RELEASE CAPTURE (R143). -/
def execReleaseCapture (s : State) : Result :=
  .next (command 0x53 parseNone
    (fun () c s =>
      match s.capture.state with
      | .held => reply c .done [] (onCapture (fun u => u.release s.tables.sources) s)
      | .off => reply c .wrongState [] s
      | .armed => reply c .wrongState [] s
      | .post => reply c .wrongState [] s) s)

/-- DISARM CAPTURE (R143): answered DONE in every state. -/
def execDisarmCapture (s : State) : Result :=
  .next (command 0x54 parseNone
    (fun () c s => reply c .done [] (onCapture CaptureUnit.toOff s)) s)

end Sys2Proof.Machine
end

