-- ==== Sys2Proof/Machine/EntryCommands.lean ====
section
/-! DEFINITION. The commands on table entries and check results: READ ENTRY (R161), WRITE ENTRY (R162),
SET TRACKER (R50), READ CHECKS (R112). -/

namespace Sys2Proof.Machine

/-- READ ENTRY (R160, R161). -/
def execReadEntry (s : State) : Result :=
  .next (command 0x10 parseAddress
    (fun p c s =>
      withMemory (s.addressRefusal (entryContent s.tables p.1 p.2).isSome)
        (fun s => reply c .done ((entryContent s.tables p.1 p.2).getD []) s) c s) s)

/-- R162: a WRITE ENTRY that owns the table memory. The records its effects offer join before its reply
(log 44). -/
def writeEntry (w : RawWrite) (c : CommandFrame) (s : State) : State :=
  if s.permitted w then
    match judge s w with
    | .error st => reply c st [] s
    | .ok (e, clamped) =>
      reply c (if clamped then .adjusted else .done) e.content (applyWrite e s)
  else reply c .protected_ [] s

/-- WRITE ENTRY (R160, R162). -/
def execWriteEntry (ties : Ties) (s : State) : Result :=
  .next (command 0x11 parseWrite
    (fun w c s =>
      withMemory (s.addressRefusal true) (withTies ties (writeEntry w c)) c s) s)

/-- R50: the TRACKERS entry with the mode and fixed frequency of a SET TRACKER. -/
def writeRequest (t : Fin 2) (mode : RequestedMode) (f : Nat) (s : State) : State :=
  onTables (fun tb => { tb with trackers := updAt tb.trackers t fun e =>
    { e with mode := mode, fixedFrequency := f } }) s

/-- R50: the result list of SET TRACKER: the tracker's state and frequency in use. -/
def putTrackerInUse (tr : Tracker) : List Byte := put1 tr.state.code ++ put4 tr.freq

/-- R50: a SET TRACKER that owns the table memory. The guard range never covers TRACKERS (R174), so
the locks alone decide whether a WRITE ENTRY would be permitted (R173). The records the tracker offers
join before the reply (log 44). -/
def setTracker (t : Fin 2) (mode f : Nat) (c : CommandFrame) (s : State) : State :=
  if s.locked .trackers then reply c .protected_ [] s
  else
    match requestedModeOf? mode with
    | none => reply c .badParam [] s
    | some m =>
      if f < Config.frequencyMin ∨ Config.frequencyMax < f then reply c .badParam [] s
      else
        let s := requestMode t m f (writeRequest t m f s)
        reply c .done (putTrackerInUse s.trackers[t]) s

/-- SET TRACKER (R50). -/
def execSetTracker (s : State) : Result :=
  .next (command 0x13 parseSetTracker
    (fun p c s =>
      match index? 2 p.1 with
      | none => withMemory (s.addressRefusal false) id c s
      | some t => withMemory (s.addressRefusal true) (setTracker t p.2.1 p.2.2 c) c s) s)

/-- R112: the bin results of a channel, one for each entry of its plan row. -/
def putBinChecks (row : PlanRow) (ch : ChannelChecks) : List Byte :=
  row.bins.flatMap fun b =>
    match ch.bins.find? fun x => x.k == b.k with
    | some x => putBinCheck b x
    | none => []

/-- R112: the result list of READ CHECKS for a channel. The interference item is present on a
DC_CURRENT channel only (log 16). -/
def State.checkReport (s : State) (c : Fin 16) : List Byte :=
  let kind := s.tables.channels[c].kind
  let ch := s.checks[c]
  put1 kind.code ++ putOption 5 putSummary ch.summary ++ putBinChecks s.tables.plans[c] ch
    ++ putOption 7 (fun st => putInterference st ch.lastFigure)
        (if kind = .dcCurrent then some ch.interferenceState else none)
    ++ put1 ch.code

/-- READ CHECKS (R112). -/
def execReadChecks (s : State) : Result :=
  .next (command 0x12 parseByte
    (fun n c s =>
      match index? 16 n with
      | none => withMemory (s.addressRefusal false) id c s
      | some ch =>
        withMemory (s.addressRefusal true) (fun s => reply c .done (s.checkReport ch) s) c s) s)

end Sys2Proof.Machine
end

