-- ==== Sys2Proof/Machine/Evaluation.lean ====
section
/-! DEFINITION. Chapters 5 to 7: what an evaluation computes from a window copy and the tables (R84 to
R111), and what its completion does (R83, R117, R118, R121). -/

namespace Sys2Proof.Machine

/-- What an evaluation reads: the copy, its channel, and the tables as they stand at the evaluation
(R84). -/
structure EvalInput where
  window : Window
  channel : Fin 16
  entry : ChannelEntry
  group : GroupEntry
  row : PlanRow
  before : ChannelChecks
  bands : List BandEntry
  signatures : List SignatureEntry
  deriving DecidableEq, Repr

/-- R84: the input of an evaluation of channel `c` on the copy `w`. -/
def State.evalInput (s : State) (c : Fin 16) (w : Window) : EvalInput :=
  { window := w, channel := c, entry := s.tables.channels[c], group := s.groupOf c,
    row := s.tables.plans[c], before := s.checks[c], bands := s.tables.bands.toList,
    signatures := s.tables.signatures.toList }

namespace EvalInput

/-- R85. -/
def mean (x : EvalInput) : Int := windowMean x.window.plain x.window.len

/-- The magnitude of bin 10 (R86, R87). -/
def a10 (x : EvalInput) : Nat := x.window.magnitude 10

/-- R88. -/
def ref (x : EvalInput) : Nat := windowReference x.entry.kind x.mean x.a10

/-- R72. -/
def degraded (x : EvalInput) : Bool := x.window.isDegraded x.group

/-- R89. -/
def noRef (x : EvalInput) : Bool := noReference x.group x.entry.kind x.ref

/-- R100: an evaluation is held when its window is DEGRADED, TEST or NO_REFERENCE. -/
def held (x : EvalInput) : Bool := x.degraded || x.window.test || x.noRef

/-- R84, stage 7: the plan entries of the snapshot's bins, in its order. The snapshot and the row hold
the same k values (R56, R69); a bin the row does not hold has no limit and no class and is left out
(log 27). -/
def planBins (x : EvalInput) : List PlanBin :=
  x.window.snapshot.filterMap fun k => x.row.bins.find? fun b => b.k == k

/-- R90: the ratio of a bin, absent in a NO_REFERENCE window. -/
def ratio (x : EvalInput) (k : Nat) : Option Nat :=
  if x.noRef then none else some (binRatio (x.window.magnitude k) x.ref)

/-- The check state of a bin before the evaluation, absent for a WATCH bin (R96). -/
def stateBefore (x : EvalInput) (k : Nat) : Option CheckState :=
  match x.before.bins.find? fun b => b.k == k with
  | some b => b.state
  | none => none

/-- R98, R100, R101: the check state of a bin after the evaluation. -/
def stateAfter (x : EvalInput) (b : PlanBin) : Option CheckState :=
  match b.cls, x.stateBefore b.k, x.ratio b.k with
  | .watch, _, _ => none
  | _, some st, some r =>
    some (if x.held then st
      else checkStep st r b.limit x.row.hysteresis x.row.raiseCount x.row.clearCount)
  | _, st, _ => st

/-- The result of one bin, as the verdict reports it (R120). -/
def binResult (x : EvalInput) (b : PlanBin) : BinResult :=
  { k := b.k, magnitude := x.window.magnitude b.k, ratio := x.ratio b.k,
    cls := resolveClass x.entry.kind x.group.pulse b, state := x.stateAfter b }

/-- The bin results in ascending k (R92, R120). -/
def binResults (x : EvalInput) : List BinResult := x.planBins.map x.binResult

/-- Whether the channel forms an interference figure (R105). -/
def formsFigure (x : EvalInput) : Bool := x.entry.kind == .dcCurrent

/-- R105: the interference figure. -/
def figure (x : EvalInput) : Nat :=
  interferenceFigure x.bands x.window.freq
    (x.window.snapshot.map fun k => (k, x.window.magnitude k))

/-- R106: the interference check state after the evaluation. -/
def interferenceAfter (x : EvalInput) : CheckState :=
  if x.formsFigure && !x.held then
    interferenceStep x.before.interferenceState x.figure x.group x.row
  else x.before.interferenceState

/-- R108, R100: the condition code after the evaluation. -/
def codeAfter (x : EvalInput) : Nat :=
  if x.held then x.before.code
  else matchCode x.signatures x.entry.kind (x.binResults.map fun b => (b.k, b.state))

/-- R110: the cause of one bin, if its alert began or ended. -/
def binCause (x : EvalInput) (b : BinResult) : Option Cause :=
  match x.stateBefore b.k, b.state with
  | some before, some after =>
    if alertBegan before after then some (.binAlert x.channel x.window.seq b.k b.cls)
    else if alertEnded before after then some (.binClear x.channel x.window.seq b.k b.cls)
    else none
  | _, _ => none

/-- R110: the cause of the interference figure, if its alert began or ended. -/
def interferenceCause (x : EvalInput) : Option Cause :=
  if alertBegan x.before.interferenceState x.interferenceAfter then
    some (.interferenceAlert x.channel x.window.seq x.figure)
  else if alertEnded x.before.interferenceState x.interferenceAfter then
    some (.interferenceClear x.channel x.window.seq x.figure)
  else none

/-- R109: the cause SIGNATURE, if the condition code changed. -/
def signatureCause (x : EvalInput) : Option Cause :=
  if x.codeAfter = x.before.code then none
  else some (.signature x.channel x.window.seq x.codeAfter)

/-- R110: the causes in order: bins in ascending k, the figure, the signature. A held evaluation
raises none (R100). -/
def causes (x : EvalInput) : List Cause :=
  if x.held then []
  else x.binResults.filterMap x.binCause ++ x.interferenceCause.toList ++ x.signatureCause.toList

/-- R111: the alert change mark: an alert began or ended, or the condition code changed. Each raises
exactly one cause (R110), so the mark is set when there is a cause. -/
def alertChange (x : EvalInput) : Bool := !x.causes.isEmpty

/-- R111: the alert entry of a cause, if it is the beginning of an alert. -/
def alertEntry? : Cause → Option AlertEntry
  | .binAlert _ _ k .characteristic => some { k := some k, cls := .characteristic }
  | .binAlert _ _ k .noncharacteristic => some { k := some k, cls := .noncharacteristic }
  | .binAlert _ _ _ .watch => none
  | .interferenceAlert _ _ _ => some { k := none, cls := .interference }
  | .binClear _ _ _ _ => none
  | .interferenceClear _ _ _ => none
  | .signature _ _ _ => none
  | .trackerState _ _ _ => none
  | .faultCaptured _ _ => none

/-- R111: the alert entries, in the order of the cause list. -/
def alertEntries (x : EvalInput) : List AlertEntry := x.causes.filterMap alertEntry?

/-- R102: one entry's check results after the evaluation. -/
def checkAfter (x : EvalInput) (b : BinCheck) : BinCheck :=
  match x.binResults.find? fun r => r.k == b.k with
  | some r => { b with state := r.state, lastRatio := r.ratio, lastClass := some r.cls }
  | none => b

/-- R102: the check results of the channel after the evaluation. -/
def checksAfter (x : EvalInput) : ChannelChecks :=
  { bins := x.before.bins.map x.checkAfter
    interferenceState := x.interferenceAfter
    lastFigure := if x.formsFigure then some x.figure else x.before.lastFigure
    code := x.codeAfter
    summary := some { seq := x.window.seq, degraded := x.degraded, test := x.window.test,
                      noReference := x.noRef } }

/-- R118: whether the evaluation offers a verdict record. -/
def offersVerdict (x : EvalInput) : Bool :=
  match x.row.verdictMode with
  | .all => true
  | .changes => x.alertChange
  | .silent => false

/-- R119, R120: the verdict record. -/
def verdict (x : EvalInput) (station : Nat) (streamType : BitVec 16) : VerdictRecord :=
  { station := station, streamType := streamType, channel := x.channel, group := x.entry.group
    seq := x.window.seq, stamp := x.window.stamp, len := x.window.len, freq := x.window.freq
    trackerState := x.window.trackerState
    flags := { degraded := x.degraded, test := x.window.test, noReference := x.noRef,
               saturated := x.window.saturated, atLimit := x.window.atLimit }
    filled := x.window.filled, mean := x.mean, a10 := x.a10, ref := x.ref
    bins := x.binResults
    interference := if x.formsFigure then some (x.figure, x.interferenceAfter) else none
    code := x.codeAfter }

end EvalInput

/-- R117: the records of a completion, in order: the alarm records, then the verdict record. -/
def State.evalRecords (s : State) (x : EvalInput) : List OutRecord :=
  x.causes.map (fun c => .alarm (s.alarm c))
    ++ (if x.offersVerdict then [.verdict (x.verdict s.station s.streamType)] else [])

/-- R83: the counters a completion raises. -/
def countEvaluation (x : EvalInput) (s : State) : State :=
  onChannelCounters x.channel (fun k => { k with
    evaluated := countUp k.evaluated 1
    degraded := if x.degraded then countUp k.degraded 1 else k.degraded }) s

/-- Records offered one after another while the fault record is held. -/
def offerAllHeld (rs : List OutRecord) (s : State) : State :=
  rs.foldl (fun s r => offerWhileHeld r s) s

/-- R117, R126: the records of a completion offered one after another. Where a drop fills the fault
record, its FAULT_CAPTURED record and the records still to be offered have no order among them: the
coincidences say before how many of them it is taken (log 5). -/
def offerAll : List OutRecord → State → State
  | [], s => s
  | r :: rs, s =>
    match s.fault.record, (enqueue s.records r).1 with
    | some _, _ => offerAllHeld (r :: rs) s
    | none, none => offerAll rs (offerRecord r s)
    | none, some d =>
      let s := countDrop d (kick .b { s with records := (enqueue s.records r).2 })
      let captured := OutRecord.alarm (s.alarm (.faultCaptured .recordDropped d.subject))
      let s := fillFault .recordDropped d.subject d.detail s
      match s.ties with
      | [] => offerAllHeld (captured :: rs) s
      | t :: ts => offerAllHeld (insertAt (t % (rs.length + 1)) captured rs) { s with ties := ts }

/-- R83: an evaluation of channel `c` on the copy `w` completes. -/
def completeEvaluation (c : Fin 16) (w : Window) (s : State) : State :=
  let x := s.evalInput c w
  let s := { s with checks := putAt s.checks c x.checksAfter }
  let s := offerAll (s.evalRecords x) s
  let s := countEvaluation x s
  let s := if s.opState = .analysing then triggerByAlert c w.seq x.alertEntries s else s
  engineRelease s

end Sys2Proof.Machine
end

