-- ==== Sys2Proof/Machine/Events.lean ====
section
/-! DEFINITION. The events that reach the module from its lines, its timers, its transmitters and its
maintenance line: one meaning for each row of the table that is not a command of the host computer
and not a restart. -/

namespace Sys2Proof.Machine

/-- R78, R83: the evaluation in the engine, where it is EVALUATING, completes. -/
def evaluates (s : State) : State :=
  match s.engine with
  | .evaluating c w => completeEvaluation c w s
  | .waiting _ _ => s
  | .idle => s

/-- R137, R141: a trigger of the capture unit that a frame meets. -/
def takeTrigger : MetTrigger → State → State
  | .command => triggerCommand
  | .evaluation => evaluates

/-- R140, R141: the triggers that a frame meets, one after another. -/
def takeTriggers (met : List MetTrigger) (s : State) : State :=
  met.foldl (fun s t => takeTrigger t s) s

/-- LINE_A_FRAME_ARRIVAL (R1, R20, R141, R187): a frame whose check sequence disagrees is discarded. -/
def execLineAFrameArrival (f : Frame) (meeting : Meeting) (s : State) : Result :=
  .next (whilePowered
    (fun s =>
      if f.fcsAgrees then
        withTies meeting.order
          (sortLineA meeting.expiry (takeTriggers meeting.triggers) f) s
      else s) s)

/-- LINE_B_FRAME_ARRIVAL (R2, R187). -/
def execLineBFrameArrival (f : Frame) (ties : Ties) (s : State) : Result :=
  .next (whilePowered (fun s => if f.fcsAgrees then withTies ties (sortLineB f) s else s) s)

/-- SILENCE_TIMEOUT (R19): the silence timer runs in RUNNING alone. -/
def execSilenceTimeout (src : Fin 8) (ties : Ties) (s : State) : Result :=
  .next (whilePowered
    (fun s => if s.sources[src].state = .running then withTies ties (loseSource src) s else s) s)

/-- R43: the usability timer of a measurer has expired. -/
def usabilityExpires (t : Fin 2) (r : Role) (s : State) : State :=
  let tr := s.trackers[t]
  measurerFailed t r
    (putTrackerAt t (tr.setMeasurer r { tr.measurer r with usable := false }) s)

/-- USABILITY_TIMEOUT (R43): the timer runs while the measurer is usable. -/
def execUsabilityTimeout (t : Fin 2) (r : Role) (ties : Ties) (s : State) : Result :=
  .next (whilePowered
    (fun s =>
      if (s.trackers[t].measurer r).usable then withTies ties (usabilityExpires t r) s else s) s)

/-- R47: the hold timer of a tracker has expired. -/
def holdExpires (t : Fin 2) (s : State) : State :=
  trackerMoved t (some .trackerFree) (putTrackerAt t s.trackers[t].enterFree s)

/-- HOLD_TIMEOUT (R47): the hold timer runs in HOLD alone. -/
def execHoldTimeout (t : Fin 2) (ties : Ties) (s : State) : Result :=
  .next (whilePowered
    (fun s => if s.trackers[t].state = .hold then withTies ties (holdExpires t) s else s) s)

/-- EVALUATION_COMPLETE (R83): the engine is EVALUATING. -/
def execEvaluationComplete (ties : Ties) (s : State) : Result :=
  .next (whilePowered
    (fun s =>
      match s.engine with
      | .evaluating c w => withTies ties (completeEvaluation c w) s
      | .waiting _ _ => s
      | .idle => s) s)

/-- R128: a transmitter completes the frame it sends; the arbiter chooses the next. The completion of
the reply to RESTART makes the command restart due (R155, log 30). -/
def completeFrame (l : Line) (r : Reply) (s : State) : State :=
  choose l
    (setOut l { s.out l with sending := none }
      (if r.restart then { s with command := { s.command with restart := .due } } else s))

/-- TRANSMIT_COMPLETE (R128): the transmitter is SENDING. -/
def execTransmitComplete (l : Line) (s : State) : Result :=
  .next (whilePowered
    (fun s =>
      match (s.out l).sending with
      | some r => completeFrame l r s
      | none => s) s)

/-- MAINTENANCE_LINE_CHANGE (R175): a change of the line does nothing by itself. The contact is outside
the module and moves whether or not it has supply. -/
def execMaintenanceLineChange (closed : Bool) (s : State) : Result :=
  .next { s with maintenanceClosed := closed }

/-- LOCAL_TIME_TICK (R186): from 4,294,967,295 the count goes to 0. -/
def execLocalTimeTick (s : State) : Result :=
  .next (whilePowered (fun s => { s with localTime := s.localTime + 1 }) s)

end Sys2Proof.Machine
end

