-- ==== Sys2Proof/Machine/FaultCommands.lean ====
section
/-! DEFINITION. The commands of the fault unit: READ COUNTERS (R184), CLEAR COUNTERS (R185), CLEAR FAULTS
(R182). -/

namespace Sys2Proof.Machine

/-- READ COUNTERS (R184). -/
def execReadCounters (s : State) : Result :=
  .next (command 0x40 parseNone (fun () c s => reply c .done (putCounters s.counters) s) s)

/-- CLEAR COUNTERS (R185). -/
def execClearCounters (s : State) : Result :=
  .next (command 0x41 parseNone
    (fun () c s => reply c .done [] { s with counters := zeroCounters }) s)

/-- R182: the fault record, the summary flags and the more-faults count are emptied, and so is the
lost-source set. -/
def emptyFaults (s : State) : State :=
  { s with fault := freshFault, lostSources := Vector.replicate 8 false }

/-- CLEAR FAULTS (R182): the result list holds what stood just before the clear. -/
def execClearFaults (s : State) : Result :=
  .next (command 0x42 parseNone
    (fun () c s => reply c .done (putFaultUnit s.fault) (emptyFaults s)) s)

end Sys2Proof.Machine
end

