-- ==== Sys2Proof/Machine/ModuleCommands.lean ====
section
/-! DEFINITION. The commands that concern the module as a whole: unknown codes (R149), IDENTIFY (R158),
READ STATUS (R159), START ANALYSIS (R153), STOP ANALYSIS (R154) and RESTART (R155). -/

namespace Sys2Proof.Machine

/-- R149, step 1: whether a queued command's code is not one of the module's, or is missing. -/
def CommandFrame.unknown (c : CommandFrame) : Bool :=
  match commandCode c.bytes with
  | some code => !knownCodes.contains code
  | none => true

/-- UNKNOWN_COMMAND (R149): answered in every operating state. -/
def execUnknownCommand (s : State) : Result :=
  .next (onOldest CommandFrame.unknown (fun c s => reply c .unknownCommand [] s) s)

/-- The part designation HJ724 as a text (R189): a length byte and its characters in ASCII. -/
def partDesignation : List Byte := [0x05#8, 0x48#8, 0x4A#8, 0x37#8, 0x32#8, 0x34#8]

/-- R158: the result list of IDENTIFY, the revision number in one byte (log 45). -/
def State.identity (s : State) : List Byte :=
  partDesignation ++ put1 Config.revision ++ put2 s.station ++ put1 s.opState.code

/-- IDENTIFY (R158): answered in LOADING as well. -/
def execIdentify (s : State) : Result :=
  .next (onOldest (CommandFrame.hasCode 0x01)
    (fun c s =>
      match parseNone (commandParams c.bytes) with
      | none => reply c .badParam [] s
      | some () => reply c .done s.identity s) s)

/-- R22: the state of each source, the lost-source set, and the last-gap source, 255 for none. -/
def putSources (s : State) : List Byte :=
  s.sources.toList.flatMap (fun r => put1 r.state.code) ++ put1 (setByte s.lostSources)
    ++ put1 (match s.lastGap with | some i => i.val | none => 255)

/-- R145: the capture state, sets held, missed-trigger count, and the header when it exists. -/
def putCapture (u : CaptureUnit) : List Byte :=
  put1 u.state.code ++ put2 u.buffer.length ++ put2 u.missed ++ putHeaderItem u.header

/-- The maintenance line: open 00h, closed 01h (log 18). -/
def putMaintenance (closed : Bool) : List Byte := put1 (if closed then 1 else 0)

/-- R159, R189: the validity marks of the stored images, each by its position in R166's "valid or
invalid": valid 00h, invalid 01h (log 19). -/
def putValidity (marks : Vector Bool 8) : List Byte := putBools (marks.map fun valid => !valid)

/-- R159: the result list of READ STATUS. The freeze flag, which has no code, is sent 01h where it is set (log
19). -/
def State.status (s : State) : List Byte :=
  put1 s.opState.code ++ put4 s.localTime.toNat
    ++ putMaintenance s.maintenanceClosed ++ putBool s.protection.freeze
    ++ putProgress s.store.op TableImage.table s.store.outcome ++ putValidity s.store.valid
    ++ putSources s ++ s.trackers.toList.flatMap putTracker ++ putCapture s.capture
    ++ putFaultUnit s.fault

/-- READ STATUS (R159). -/
def execReadStatus (s : State) : Result :=
  .next (command 0x02 parseNone (fun () c s => reply c .done s.status s) s)

/-- R113: the check results of every channel are cleared. -/
def clearAllChecks (s : State) : State :=
  { s with checks := Vector.ofFn fun c => clearedChecks s.tables.plans[c] }

/-- START ANALYSIS (R153). -/
def execStartAnalysis (s : State) : Result :=
  .next (command 0x20 parseNone
    (fun () c s =>
      withMemory s.startRefusal
        (fun s => reply c .done [] (clearAllChecks { s with opState := .analysing })) c s) s)

/-- R71, R154: every window of every channel ends and is counted; the sequence counters and a copy the
engine holds are kept. -/
def endAnalysis (s : State) : State :=
  (List.finRange 16).foldl (fun s c => endWindows c s) { s with opState := .configuring }

/-- STOP ANALYSIS (R154). -/
def execStopAnalysis (s : State) : Result :=
  .next (command 0x21 parseNone
    (fun () c s =>
      if s.opState = .analysing then reply c .done [] (endAnalysis s)
      else reply c .wrongState [] s) s)

/-- RESTART (R155): answered DONE; from then on no command is executed, and the command restart begins
when the reply has been transmitted. -/
def execRestart (s : State) : Result :=
  .next (command 0x22 parseNone
    (fun () c s =>
      replyWith true c .done [] { s with command := { s.command with restart := .replied } }) s)

end Sys2Proof.Machine
end

