-- ==== Sys2Proof/Machine/Restarts.lean ====
section
/-! DEFINITION. The two restarts (R156, R157, and the restart rules of each block), the load (R172,
R152) and the loss of supply (R166). -/

namespace Sys2Proof.Machine

/-- What both restarts make of the module (R156 and each block's restart rule): every block as
`State.reset` has it, but for the last values and positions of the sources, which entering OFF leaves
(R9, log 12), the settings store, which is kept (R166) with the store unit IDLE and its outcome none
(R167), the runtime locks, which take the runtime-lock default of the record in force (R172, R176), and
the maintenance line, an input. The check results are empty, with no bin entry, from here until the load
completes, which R113 leaves open (DESIGN CHOICE, log 12). -/
def restartBlocks (s : State) : State :=
  { State.reset with
    powered := s.powered
    maintenanceClosed := s.maintenanceClosed
    sources := s.sources.map offSource
    store := { s.store with op := .idle, outcome := .none }
    protection := { runtime := Vector.replicate 8 s.inForce.lockDefault, freeze := false }
    ties := s.ties
    pending := s.pending }

/-- R156: the power-on restart. -/
def restartByPower (s : State) : State := { restartBlocks s with powered := true }

/-- R4, R131: the output side of a line at a command restart: the forward queue is kept, a frame being
sent is completed, the reply queue is emptied and the passed-over count is 0. -/
def LineOut.restarted (o : LineOut) : LineOut :=
  { forward := o.forward, replies := [],
    sending := o.sending.map fun r => { r with restart := false }, passedOver := 0 }

/-- R156, R157, R183: the command restart. -/
def restartByCommand (s : State) : State :=
  { restartBlocks s with
    bootStation := s.tables.general.station
    bootStreamType := s.tables.general.streamType
    lineA := s.lineA.restarted
    lineB := s.lineB.restarted
    fault := s.fault }

/-- POWER_ON_RESTART (R156). -/
def execPowerOnRestart (s : State) : Result := .next (restartByPower s)

/-- COMMAND_RESTART (R155, R156): it begins when the reply to RESTART has been transmitted. -/
def execCommandRestart (s : State) : Result :=
  .next (whilePowered
    (fun s => if s.command.restart = .due then restartByCommand s else s) s)

/-- R172: what the load places in a working table: its stored image, or the factory defaults where the
image is invalid. -/
def State.loadImage (s : State) (t : TableId) : TableImage :=
  if s.store.valid[t.num] then s.store.images.image t else factoryTables.image t

/-- R172: the load copies one table; an invalid image is reported. -/
def loadTable (t : TableId) (s : State) : State :=
  let s' := { s with tables := s.tables.setImage (s.loadImage t), loadedTables := s.loadedTables + 1 }
  if s.store.valid[t.num] then s'
  else reportFault .storedInvalid t.num.val (.number t.num.val) s'

/-- LOAD_TABLE_COPIED (R172): the next table, in table order. -/
def execLoadTableCopied (s : State) : Result :=
  .next (whilePowered
    (fun s =>
      match s.opState, tableOf? s.loadedTables with
      | .loading, some t => loadTable t s
      | _, _ => s) s)

/-- R152: the operating state a load ends in. -/
def State.afterLoad (s : State) : OpState :=
  if s.tables.general.autoStart && s.store.valid.toList.all id then .analysing else .configuring

/-- R152, R171: consistency repair, and the blocks take up their loaded settings: sources (R9),
measurers (R53), bin lists (R56), check results (R113), capture settings (R133). The table memory is
released (R94). -/
def takeUpSettings (s : State) : State :=
  let t := repair s.tables
  { s with
    tables := t
    opState := s.afterLoad
    sources := Vector.ofFn fun i =>
      if t.sources[i].enabled then awaitSource s.sources[i] else s.sources[i]
    trackers := Vector.ofFn fun i =>
      { s.trackers[i] with
        primary := Measurer.rereferenced t.trackers[i].primary
        secondary := Measurer.rereferenced t.trackers[i].secondary }
    channels := Vector.ofFn fun c => { s.channels[c] with binList := t.plans[c].bins.map PlanBin.k }
    checks := Vector.ofFn fun c => clearedChecks t.plans[c]
    capture := { s.capture with settings := t.general.capture }
    memOwner := .free }

/-- R53: a tracker whose loaded entry requests FIXED enters FIXED, with its alarm record. -/
def fixIfRequested (t : Fin 2) (s : State) : State :=
  match s.tables.trackers[t].mode with
  | .auto => s
  | .fixed =>
    trackerMoved t none
      (putTrackerAt t (s.trackers[t].enterFixed s.tables.trackers[t].fixedFrequency) s)

/-- LOAD_COMPLETE (R152): all eight tables have been copied. -/
def execLoadComplete (ties : Ties) (s : State) : Result :=
  .next (whilePowered
    (fun s =>
      if s.opState = .loading ∧ s.loadedTables = 8 then
        withTies ties (fun s => inSomeOrder (List.finRange 2) fixIfRequested (takeUpSettings s)) s
      else s) s)

/-- SUPPLY_REMOVED (R166): the module stops; the settings store is kept, and an operation in progress
ends without completion (R169, R170, R177). The rest is lost: nothing reads it before the power-on
restart sets it afresh (log 25). -/
def execSupplyRemoved (s : State) : Result :=
  .next (whilePowered
    (fun s => { onStore (fun st => { st with op := .idle, outcome := .none }) s with powered := false })
    s)

end Sys2Proof.Machine
end

