-- ==== Sys2Proof/Machine/StoreCommands.lean ====
section
/-! DEFINITION. The settings store and write protection: STORE TABLE (R168) and its completion (R169),
RESTORE TABLE and its completion (R170, R171), QUERY PROGRESS (R167), runtime locks (R176), WRITE
PROTECTION and its completion (R177), FREEZE PROTECTION (R178). -/

namespace Sys2Proof.Machine

/-- R168: the store unit takes its copy of a working table and begins programming: the image is marked
invalid and the outcome is none. -/
def beginStoring (t : TableId) (s : State) : State :=
  onStore (fun st => { st with op := .storing (s.tables.image t), outcome := .none,
                               valid := putAt st.valid t.num false }) s

/-- STORE TABLE (R168). -/
def execStoreTable (s : State) : Result :=
  .next (command 0x30 parseByte
    (fun n c s =>
      match tableOf? n with
      | none => withMemory (s.storeRefusal none) id c s
      | some t =>
        withMemory (s.storeRefusal (some t))
          (fun s => reply c .inProgress [] (beginStoring t s)) c s) s)

/-- R169: programming of the image in the buffer ends. -/
def storeCompletes (img : TableImage) (agrees : Bool) (s : State) : State :=
  let t := img.table
  if agrees then
    onStore (fun st => { st with images := st.images.setImage img, valid := putAt st.valid t.num true,
                                 op := .idle, outcome := .doneOk (some t) none }) s
  else
    reportFault .storeFailed t.num.val (.number t.num.val)
      (onStore (fun st => { st with op := .idle, outcome := .failed (some t) }) s)

/-- STORE_PROGRAMMING_COMPLETE (R169): the store unit is STORING. -/
def execStoreProgrammingComplete (agrees : Bool) (s : State) : Result :=
  .next (whilePowered
    (fun s =>
      match s.store.op with
      | .storing img => storeCompletes img agrees s
      | .idle => s
      | .restoring _ => s
      | .storingProtection => s) s)

/-- R170: a RESTORE TABLE is accepted: the store unit requests the table memory, and owns it at once
where it is free. -/
def beginRestoring (t : TableId) (s : State) : State :=
  { onStore (fun st => { st with op := .restoring t, outcome := .none }) s with
    memOwner := if s.memOwner = .free then .store else s.memOwner }

/-- RESTORE TABLE (R170). -/
def execRestoreTable (s : State) : Result :=
  .next (command 0x31 parseByte
    (fun n c s =>
      match tableOf? n with
      | none => reply c .badParam [] s
      | some t =>
        if s.store.op ≠ .idle then reply c .busy [] s
        else if s.store.valid[t.num] then reply c .inProgress [] (beginRestoring t s)
        else reply c .wrongState [] s) s)

/-- R170, R171: the working tables a RESTORE copy of `t` makes, before repair. -/
def State.restored (s : State) (t : TableId) : Tables := s.tables.setImage (s.store.images.image t)

/-- R170: the copy and its repair are complete: the changed entries act, the store unit becomes IDLE
with its outcome, and the table memory is released. -/
def restoreCompletes (t : TableId) (s : State) : State :=
  let copied := s.restored t
  let new := repair copied
  let s := (restoreWrites s.tables new t).foldl (fun s w => applyRestored w s) s
  commandRelease (onStore (fun st => { st with
    op := .idle, outcome := .doneOk (some t) (some (repairedCount copied new)) }) s)

/-- RESTORE_COPY_COMPLETE (R170): the store unit is RESTORING and owns the table memory. -/
def execRestoreCopyComplete (ties : Ties) (s : State) : Result :=
  .next (whilePowered
    (fun s =>
      match s.store.op, s.memOwner with
      | .restoring t, .store => withTies ties (restoreCompletes t) s
      | _, _ => s) s)

/-- R167: the entries repaired of a RESTORE's outcome, if that is the outcome. -/
def repairedEntries : StoreOutcome → Option Nat
  | .doneOk _ n => n
  | .failed _ => none
  | .none => none

/-- R167: the result list of QUERY PROGRESS. The freeze flag, which has no code, is sent 01h where it is set
(log 19). -/
def State.progress (s : State) : List Byte :=
  putProgress s.store.op TableImage.table s.store.outcome
    ++ putOption 2 put2 (if s.store.op = .idle then repairedEntries s.store.outcome else none)
    ++ putProtection s.inForce ++ putBools s.protection.runtime ++ putBool s.protection.freeze
    ++ putMaintenance s.maintenanceClosed

/-- QUERY PROGRESS (R167). -/
def execQueryProgress (s : State) : Result :=
  .next (command 0x32 parseNone (fun () c s => reply c .done s.progress s) s)

/-- R176: the runtime lock of a table set or cleared. -/
def putRuntimeLock (t : TableId) (b : Bool) (s : State) : State :=
  { s with protection := { s.protection with runtime := putAt s.protection.runtime t.num b } }

/-- SET RUNTIME LOCK (R176): always permitted. -/
def execSetRuntimeLock (s : State) : Result :=
  .next (command 0x38 parseByte
    (fun n c s =>
      match tableOf? n with
      | none => reply c .badParam [] s
      | some t =>
        let s := putRuntimeLock t true s
        reply c .done (putBools s.protection.runtime) s) s)

/-- CLEAR RUNTIME LOCK (R176). -/
def execClearRuntimeLock (s : State) : Result :=
  .next (command 0x39 parseByte
    (fun n c s =>
      match tableOf? n with
      | none => reply c .badParam [] s
      | some t =>
        if s.barred then reply c .protected_ [] s
        else
          let s := putRuntimeLock t false s
          reply c .done (putBools s.protection.runtime) s) s)

/-- R177: a protection record from its parameters, where the mode is OPEN or KEYED and both groups are
0..3. -/
def RawProtection.typed (r : RawProtection) : Option Protection :=
  match (if r.mode = 0 then some ProtectMode.opened
         else if r.mode = 1 then some ProtectMode.keyed else none), index? 4 r.first, index? 4 r.last with
  | some mode, some first, some last =>
    some { mode := mode, locks := Vector.ofFn fun t : Fin 8 => bitOf r.locks t.val, first := first,
           last := last, complement := r.complement, lockDefault := r.lockDefault }
  | _, _, _ => none

/-- R166: the copy of the protection record that is not in force. -/
def SettingsStore.otherCopy (st : SettingsStore) : Fin 2 := if st.copyInForce = 0 then 1 else 0

/-- R177: programming of a new protection record begins in the copy that is not in force, which is
marked invalid; its generation is one more, modulo 256, than that of the copy in force. -/
def beginProtection (p : Protection) (s : State) : State :=
  onStore (fun st =>
    { st.setCopy st.otherCopy
        { content := p, generation := ((st.copy st.copyInForce).generation + 1) % 256, valid := false }
      with op := .storingProtection, outcome := .none }) s

/-- WRITE PROTECTION (R177). -/
def execWriteProtection (s : State) : Result :=
  .next (command 0x3A parseProtection
    (fun r c s =>
      match r.typed with
      | none => reply c .badParam [] s
      | some p =>
        if s.store.op ≠ .idle then reply c .busy [] s
        else if s.barred then reply c .protected_ [] s
        else reply c .inProgress [] (beginProtection p s)) s)

/-- R177: programming of the protection record ends. -/
def protectionCompletes (agrees : Bool) (s : State) : State :=
  if agrees then
    onStore (fun st =>
      { st.setCopy st.otherCopy { st.copy st.otherCopy with valid := true } with
        op := .idle, outcome := .doneOk none none }) s
  else
    reportFault .storeFailed 255 .absent
      (onStore (fun st => { st with op := .idle, outcome := .failed none }) s)

/-- PROTECTION_PROGRAMMING_COMPLETE (R177): the store unit is STORING PROTECTION. -/
def execProtectionProgrammingComplete (agrees : Bool) (s : State) : Result :=
  .next (whilePowered
    (fun s => if s.store.op = .storingProtection then protectionCompletes agrees s else s) s)

/-- FREEZE PROTECTION (R178). -/
def execFreezeProtection (s : State) : Result :=
  .next (command 0x3B parseNone
    (fun () c s =>
      reply c .done [] { s with protection := { s.protection with freeze := true } }) s)

end Sys2Proof.Machine
end

