-- ==== Sys2Proof/Machine/Dispatch.lean ====
section
/-! DEFINITION. The dispatch of the commands of the block to their meanings, one arm for each row of
spec/opcode_table.json. -/

namespace Sys2Proof.Machine

/-- The effect of one command on everything but the queue of waiting commands. -/
def exec (i : Instr) (s : State) : Host.Outcome State Fault Refusal :=
  match i with
  | .lineAFrameArrival f ties => Sys2Proof.Machine.execLineAFrameArrival f ties s
  | .lineBFrameArrival f ties => Sys2Proof.Machine.execLineBFrameArrival f ties s
  | .silenceTimeout source ties => Sys2Proof.Machine.execSilenceTimeout source ties s
  | .usabilityTimeout tracker measurer ties => Sys2Proof.Machine.execUsabilityTimeout tracker measurer ties s
  | .holdTimeout tracker ties => Sys2Proof.Machine.execHoldTimeout tracker ties s
  | .evaluationComplete ties => Sys2Proof.Machine.execEvaluationComplete ties s
  | .transmitComplete line => Sys2Proof.Machine.execTransmitComplete line s
  | .unknownCommand => Sys2Proof.Machine.execUnknownCommand s
  | .identify => Sys2Proof.Machine.execIdentify s
  | .readStatus => Sys2Proof.Machine.execReadStatus s
  | .readEntry => Sys2Proof.Machine.execReadEntry s
  | .writeEntry ties => Sys2Proof.Machine.execWriteEntry ties s
  | .readChecks => Sys2Proof.Machine.execReadChecks s
  | .setTracker => Sys2Proof.Machine.execSetTracker s
  | .startAnalysis => Sys2Proof.Machine.execStartAnalysis s
  | .stopAnalysis => Sys2Proof.Machine.execStopAnalysis s
  | .restart => Sys2Proof.Machine.execRestart s
  | .commandRestart => Sys2Proof.Machine.execCommandRestart s
  | .powerOnRestart => Sys2Proof.Machine.execPowerOnRestart s
  | .loadTableCopied => Sys2Proof.Machine.execLoadTableCopied s
  | .loadComplete ties => Sys2Proof.Machine.execLoadComplete ties s
  | .armCapture => Sys2Proof.Machine.execArmCapture s
  | .triggerCapture => Sys2Proof.Machine.execTriggerCapture s
  | .readCapture => Sys2Proof.Machine.execReadCapture s
  | .releaseCapture => Sys2Proof.Machine.execReleaseCapture s
  | .disarmCapture => Sys2Proof.Machine.execDisarmCapture s
  | .storeTable => Sys2Proof.Machine.execStoreTable s
  | .storeProgrammingComplete agrees => Sys2Proof.Machine.execStoreProgrammingComplete agrees s
  | .restoreTable => Sys2Proof.Machine.execRestoreTable s
  | .restoreCopyComplete ties => Sys2Proof.Machine.execRestoreCopyComplete ties s
  | .queryProgress => Sys2Proof.Machine.execQueryProgress s
  | .setRuntimeLock => Sys2Proof.Machine.execSetRuntimeLock s
  | .clearRuntimeLock => Sys2Proof.Machine.execClearRuntimeLock s
  | .writeProtection => Sys2Proof.Machine.execWriteProtection s
  | .protectionProgrammingComplete agrees => Sys2Proof.Machine.execProtectionProgrammingComplete agrees s
  | .freezeProtection => Sys2Proof.Machine.execFreezeProtection s
  | .readCounters => Sys2Proof.Machine.execReadCounters s
  | .clearCounters => Sys2Proof.Machine.execClearCounters s
  | .clearFaults => Sys2Proof.Machine.execClearFaults s
  | .maintenanceLineChange closed => Sys2Proof.Machine.execMaintenanceLineChange closed s
  | .localTimeTick => Sys2Proof.Machine.execLocalTimeTick s
  | .supplyRemoved => Sys2Proof.Machine.execSupplyRemoved s

end Sys2Proof.Machine
end

