-- ==== Sys2Proof/Safety.lean ====
section
/-! DEFINITION. What a safe run of the block is, and the invariants of its state: the bounds and
relations that the manual's rules keep at every moment. Each is a condition on one state; the
certificates state that a step keeps it. -/

namespace Sys2Proof.Machine

/-! ### Runs -/

/-- The state after `n` steps, if every one of them answers a next state. -/
def runFor : Nat → State → Option State
  | 0, s => some s
  | n + 1, s =>
    match step s with
    | .next t => runFor n t
    | .fault _ => none
    | .refused _ => none

/-- A state is safe when no number of steps from it ends in a fault or a refusal. The manual gives
every event of the module an effect in every state. -/
def Safe (s : State) : Prop := ∀ n, (runFor n s).isSome = true

/-! ### Queues and lines -/

/-- R3, R123, R127, R129, R147: every queue is within its depth, and no inserted frame has been passed
over more than four times. -/
def QueuesBounded (s : State) : Prop :=
  (∀ l, (s.out l).forward.length ≤ 32 ∧ (s.out l).passedOver ≤ 4)
    ∧ s.records.length ≤ 16
    ∧ s.command.queue.length + s.lineA.replies.length + s.lineB.replies.length ≤ 4

/-- R128: nothing waits for one line while its transmitter is IDLE. -/
def LineSettled (l : Line) (s : State) : Prop :=
  (s.out l).sending = none →
    (s.out l).forward = [] ∧ (s.out l).replies = [] ∧ s.recordsFor l = []

/-- R128: nothing waits for either line while its transmitter is IDLE. -/
def LinesSettled (s : State) : Prop := ∀ l, LineSettled l s

/-! ### The load -/

/-- R151, R152, R157, R94: in LOADING the store side owns the table memory, and no other block has
begun its work. -/
def LoadingQuiet (s : State) : Prop :=
  s.opState = .loading →
    s.loadedTables ≤ 8 ∧ s.memOwner = .store ∧ s.engine = .idle ∧ s.store.op = .idle
      ∧ s.command.requested = false ∧ s.capture.state = .off
      ∧ (∀ i : Fin 8, s.sources[i].state = .off)
      ∧ s.trackers = Vector.replicate 2 freshTracker
      ∧ ∀ c : Fin 16, s.channels[c].ctx0 = .free ∧ s.channels[c].ctx1 = .free

/-! ### Tables -/

/-- Whether two naturals bound a third. -/
def within (lo hi n : Nat) : Prop := lo ≤ n ∧ n ≤ hi

/-- R133, R164: the ranges of a GENERAL entry. -/
def GeneralEntry.legal (e : GeneralEntry) : Prop :=
  e.station < 65535 ∧ e.capture.preTrigger ≤ 4095

/-- R7: the ranges of a SOURCES entry (1.3). -/
def SourceEntry.legal (e : SourceEntry) : Prop :=
  within 1 65534 e.sourceId ∧ within 1 8 e.channelCount ∧ within 1 16 e.gapLimit
    ∧ within 1 100 e.silenceTimeout

/-- R7: two enabled entries never hold one source id. -/
def sourceIdsDistinct (v : Vector SourceEntry 8) : Prop :=
  ∀ i j : Fin 8, i ≠ j → v[i].enabled = true → v[j].enabled = true → v[i].sourceId ≠ v[j].sourceId

/-- R27: the ranges of a GROUPS entry (2.2). -/
def GroupEntry.legal (e : GroupEntry) : Prop :=
  (e.pulse = 6 ∨ e.pulse = 12 ∨ e.pulse = 24) ∧ e.dcFloor ≤ 16777215 ∧ e.acFloor ≤ 16777215
    ∧ e.fillLimit ≤ 2723 ∧ e.interferenceLimit ≤ 16777215 ∧ e.interferenceHysteresis ≤ 16777215

/-- R36: the ranges of a TRACKERS entry (3.1) and the relation of its two references. -/
def TrackerEntry.legal (e : TrackerEntry) : Prop :=
  e.floor ≤ 8388608 ∧ within 1 600 e.holdTime ∧ within 47000 53000 e.fixedFrequency
    ∧ (e.secondary.isSome = true → e.primary.isSome = true ∧ e.secondary ≠ e.primary)

/-- R95: the ranges of a PLANS row (6.1), its bins strictly ascending in k. -/
def PlanRow.legal (p : PlanRow) : Prop :=
  p.hysteresis ≤ 65535 ∧ within 1 15 p.raiseCount ∧ within 1 15 p.clearCount ∧ p.bins.length ≤ 24
    ∧ (∀ b ∈ p.bins, within 1 1200 b.k ∧ b.limit ≤ 65535) ∧ (p.bins.map PlanBin.k).Pairwise (· < ·)

/-- R103: the ranges of a BANDS entry (6.3.1). -/
def BandEntry.legal (e : BandEntry) : Prop :=
  1 ≤ e.low ∧ e.low ≤ e.high ∧ e.high ≤ 6400 ∧ e.weight ≤ 1000

/-- R107: the ranges of a SIGNATURES entry (6.4.1). -/
def SignatureEntry.legal (e : SignatureEntry) : Prop :=
  within 1 6 e.bins.length ∧ (∀ k ∈ e.bins, within 1 1200 k) ∧ e.bins.Pairwise (· < ·)
    ∧ within 1 255 e.code

/-- The rules of each table on its own content. -/
def TableImage.legal : TableImage → Prop
  | .general e => e.legal
  | .sources v => (∀ i : Fin 8, v[i].legal) ∧ sourceIdsDistinct v
  | .channels _ => True
  | .groups v => ∀ i : Fin 4, v[i].legal
  | .trackers v => ∀ i : Fin 2, v[i].legal
  | .plans v => ∀ i : Fin 16, v[i].legal
  | .bands v => ∀ i : Fin 8, v[i].legal
  | .signatures v => ∀ i : Fin 16, v[i].legal

/-- The rules of every table on its own content. -/
def Tables.legal (t : Tables) : Prop := ∀ id, (t.image id).legal

/-- R7, R23, R36, R95, R171: what the tables require of one another: an enabled channel's slot is one
its source has, a reference channel is AC_VOLTAGE, and no AC channel has bin 10 in its plan. -/
def Tables.consistent (t : Tables) : Prop :=
  (∀ c : Fin 16, t.channels[c].enabled = true →
      t.channels[c].slot.val < t.sources[t.channels[c].source].channelCount)
    ∧ (∀ (i : Fin 2) (r : Role) (c : Fin 16), t.trackers[i].reference r = some c →
        t.channels[c].kind = .acVoltage)
    ∧ ∀ c : Fin 16, t.channels[c].kind.isDC = false → ∀ b ∈ t.plans[c].bins, b.k ≠ 10

/-- The working tables, the stored images and the store unit's buffer obey the rules of their tables;
outside LOADING the working tables are consistent with one another. -/
def TablesLegal (s : State) : Prop :=
  s.tables.legal ∧ s.store.images.legal ∧ (∀ b, s.store.op = .storing b → b.legal)
    ∧ (s.opState ≠ .loading → s.tables.consistent)

/-! ### Sources and trackers -/

/-- R8, R9, R16, R19: outside LOADING a source is OFF exactly while its entry is disabled, its silence
timer runs exactly in RUNNING, a RUNNING source has a last position, and last values are 24-bit
counts. -/
def SourcesLegal (s : State) : Prop :=
  ∀ i : Fin 8,
    (s.opState ≠ .loading → (s.sources[i].state = .off ↔ s.tables.sources[i].enabled = false))
      ∧ (s.sources[i].silence.isSome = true ↔ s.sources[i].state = .running)
      ∧ (s.sources[i].state = .running → s.sources[i].lastPos.isSome = true)
      ∧ ∀ j : Fin 8, -8388608 ≤ s.sources[i].lastValues[j] ∧ s.sources[i].lastValues[j] ≤ 8388607

/-- R38, R42, R43: a usable measurer's last measurement is valid and in range, and outside LOADING a
measurer is IDLE exactly while it has no reference channel. -/
def MeasurersLegal (s : State) : Prop :=
  ∀ (t : Fin 2) (r : Role),
    ((s.trackers[t].measurer r).usable = true →
        ∃ f, (s.trackers[t].measurer r).last = some { freq := f, valid := true }
          ∧ within 45000 55000 f)
      ∧ (s.trackers[t].measurer r).run ≤ 255
      ∧ (s.opState ≠ .loading → ((s.trackers[t].measurer r).state = .idle ↔
          s.tables.trackers[t].reference r = none))

/-- R44, R50: a tracker's frequency in use is in range; its hold timer runs exactly in HOLD; FREE is at
50,000 mHz; FIXED is at the fixed frequency, exactly while the requested mode is FIXED; and in FOLLOW
the measurer followed is usable. -/
def TrackersLegal (s : State) : Prop :=
  ∀ t : Fin 2,
    within 47000 53000 s.trackers[t].freq
      ∧ (s.trackers[t].hold.isSome = true ↔ s.trackers[t].state = .hold)
      ∧ (s.trackers[t].state = .free → s.trackers[t].freq = 50000 ∧ s.trackers[t].atLimit = false)
      ∧ (s.trackers[t].state = .fixed →
          s.trackers[t].freq = s.tables.trackers[t].fixedFrequency ∧ s.trackers[t].atLimit = false)
      ∧ (s.opState ≠ .loading →
          (s.trackers[t].state = .fixed ↔ s.tables.trackers[t].mode = .fixed))
      ∧ (s.trackers[t].state = .followPrimary → s.trackers[t].primary.usable = true)
      ∧ (s.trackers[t].state = .followSecondary → s.trackers[t].secondary.usable = true)

/-! ### Windows and the engine -/

/-- R24, R25, R55, R59: windows are held in ANALYSING by active channels alone, at most one FILLING and
one PENDING of each; a copy that waits for the table memory is of an active channel. -/
def ContextsLegal (s : State) : Prop :=
  (∀ c : Fin 16,
    ((s.opState ≠ .analysing ∨ s.active c = false) →
        s.channels[c].ctx0 = .free ∧ s.channels[c].ctx1 = .free)
      ∧ ¬ (s.channels[c].ctx0.isFilling = true ∧ s.channels[c].ctx1.isFilling = true)
      ∧ ¬ (s.channels[c].ctx0.isPending = true ∧ s.channels[c].ctx1.isPending = true)
      ∧ s.channels[c].seqNext < 65536)
    ∧ ∀ c w, s.engine = .waiting c (some w) → s.active c = true

/-- The windows of a state with their channel: those in contexts, and the engine's copy. -/
def State.holdsWindow (s : State) (c : Fin 16) (w : Window) : Prop :=
  s.channels[c].ctx0 = .filling w ∨ s.channels[c].ctx1 = .filling w
    ∨ s.channels[c].ctx0 = .pending w ∨ s.channels[c].ctx1 = .pending w
    ∨ s.engine = .waiting c (some w) ∨ s.engine = .evaluating c w

/-- R52, R55, R57, R60, R62: the content of a window: its length from its frequency, one pair of sums
for each bin of the snapshot and for bin 10, and every sum within the bound its count gives it. -/
def Window.legal (w : Window) : Prop :=
  within 47000 53000 w.freq ∧ w.len = windowLength w.freq ∧ w.seq < 65536 ∧ w.filled ≤ w.count
    ∧ (w.degradedAtOpen = true ↔ w.trackerState = .free)
    ∧ w.sums.map BinSum.k = accumulatedBins w.snapshot
    ∧ w.plain.natAbs ≤ 8388608 * w.count
    ∧ ∀ b ∈ w.sums, b.cosSum.natAbs ≤ 8388608 * 32767 * w.count
        ∧ b.sinSum.natAbs ≤ 8388608 * 32767 * w.count

/-- R55, R63: every window is legal; a FILLING one is short of its length, and one that is PENDING or
copied has exactly its length of sets. -/
def WindowsLegal (s : State) : Prop :=
  (∀ c w, s.holdsWindow c w → w.legal)
    ∧ (∀ (c : Fin 16) (w : Window),
        s.channels[c].ctx0 = .filling w ∨ s.channels[c].ctx1 = .filling w → w.count < w.len)
    ∧ ∀ (c : Fin 16) (w : Window),
        s.channels[c].ctx0 = .pending w ∨ s.channels[c].ctx1 = .pending w
          ∨ s.engine = .waiting c (some w) ∨ s.engine = .evaluating c w → w.count = w.len

/-- R56, R69, R84: outside LOADING a channel unit's bin list, and the snapshot of every window it or
the engine holds, are the bins of its PLANS row. -/
def SnapshotsCurrent (s : State) : Prop :=
  s.opState ≠ .loading →
    (∀ c : Fin 16, s.channels[c].binList = s.tables.plans[c].bins.map PlanBin.k)
      ∧ ∀ c w, s.holdsWindow c w → w.snapshot = s.tables.plans[c].bins.map PlanBin.k

/-- Whether a queued command is one that its own rule makes request the table memory (R79): READ ENTRY,
WRITE ENTRY, READ CHECKS, SET TRACKER, START ANALYSIS or STORE TABLE, with parameters that name an
existing place. -/
def CommandFrame.needsMemory (c : CommandFrame) : Prop :=
  let p := commandParams c.bytes
  (commandCode c.bytes = some 0x10 ∧ (parseAddress p).isSome = true)
    ∨ (commandCode c.bytes = some 0x11 ∧ (parseWrite p).isSome = true)
    ∨ (commandCode c.bytes = some 0x12 ∧ ((parseByte p).bind (index? 16)).isSome = true)
    ∨ (commandCode c.bytes = some 0x13 ∧
        ((parseSetTracker p).bind fun x => index? 2 x.1).isSome = true)
    ∨ (commandCode c.bytes = some 0x20 ∧ (parseNone p).isSome = true)
    ∨ (commandCode c.bytes = some 0x30 ∧ ((parseByte p).bind tableOf?).isSome = true)

/-- R75, R79, R80, R82: while the module has its supply, the engine owns the table memory exactly while
it evaluates; the command unit owns it only for a command that requested it; the store side in LOADING
or for a RESTORE copy; and the engine is IDLE only while no channel requests it. -/
def MemoryLegal (s : State) : Prop :=
  s.powered = true →
    (s.memOwner = .engine ↔ ∃ c w, s.engine = .evaluating c w)
      ∧ (s.memOwner = .free → s.engine = .idle)
      ∧ (s.memOwner = .command → s.command.requested = true)
      ∧ (s.memOwner = .store → s.opState = .loading ∨ s.restoring = true)
      ∧ (s.restoring = true → s.opState ≠ .loading ∧ (s.memOwner = .store ∨ s.memOwner = .engine))
      ∧ (s.command.requested = true →
          s.opState ≠ .loading ∧ s.restoring = false
            ∧ (s.memOwner = .command ∨ s.memOwner = .engine)
            ∧ ∃ c rest, s.command.queue = c :: rest ∧ c.needsMemory)
      ∧ (s.engine = .idle → ∀ c : Fin 16, s.channels[c].requests = false)

/-! ### Check results -/

/-- R96: the counts of RISING and FALLING are 1..14. -/
def CheckState.legal : CheckState → Prop
  | .clear => True
  | .rising n => within 1 14 n
  | .alert => True
  | .falling n => within 1 14 n

/-- R96, R97: outside LOADING the check results of a channel hold one entry for each entry of its PLANS
row, in its order, with a check state exactly where the class is not WATCH. -/
def ChecksLegal (s : State) : Prop :=
  s.opState ≠ .loading → ∀ c : Fin 16,
    List.Forall₂
        (fun (b : PlanBin) (x : BinCheck) =>
          x.k = b.k ∧ (x.state = none ↔ b.cls = .watch) ∧ ∀ st, x.state = some st → st.legal)
        s.tables.plans[c].bins s.checks[c].bins
      ∧ s.checks[c].interferenceState.legal

/-! ### Capture, protection, faults and counters -/

/-- R133 to R143: what the capture unit holds in each of its states. -/
def CaptureLegal (s : State) : Prop :=
  let u := s.capture
  u.missed ≤ 255 ∧ u.buffer.length ≤ 4096 ∧ (∀ ss ∈ u.buffer, ss.values.length = u.perSet)
    ∧ (s.opState ≠ .loading → u.settings = s.tables.general.capture)
    ∧ ((u.state = .armed ∨ u.state = .post) →
        u.source = u.settings.source ∧ u.perSet = s.tables.sources[u.source].channelCount)
    ∧ match u.state with
      | .off => u.buffer = [] ∧ u.header = none ∧ u.missed = 0
      | .armed => u.header = none ∧ u.missed = 0
      | .post => ∃ h, u.header = some h ∧ h.source = u.source ∧ h.perSet = u.perSet
          ∧ h.total = none ∧ h.truncated = false ∧ h.preActual ≤ u.buffer.length
          ∧ u.buffer.length < 4096
      | .held => ∃ h, u.header = some h ∧ h.source = u.source ∧ h.perSet = u.perSet
          ∧ h.total = some u.buffer.length ∧ h.preActual ≤ u.buffer.length
          ∧ (h.truncated = false ↔ u.buffer.length = 4096)

/-- R166, R177: one copy of the protection record is valid at every moment, two valid copies have
consecutive generations, and while a record is being programmed the other copy alone is valid. -/
def ProtectionLegal (s : State) : Prop :=
  let a := s.store.copy0
  let b := s.store.copy1
  a.generation < 256 ∧ b.generation < 256 ∧ (a.valid = true ∨ b.valid = true)
    ∧ (a.valid = true → b.valid = true →
        b.generation = (a.generation + 1) % 256 ∨ a.generation = (b.generation + 1) % 256)
    ∧ (s.store.op = .storingProtection →
        (a.valid = true ∧ b.valid = false ∧ b.generation = (a.generation + 1) % 256)
          ∨ (b.valid = true ∧ a.valid = false ∧ a.generation = (b.generation + 1) % 256))

/-- R180: an empty fault record goes with no flag and no count; a held one with the flag of its kind
set. -/
def FaultUnitLegal (s : State) : Prop :=
  s.fault.more ≤ 255 ∧
    match s.fault.record with
    | none => s.fault.more = 0 ∧ ∀ k : Fin 12, s.fault.summary[k] = false
    | some r => s.fault.summary[r.kind.index] = true

/-- R184: every counter of a source, a channel and the device is at most 65,535. -/
def CountersLegal (s : State) : Prop :=
  (∀ i : Fin 8,
    let k := s.counters.sources[i]
    k.gapBlocks ≤ 65535 ∧ k.stale ≤ 65535 ∧ k.realigns ≤ 65535 ∧ k.losses ≤ 65535
      ∧ k.clamped ≤ 65535 ∧ k.malformed ≤ 65535)
    ∧ (∀ c : Fin 16,
      let k := s.counters.channels[c]
      k.evaluated ≤ 65535 ∧ k.abandoned ≤ 65535 ∧ k.missed ≤ 65535 ∧ k.degraded ≤ 65535)
    ∧ s.counters.forwardDropsAB ≤ 65535 ∧ s.counters.forwardDropsBA ≤ 65535
    ∧ s.counters.verdictDrops ≤ 65535 ∧ s.counters.alarmDrops ≤ 65535
    ∧ s.counters.commandDrops ≤ 65535 ∧ s.counters.malformedCommands ≤ 65535
    ∧ s.counters.foreignFrames ≤ 65535

end Sys2Proof.Machine
end

