-- ==== Sys2Proof/Certificates/Slice0/Obligations.lean ====
section
/-! DEFINITION. The statements for the provers. Each is a `def Obligations.<Name> : Prop`; its docstring
names the rules of the manual it formalises. The helper definitions say, once, when a command of the
host computer stands at the front with nothing in its way, and what answering it leaves behind. -/

namespace Sys2Proof.Claims

open Sys2Proof.Machine

/-! ### When a command of the host computer is executed, and its answer -/

/-- The command `c`, of code `code`, is the oldest not yet executed (R148), no RESTART has been answered
(R155), the module has its supply, and nothing waits for an IDLE transmitter (R128). -/
def AtFront (code : Nat) (s : State) (c : CommandFrame) : Prop :=
  s.powered = true ∧ s.command.restart = .none ∧ s.command.queue.head? = some c
    ∧ commandCode c.bytes = some code ∧ LinesSettled s

/-- As `AtFront`, in CONFIGURING or ANALYSING, where R149 lets the command's own rule apply. -/
def Accepts (code : Nat) (s : State) (c : CommandFrame) : Prop :=
  AtFront code s c ∧ s.opState ≠ .loading

/-- R148, R128, R129: the state once the reply to the oldest command has been formed in `s`: the command
has left the queue, and the reply is at the tail of the reply queue of the line the command arrived on,
or is being sent where that line's transmitter was IDLE. All else stands as in `s`. -/
def answered (restart : Bool) (c : CommandFrame) (st : Status) (result : List Byte) (s : State) :
    State :=
  let r : Reply := { frame := s.replyFrame c st result, restart := restart }
  let o := s.out c.line
  let o' : LineOut :=
    if o.sending.isSome then { o with replies := o.replies ++ [r] }
    else { o with sending := some r, passedOver := 0 }
  let unit : CommandUnit := { s.command with queue := s.command.queue.tail, requested := false }
  match c.line with
  | .a => { s with command := unit, lineA := o' }
  | .b => { s with command := unit, lineB := o' }

/-- R79: the oldest command owns the table memory, or gets it at once: it asks now and the memory is
free, or it asked before and the memory has been given to it; the engine does not wait. -/
def HasMemory (s : State) : Prop :=
  s.engine = .idle
    ∧ ((s.command.requested = false ∧ s.memOwner = .free ∧ s.restoring = false)
      ∨ (s.command.requested = true ∧ s.memOwner = .command))

/-- The memory released with no request of the engine waiting (R80). -/
def released (s : State) : State := { s with memOwner := .free }

/-- The code of each command of the host computer (12.3), but for unknown codes. -/
def codeOf : Instr → Option Nat
  | .identify => some 0x01
  | .readStatus => some 0x02
  | .readEntry => some 0x10
  | .writeEntry _ => some 0x11
  | .readChecks => some 0x12
  | .setTracker => some 0x13
  | .startAnalysis => some 0x20
  | .stopAnalysis => some 0x21
  | .restart => some 0x22
  | .storeTable => some 0x30
  | .restoreTable => some 0x31
  | .queryProgress => some 0x32
  | .setRuntimeLock => some 0x38
  | .clearRuntimeLock => some 0x39
  | .writeProtection => some 0x3A
  | .freezeProtection => some 0x3B
  | .readCounters => some 0x40
  | .clearCounters => some 0x41
  | .clearFaults => some 0x42
  | .armCapture => some 0x50
  | .triggerCapture => some 0x51
  | .readCapture => some 0x52
  | .releaseCapture => some 0x53
  | .disarmCapture => some 0x54
  | _ => none

/-- R190, 12.3: whether a parameter list can be decoded for a command's code. -/
def decodes (i : Instr) (p : List Byte) : Bool :=
  match i with
  | .readEntry => p.length == 2
  | .writeEntry _ => (parseWrite p).isSome
  | .readChecks => p.length == 1
  | .setTracker => p.length == 6
  | .storeTable => p.length == 1
  | .restoreTable => p.length == 1
  | .setRuntimeLock => p.length == 1
  | .clearRuntimeLock => p.length == 1
  | .writeProtection => p.length == 6 && byteAt p 4 ≤ 1 && byteAt p 5 ≤ 1
  | .readCapture => p.length == 3
  | _ => p.length == 0

/-! ### Frames of effects that report -/

/-- The step changed nothing but what reporting changes: the record queue, line B's output side, the
fault unit, the drop counters, and the model's coincidences. -/
def OnlyReports (s t : State) : Prop :=
  { t with
    records := s.records, lineB := s.lineB, fault := s.fault, ties := s.ties
    counters := { t.counters with
      verdictDrops := s.counters.verdictDrops, alarmDrops := s.counters.alarmDrops } } = s

/-- R180: a fault of kind `k` has been reported: its flag is set, and it filled an empty record or left
the held one as it was. -/
def Reported (k : FaultKind) (s t : State) : Prop :=
  t.fault.summary[k.index] = true
    ∧ match s.fault.record with
      | some r => t.fault.record = some r
      | none => t.fault.record.isSome = true

/-- R121, R122: an alarm record of a cause built now: the station number and stream type in force, and the
local time. -/
def builtNow (c : Cause) (s : State) : AlarmRecord :=
  { station := s.station, streamType := s.streamType, cause := c, localTime := s.localTime }

/-- R180, record held: only the flag of the kind and the more-faults count change. -/
def faultNoted (k : FaultKind) (s : State) : State :=
  { s with fault := { s.fault with
      summary := s.fault.summary.set k.index.val true, more := min 255 (s.fault.more + 1) } }

/-- R129: a record that leaves the record queue is sent as its frame. -/
def sentRecord (v : OutRecord) : Reply := { frame := recordFrame v, restart := false }

/-- R123, R128: records have been offered one after another to a record queue with room for them: they are at
its tail, but that on an IDLE line B the first of them is being sent. -/
def joined (rs : List OutRecord) (s : State) : State :=
  if s.lineB.sending.isSome then { s with records := s.records ++ rs }
  else match rs with
    | [] => s
    | r :: rest => { s with
        records := s.records ++ rest
        lineB := { s.lineB with sending := some (sentRecord r), passedOver := 0 } }

/-- R180, R181, record empty: the fault fills the record, sets its flag, and one FAULT_CAPTURED record is
offered to a record queue with room. -/
def faultFilled (k : FaultKind) (subject : Nat) (d : FaultDetail) (s : State) : State :=
  { joined [.alarm (builtNow (.faultCaptured k subject) s)] s with
    fault := { s.fault with
      record := some { kind := k, subject := subject, detail := d, time := s.localTime }
      summary := s.fault.summary.set k.index.val true } }

/-- A counter raised by `n`, saturating at 65,535 (R184). -/
def raised (k n : Nat) : Nat := min 65535 (k + n)

/-- R124: one more verdict or alarm dropped. -/
def recordDropCounted (d : OutRecord) (s : State) : State :=
  match d with
  | .verdict _ =>
    { s with counters := { s.counters with verdictDrops := raised s.counters.verdictDrops 1 } }
  | .alarm _ => { s with counters := { s.counters with alarmDrops := raised s.counters.alarmDrops 1 } }

/-- R124: the subject and the detail of RECORD_DROPPED: the channel and the sequence number of the record
dropped, 255 and absent for a TRACKER_STATE or FAULT_CAPTURED record. -/
def dropSubject : OutRecord → Nat × FaultDetail
  | .verdict v => (v.channel.val, .number v.seq)
  | .alarm { cause := .binAlert c seq _ _, .. } => (c.val, .number seq)
  | .alarm { cause := .binClear c seq _ _, .. } => (c.val, .number seq)
  | .alarm { cause := .interferenceAlert c seq _, .. } => (c.val, .number seq)
  | .alarm { cause := .interferenceClear c seq _, .. } => (c.val, .number seq)
  | .alarm { cause := .signature c seq _, .. } => (c.val, .number seq)
  | .alarm { cause := .trackerState _ _ _, .. } => (255, .absent)
  | .alarm { cause := .faultCaptured _ _, .. } => (255, .absent)

/-- R126, R180: the fault fills the empty record at a full record queue: its FAULT_CAPTURED record meets the
queue, which is `q` after it, and `d` is dropped and noted. -/
def faultFilledAtFull (k : FaultKind) (subject : Nat) (detail : FaultDetail) (d : OutRecord)
    (q : List OutRecord) (s : State) : State :=
  faultNoted .recordDropped (recordDropCounted d { s with
    records := q
    fault := { s.fault with
      record := some { kind := k, subject := subject, detail := detail, time := s.localTime }
      summary := s.fault.summary.set k.index.val true } })

/-- R124, R126: records have been offered one after another to the record queue of a busy line B while the fault
record was held: each drop has been counted and noted. -/
def offeredWhileHeld (rs : List OutRecord) (s : State) : State :=
  rs.foldl (fun s r =>
    match enqueue s.records r with
    | (none, q) => { s with records := q }
    | (some d, q) => faultNoted .recordDropped (recordDropCounted d { s with records := q })) s

/-- Whether the fault record is empty and the record queue has room, with nothing that waits for an IDLE line B. -/
def RoomForAFault (s : State) : Prop :=
  s.fault.record = none ∧ s.records.length < 16 ∧ LineSettled .b s

/-- R126, R180, R181: a fault has been reported in `s`: it is noted where the fault record is held, and fills it
where it is empty, whatever its FAULT_CAPTURED record finds. -/
def faultTaken (k : FaultKind) (subject : Nat) (detail : FaultDetail) (s : State) : State :=
  if s.fault.record.isSome then faultNoted k s
  else if s.records.length < 16 then faultFilled k subject detail s
  else match enqueue s.records (.alarm (builtNow (.faultCaptured k subject) s)) with
    | (some d, q) => faultFilledAtFull k subject detail d q s
    | (none, _) => s

/-- Whether a fault reported in `s` is taken as `faultTaken` says: the record is held, or nothing waits for an
IDLE line B (R128). -/
def TakesFaults (s : State) : Prop := s.fault.record.isSome = true ∨ LineSettled .b s

/-- R113: the check results of a channel for the entries of its plan row, all CLEAR or absent. -/
def blankChecks (row : PlanRow) : ChannelChecks :=
  { bins := row.bins.map fun b =>
      { k := b.k, state := if b.cls = .watch then none else some .clear, lastRatio := none,
        lastClass := none }
    interferenceState := .clear, lastFigure := none, code := 0, summary := none }

/-- R51, R123, R128, R180, R181: where the record queue has room, tracker `i`, now as in `t`, has offered its
TRACKER_STATE record and no other record has been offered, but that a fault `k` reported with it has been noted,
or has filled an empty fault record with the tracker as subject and its frequency as detail and offered
FAULT_CAPTURED before or after. -/
def TrackerReported (i : Fin 2) (k : Option FaultKind) (s t : State) : Prop :=
  let now := t.trackers[i]
  let moved := OutRecord.alarm (builtNow (.trackerState i now.state now.freq) s)
  let offered : List OutRecord → Prop := fun rs =>
    t.records = (joined rs s).records ∧ t.lineB = (joined rs s).lineB
  LineSettled .b s → s.records.length + 2 ≤ 16 →
    t.counters.alarmDrops = s.counters.alarmDrops ∧ t.counters.verdictDrops = s.counters.verdictDrops
      ∧ match k with
        | none => offered [moved] ∧ t.fault = s.fault
        | some k =>
          let captured := OutRecord.alarm (builtNow (.faultCaptured k i.val) s)
          (s.fault.record.isSome = true → offered [moved] ∧ t.fault = (faultNoted k s).fault)
            ∧ (s.fault.record = none → (offered [moved, captured] ∨ offered [captured, moved])
                ∧ t.fault = (faultFilled k i.val (.number now.freq) s).fault)

/-- The record queue, line B, the fault unit and the counters stand as they stood. -/
def NothingReported (s t : State) : Prop :=
  t.records = s.records ∧ t.lineB = s.lineB ∧ t.fault = s.fault ∧ t.counters = s.counters

/-- R3: the forward-drop counter of the direction that starts at a line, raised by one. -/
def forwardDropCounted (l : Line) (k : Counters) : Counters :=
  match l with
  | .a => { k with forwardDropsAB := raised k.forwardDropsAB 1 }
  | .b => { k with forwardDropsBA := raised k.forwardDropsBA 1 }

/-- The other line. -/
def otherLine : Line → Line
  | .a => .b
  | .b => .a

/-- The event of a frame arriving on a line; only a sample frame on line A meets more than an order. -/
def arrival : Line → Frame → Meeting → Instr
  | .a => .lineAFrameArrival
  | .b => fun f meeting => .lineBFrameArrival f meeting.order

/-- The output side of a line replaced, and the coincidences of the step cleared. -/
def withOut (l : Line) (o : LineOut) (s : State) : State :=
  match l with
  | .a => { s with lineA := o, ties := [] }
  | .b => { s with lineB := o, ties := [] }

/-- R3, R128: a line's output side after a frame has joined its forward queue. -/
def forwarded (f : Frame) (o : LineOut) : LineOut :=
  if o.sending.isSome then { o with forward := o.forward ++ [f] }
  else { o with sending := some { frame := f, restart := false } }

/-- R3: the number of the line a frame came from, as a fault detail: 0 for A-to-B, 1 for B-to-A. -/
def lineDetail (l : Line) : FaultDetail := .number (if l = .a then 0 else 1)

/-- R1, R2, R3: a frame that arrived on line `l` has been offered in `u` to the other line: it waits or is sent,
or, at a full forward queue, is dropped, counted and reported. -/
def passedOn (l : Line) (f : Frame) (u : State) : State :=
  if (u.out (otherLine l)).forward.length < 32 then
    withOut (otherLine l) (forwarded f (u.out (otherLine l))) u
  else faultTaken .forwardDropped 255 (lineDetail l)
    { u with ties := [], counters := forwardDropCounted l u.counters }

/-- R1, R3, R128: the sample frame `f`, on line A in `s`, has been offered to the A-to-B forward queue, before
or after the whole of what the monitor did with it (log 5), and the state is `t`: it waits at the tail, or is
being sent where line B was IDLE, unless a record that the monitor's part offered, or the reply of a trigger
met, went first; at a full queue it is dropped, counted and reported. -/
def SampleForwarded (triggers : List MetTrigger) (f : Frame) (s t : State) : Prop :=
  let flag := FaultKind.forwardDropped.index
  t.counters.forwardDropsBA = s.counters.forwardDropsBA
    ∧ (s.lineB.sending.isSome = true →
      t.lineB.sending = s.lineB.sending ∧ t.lineB.passedOver = s.lineB.passedOver)
    ∧ (s.lineB.forward.length < 32 →
      t.counters.forwardDropsAB = s.counters.forwardDropsAB ∧ t.fault.summary[flag] = s.fault.summary[flag]
        ∧ (s.lineB.sending.isSome = true → t.lineB.forward = s.lineB.forward ++ [f])
        ∧ (s.lineB.sending = none →
          (t.lineB.forward = [] ∧ t.lineB.sending = some { frame := f, restart := false }
              ∧ t.lineB.passedOver = s.lineB.passedOver)
            ∨ (t.lineB.forward = [f] ∧ t.lineB.passedOver = 0
              ∧ ∃ x, t.lineB.sending = some x ∧ ((∃ v, x = sentRecord v) ∨ triggers ≠ []))))
    ∧ (32 ≤ s.lineB.forward.length →
      t.lineB.forward = s.lineB.forward
        ∧ t.counters.forwardDropsAB = raised s.counters.forwardDropsAB 1
        ∧ Reported .forwardDropped s t
        ∧ (s.fault.record = none → ∀ r, t.fault.record = some r → r.kind = .forwardDropped →
          r = { kind := .forwardDropped, subject := 255, detail := .number 0, time := s.localTime }))

/-- R147, log 10: how many of the four places are held: commands not yet answered, and replies not yet
chosen by their line. -/
def placesTaken (s : State) : Nat :=
  s.command.queue.length + s.lineA.replies.length + s.lineB.replies.length

/-- R146: one more malformed command. -/
def malformedCounted (u : State) : State :=
  { u with counters := { u.counters with malformedCommands := raised u.counters.malformedCommands 1 } }

/-- R147: a command has taken the last place of the queue. -/
def commandQueued (c : CommandFrame) (u : State) : State :=
  { u with command := { u.command with queue := u.command.queue ++ [c] } }

/-- R147: one more command dropped. -/
def commandDropCounted (u : State) : State :=
  { u with counters := { u.counters with commandDrops := raised u.counters.commandDrops 1 } }

/-- The working tables with one entry replaced. -/
def replaced (t : Tables) : EntryWrite → Tables
  | .general e => { t with general := e }
  | .source i e => { t with sources := t.sources.set i e }
  | .channel i e => { t with channels := t.channels.set i e }
  | .group i e => { t with groups := t.groups.set i e }
  | .tracker i e => { t with trackers := t.trackers.set i e }
  | .plan i e => { t with plans := t.plans.set i e }
  | .band i e => { t with bands := t.bands.set i e }
  | .signature i e => { t with signatures := t.signatures.set i e }

/-- The table and the index of the entry that a write names (12.3). -/
def entryPlace : EntryWrite → TableId × Nat
  | .general _ => (.general, 0)
  | .source i _ => (.sources, i.val)
  | .channel i _ => (.channels, i.val)
  | .group i _ => (.groups, i.val)
  | .tracker i _ => (.trackers, i.val)
  | .plan i _ => (.plans, i.val)
  | .band i _ => (.bands, i.val)
  | .signature i _ => (.signatures, i.val)

/-- Log 24: the place of a restored entry in the order of its effects: the entries of table `id` first, then
those of the other tables, in table order. -/
def restoreRank (id : TableId) (w : EntryWrite) : Nat :=
  let p := entryPlace w
  if p.1 = id then p.2 else 16 * (1 + p.1.num.val) + p.2

/-- R144: the capture unit after a RESTORE of GENERAL with these capture settings. -/
def captureRestored (new : CaptureSettings) (u : CaptureUnit) : CaptureUnit :=
  if (u.state = .armed ∨ u.state = .post)
      ∧ (u.settings.source ≠ new.source ∨ u.settings.preTrigger ≠ new.preTrigger) then
    { u with state := .off, buffer := [], header := none, missed := 0, settings := new }
  else { u with settings := new }

/-- R144, R170: a restored entry acts as a permitted write of its content; a restored GENERAL may take the
capture unit to OFF. -/
def restoredActs (w : EntryWrite) (s : State) : State :=
  match w with
  | .general e =>
    { s with tables := replaced s.tables (.general e), capture := captureRestored e.capture s.capture }
  | w => applyWrite w s

/-- One tracker replaced. -/
def withTracker (t : Fin 2) (tr : Tracker) (s : State) : State :=
  { s with trackers := s.trackers.set t tr }

/-- A frequency limited to 47,000..53,000 mHz (R44). -/
def limited (f : Nat) : Nat := max 47000 (min 53000 f)

/-- R44: whether a frequency lies outside 47,000..53,000 mHz. -/
def outside (f : Nat) : Bool := decide (f < 47000) || decide (53000 < f)

/-- R39: a measurer back in SEEKING; an IDLE one receives nothing. The numbers of a span that is no longer
open are 0 (log 12). -/
def sought (m : Measurer) : Measurer :=
  if m.state = .idle then m
  else { m with state := .seeking, armed := false, prev := none, index := 0, startStamp := 0,
                crossings := 0, peak := 0 }

/-- R42, R43: a measurer whose source is lost or disabled. -/
def lostSource (m : Measurer) : Measurer := { sought m with last := none, run := 0, usable := false }

/-- R37: a measurer whose reference channel is changed. -/
def rereferenced (new : Option (Fin 16)) : Measurer :=
  { freshMeasurer with state := if new.isSome then .seeking else .idle }

/-- A tracker with both its measurers replaced. -/
def withMeasurers (m : Role → Measurer) (tr : Tracker) : Tracker :=
  { tr with primary := m .primary, secondary := m .secondary }

/-- R45, R46: a tracker once measurers have become unusable (`failed`), the measurers themselves as they
are then: one that followed such a measurer follows a usable secondary, or is in HOLD. -/
def afterFailure (failed : Role → Bool) (holdTime : Nat) (tr : Tracker) : Tracker :=
  let held : Tracker := { tr with state := .hold, hold := some holdTime }
  if tr.state = .followPrimary ∧ failed .primary = true then
    match tr.secondary.usable, tr.secondary.last with
    | true, some m => { tr with state := .followSecondary, freq := limited m.freq
                                atLimit := outside m.freq, hold := none }
    | _, _ => held
  else if tr.state = .followSecondary ∧ failed .secondary = true then held
  else tr

/-- R44, R45, R46, R48: a tracker once a measurer has completed a valid measurement of frequency `f`, the
second one in a row or a later one where `q`. -/
def steered (r : Role) (f : Nat) (q : Bool) (tr : Tracker) : Tracker :=
  let own : Role → TrackerState := fun r =>
    match r with
    | .primary => .followPrimary
    | .secondary => .followSecondary
  if tr.state = own r then { tr with freq := limited f, atLimit := outside f }
  else if q = true ∧ (tr.state = .hold ∨ tr.state = .free
      ∨ (tr.state = .followSecondary ∧ r = .primary)) then
    { tr with state := own r, freq := limited f, atLimit := outside f, hold := none }
  else tr

/-- R38, R45, R46, R48: a tracker once one of its measurers has taken a sample set; `slot` is the slot each
measurer reads in it. -/
def trackerTakes (e : TrackerEntry) (slot : Role → Option (Fin 8)) (tr : Tracker)
    (x : Role × SampleSet) : Tracker :=
  match slot x.1 with
  | none => tr
  | some slot =>
    let result := (tr.measurer x.1).takes e.floor (x.2.slot? slot)
    let new := tr.setMeasurer x.1 result.1
    match result.2 with
    | .nothing => new
    | .valid f q => steered x.1 f q new
    | .unusable => afterFailure (fun r => decide (r = x.1)) e.holdTime new

/-- R45, R46: the fault such a failure reports. -/
def failureFault (failed : Role → Bool) (tr : Tracker) : Option FaultKind :=
  if tr.state = .followPrimary ∧ failed .primary = true then
    some (if tr.secondary.usable = true ∧ tr.secondary.last.isSome = true then .referenceSwitch
      else .trackerHold)
  else if tr.state = .followSecondary ∧ failed .secondary = true then some .trackerHold
  else none

/-- R50: a tracker after a requested mode and fixed frequency have been written. -/
def modeRequested (mode : RequestedMode) (f holdTime : Nat) (tr : Tracker) : Tracker :=
  match mode with
  | .fixed => { tr with state := .fixed, freq := f, atLimit := false, hold := none }
  | .auto => if tr.state = .fixed then { tr with state := .hold, hold := some holdTime } else tr

/-- R66: every window of the channels that `p` names ended and counted: their contexts FREE, a copy of
one that waits for the table memory discarded. -/
def windowsEnded (p : Fin 16 → Bool) (s : State) : State :=
  let copies : Fin 16 → Nat := fun c =>
    match s.engine with
    | .waiting c' (some _) => if c' = c then 1 else 0
    | _ => 0
  { s with
    channels := Vector.ofFn fun c =>
      if p c then { s.channels[c] with ctx0 := .free, ctx1 := .free } else s.channels[c]
    engine := match s.engine with
      | .waiting c (some w) => .waiting c (if p c then none else some w)
      | e => e
    counters := { s.counters with
      channels := Vector.ofFn fun c =>
        if p c then { s.counters.channels[c] with
          abandoned := raised s.counters.channels[c].abandoned (s.channels[c].held + copies c) }
        else s.counters.channels[c] } }

/-- R136, R141: the ring emptied, or a capture in POST ended truncated. -/
def runBroken (u : CaptureUnit) : CaptureUnit :=
  match u.state with
  | .armed => { u with buffer := [] }
  | .post => { u with
      state := .held
      header := u.header.map fun h => { h with total := some u.buffer.length, truncated := true } }
  | _ => u

/-- R136, R141, log 22: the capture unit after a write of SOURCES entry `i`. -/
def sourceRewritten (i : Fin 8) (old new : SourceEntry) (u : CaptureUnit) : CaptureUnit :=
  if (u.state = .armed ∨ u.state = .post) ∧ u.source = i then
    let v := if (old.enabled = true ∧ new.enabled = false) ∨ old.sourceId ≠ new.sourceId
        ∨ old.channelCount ≠ new.channelCount then runBroken u else u
    if v.state = .armed then { v with perSet := new.channelCount } else v
  else u

/-- R19, R42, R43, R45, R46, R66, R67, R136, R141: source `src` has become LOST: it has joined the lost-source
set and SOURCE_LOST has been reported; both measurers that read it have nothing left and seek, before their
tracker acts (log 23); the windows of its active channels have ended and are counted; a capture in POST is
truncated, the ring of an ARMED unit emptied. -/
def LossTaken (src : Fin 8) (s t : State) : Prop :=
  let reads : Fin 2 → Role → Bool := fun i r => (s.referenceSlot i r src).isSome
  let failed : Fin 2 → Role → Bool := fun i r => reads i r && (s.trackers[i].measurer r).usable
  let lost : Fin 2 → Tracker := fun i => withMeasurers (fun r =>
    if reads i r then lostSource (s.trackers[i].measurer r) else s.trackers[i].measurer r) s.trackers[i]
  t.lostSources = s.lostSources.set src true ∧ Reported .sourceLost s t
    ∧ t.trackers = Vector.ofFn (fun i => afterFailure (failed i) s.tables.trackers[i].holdTime (lost i))
    ∧ (∀ i k, failureFault (failed i) (lost i) = some k → t.fault.summary[k.index] = true)
    ∧ t.capture = (if (s.capture.state = .armed ∨ s.capture.state = .post) ∧ s.capture.source = src
        then runBroken s.capture else s.capture)
    ∧ (∀ c : Fin 16,
        if s.active c = true ∧ s.tables.channels[c].source = src then
          t.channels[c] = { s.channels[c] with ctx0 := .free, ctx1 := .free }
            ∧ t.counters.channels[c] = { s.counters.channels[c] with
              abandoned := raised s.counters.channels[c].abandoned s.channels[c].held }
        else t.channels[c] = s.channels[c] ∧ t.counters.channels[c] = s.counters.channels[c])
    ∧ t.engine = s.engine

/-- R6, R16, R17: the four sample sets of a taken frame of source `src`. -/
def frameSets (src : Fin 8) (m : List Byte) (s : State) : List SampleSet :=
  let e := s.tables.sources[src]
  let p := sampleSecond m * 3200 + sampleCounter m / 4
  [0, 1, 2, 3].map fun j =>
    { stamp := { second := p / 3200, counter := 4 * (p % 3200) + j }, test := sampleTest m
      values := (List.range e.channelCount).map fun i =>
        if sampleBad m i then
          { value := if e.fill = .zero then 0 else s.sources[src].lastValues.toList.getD i 0
            filled := true }
        else { value := clampValue (sampleValue m j i), filled := false } }

/-- R76: the rotation point after a grant. -/
def rotatedPast (s : State) (c : Fin 16) : Fin 16 :=
  match s.tables.general.arbiterMode with
  | .fixed => s.rotation
  | .rotating => if c = 15 then 0 else c + 1

/-- R6, R13: the sample sets synthesised for the `n` blocks from position `q` on. -/
def gapSets (src : Fin 8) (m : List Byte) (q n : Nat) (s : State) : List SampleSet :=
  let e := s.tables.sources[src]
  (List.range n).flatMap fun i => [0, 1, 2, 3].map fun j =>
    { stamp := { second := (q + i) / 3200, counter := 4 * ((q + i) % 3200) + j }, test := sampleTest m
      values := (s.sources[src].lastValues.toList.take e.channelCount).map fun last =>
        { value := if e.fill = .zero then 0 else last, filled := true } }

/-- R55, R57, R58, R60, R63, R64: a channel unit, and the numbers of the windows missed, after it has taken a
series of sample sets, each with the tracker of its group as it stands at that set. -/
def unitTakes (slot : Fin 8) (u : ChannelUnit) (sets : List (Tracker × SampleSet)) :
    ChannelUnit × List Nat :=
  sets.foldl (fun x set =>
    match set.2.slot? slot with
    | some v =>
      let after := (x.1.openIfNone (x.1.opened set.1 set.2.stamp)).advance v set.2.test
      (after.unit, x.2 ++ after.missed.toList)
    | none => x) (u, [])

/-- Whether channel `c` is active and reads source `src` (R18, R24). -/
def ReadsSource (src : Fin 8) (s : State) (c : Fin 16) : Prop :=
  s.active c = true ∧ s.tables.channels[c].source = src

/-- Whether no window of channel `c` closes within the next `n` sample sets. -/
def StaysOpen (n : Nat) (s : State) (c : Fin 16) : Prop :=
  ∀ w, s.channels[c].ctx0 = .filling w ∨ s.channels[c].ctx1 = .filling w → w.count + n < w.len

/-- Whether channel `c`, with the window `w` alone, closes it on one of the sample sets, which all hold a value
of its slot. -/
def ClosesWithin (sets : List SampleSet) (s : State) (c : Fin 16) (w : Window) : Prop :=
  (s.channels[c].ctx0 = .filling w ∧ s.channels[c].ctx1 = .free
      ∨ s.channels[c].ctx0 = .free ∧ s.channels[c].ctx1 = .filling w)
    ∧ w.count < w.len ∧ w.len ≤ w.count + sets.length
    ∧ ∀ ss ∈ sets, (ss.slot? s.tables.channels[c].slot).isSome = true

/-- R18: the sample sets of a taken frame, after its start notice where it has one, have reached the trackers.
Each measurer that reads the source has taken all of them in their order, in any order with the other of its
tracker (`order`), but that on a set on which both qualify the primary's comes first (R48, log 5). -/
def TrackersTook (src : Fin 8) (started : Bool) (sets : List SampleSet) (s t : State)
    (order : Fin 2 → List (Role × SampleSet)) (after : Fin 2 → List (Role × SampleSet) → Tracker) :
    Prop :=
  let slot : Fin 2 → Role → Option (Fin 8) := fun i r => s.referenceSlot i r src
  let begun : Fin 2 → Tracker := fun i => withMeasurers (fun r =>
    if started = true ∧ (slot i r).isSome = true then sought (s.trackers[i].measurer r)
    else s.trackers[i].measurer r) s.trackers[i]
  let qualifies : Fin 2 → Role → Nat → SampleSet → Prop := fun i r n ss =>
    ∃ p f, slot i r = some p ∧ ((((sets.take n).foldl (fun m x =>
      (m.takes s.tables.trackers[i].floor (x.slot? p)).1) ((begun i).measurer r)).takes
        s.tables.trackers[i].floor (ss.slot? p)).2 = .valid f true)
  ∀ i : Fin 2,
    (∀ l, after i l = l.foldl (trackerTakes s.tables.trackers[i] (slot i)) (begun i))
      ∧ (∀ r, ((order i).filter fun x => decide (x.1 = r)).map Prod.snd =
        if (slot i r).isSome then sets else [])
      ∧ (∀ n ss pre rest, sets[n]? = some ss → qualifies i .primary n ss → qualifies i .secondary n ss →
        order i = pre ++ (.secondary, ss) :: rest → (.primary, ss) ∈ pre)
      ∧ t.trackers[i] = after i (order i)

/-- R11, R12, R13, R18, R21: the sample sets of a taken frame that does not realign its source, after its start
notice where it has one, have reached every consumer, and nothing else has moved but what reports. The capture
unit takes them in ARMED and POST on this source (R136, R139), the measurers and trackers as `TrackersTook`
says. In ANALYSING every active channel of the source takes them one by one, each with its tracker as it stands
at some point of `order`; a window missed is counted and reported (R64). Where no window closes, or the engine
is not IDLE, that is all; where the engine is IDLE, no window waits and some close, the engine takes the one
that closes first in the order of the delivery, which is any of them (R75, R77, R79, log 5). -/
def SetsTaken (src : Fin 8) (started : Bool) (sets : List SampleSet) (s t : State) : Prop :=
  ∃ order after, TrackersTook src started sets s t order after
    ∧ t.capture = (if (s.capture.state = .armed ∨ s.capture.state = .post) ∧ s.capture.source = src
        then sets.foldl CaptureUnit.takeSet s.capture else s.capture)
    ∧ (s.opState ≠ .analysing → t.channels = s.channels ∧ t.counters.channels = s.counters.channels
        ∧ t.engine = s.engine ∧ t.rotation = s.rotation ∧ t.memOwner = s.memOwner)
    ∧ (s.opState = .analysing → ∃ trackers : Fin 16 → List Tracker,
      let taken : Fin 16 → ChannelUnit → Nat → ChannelUnit × List Nat := fun c u n =>
        unitTakes s.tables.channels[c].slot u (((trackers c).zip sets).drop n)
      let plain : Fin 16 → Prop := fun c =>
        let result := taken c s.channels[c] 0
        if s.active c = true ∧ s.tables.channels[c].source = src then
          t.channels[c] = result.1
            ∧ t.counters.channels[c] = { s.counters.channels[c] with
              missed := if result.2 = [] then s.counters.channels[c].missed
                else raised s.counters.channels[c].missed result.2.length }
        else t.channels[c] = s.channels[c] ∧ t.counters.channels[c] = s.counters.channels[c]
      let inRange := sets.length < 2415
        ∧ ∀ i : Fin 2, 47000 ≤ s.trackers[i].freq ∧ s.trackers[i].freq ≤ 53000
      (∀ c, (trackers c).length = sets.length
          ∧ ∀ x ∈ trackers c, ∃ pre, pre <+: order (s.groupOf c).tracker
            ∧ x = after (s.groupOf c).tracker pre)
        ∧ (s.engine ≠ .idle ∨ (inRange ∧ ∀ c, ReadsSource src s c → StaysOpen sets.length s c) →
          (∀ c, plain c) ∧ t.engine = s.engine ∧ t.rotation = s.rotation ∧ t.memOwner = s.memOwner
            ∧ ∀ c, ReadsSource src s c → ∀ seq, (taken c s.channels[c] 0).2 = [seq] →
              t.fault.summary[FaultKind.windowMissed.index] = true
                ∧ ((∀ i, order i = []) → (∀ x, x ≠ c → ReadsSource src s x →
                    (taken x s.channels[x] 0).2 = []) →
                  s.fault.record = none → s.lineB.forward.length < 32 →
                  t.fault.record = some { kind := .windowMissed, subject := c.val
                                          detail := .number seq, time := s.localTime }))
        ∧ (s.engine = .idle → inRange → (∀ x : Fin 16, s.channels[x].requests = false) →
          (∀ x, ReadsSource src s x → StaysOpen sets.length s x ∨ ∃ w, ClosesWithin sets s x w) →
          (∃ x w, ReadsSource src s x ∧ ClosesWithin sets s x w) →
          ∃ c w, ReadsSource src s c ∧ ClosesWithin sets s c w ∧
            let n := w.len - w.count
            let full := (sets.take n).foldl (fun w ss =>
              match ss.slot? s.tables.channels[c].slot with
              | some v => w.add v ss.test
              | none => w) w
            t.engine = (if s.memOwner = .free then .evaluating c full else .waiting c (some full))
              ∧ t.memOwner = (if s.memOwner = .free then .engine else s.memOwner)
              ∧ t.rotation = rotatedPast s c
              ∧ t.channels[c] = (taken c { s.channels[c] with ctx0 := .free, ctx1 := .free } n).1
              ∧ t.counters.channels[c] = s.counters.channels[c] ∧ ∀ x, x ≠ c → plain x))
    ∧ t.tables = s.tables ∧ t.opState = s.opState ∧ t.command = s.command ∧ t.store = s.store
    ∧ t.protection = s.protection ∧ t.lostSources = s.lostSources ∧ t.checks = s.checks
    ∧ t.lineA = s.lineA ∧ t.localTime = s.localTime

/-- R15, R18, R39, R57, R66, R67: the realign notice of source `src` and the sets of its frame have reached the
trackers and the channel units. A measurer that reads the source seeks anew and takes the sets; no tracker
acts. The windows of every active channel that reads it have ended and are counted, and in ANALYSING a new
one has taken the sets. -/
def RealignTaken (src : Fin 8) (sets : List SampleSet) (stamp : Stamp) (s t : State) : Prop :=
  t.trackers = Vector.ofFn (fun i => withMeasurers (fun r =>
      match s.referenceSlot i r src with
      | some slot => sets.foldl (fun m ss => (m.takes s.tables.trackers[i].floor (ss.slot? slot)).1)
          (sought (s.trackers[i].measurer r))
      | none => s.trackers[i].measurer r) s.trackers[i])
    ∧ (∀ c : Fin 16,
      let u := s.channels[c]
      let k := s.counters.channels[c]
      let slot := s.tables.channels[c].slot
      let taken := sets.foldl (fun w ss =>
        match ss.slot? slot with
        | some v => w.add v ss.test
        | none => w) (u.opened (s.trackerOf c) stamp)
      if s.active c = true ∧ s.tables.channels[c].source = src then
        t.counters.channels[c] = { k with abandoned := raised k.abandoned u.held }
          ∧ (s.opState ≠ .analysing → t.channels[c] = { u with ctx0 := .free, ctx1 := .free })
          ∧ (s.opState = .analysing → slot.val < s.tables.sources[src].channelCount →
            t.channels[c] = { u with
              ctx0 := .filling taken, ctx1 := .free, seqNext := (u.seqNext + 1) % 65536 })
      else t.channels[c] = u ∧ t.counters.channels[c] = k)
    ∧ t.engine = s.engine ∧ t.rotation = s.rotation ∧ t.memOwner = s.memOwner

/-- R138: the capture unit after a trigger in ARMED. -/
def captureFired (cause : CaptureCause) (time : BitVec 32) (u : CaptureUnit) : CaptureUnit :=
  let pre := min u.settings.preTrigger u.buffer.length
  { u with
    state := .post, buffer := u.buffer.drop (u.buffer.length - pre), missed := 0
    header := some {
      source := u.source, perSet := u.perSet, cause := cause
      stamp := u.buffer.getLast?.map SampleSet.stamp, time := time, preActual := pre, total := none
      truncated := false } }

/-- R138, R140: the capture unit after a trigger. -/
def captureTriggered (cause : CaptureCause) (time : BitVec 32) (u : CaptureUnit) : CaptureUnit :=
  match u.state with
  | .off => u
  | .armed => captureFired cause time u
  | _ => { u with missed := min 255 (u.missed + 1) }

/-- R137: whether an alert entry is of one of the trigger classes. -/
def isTriggerClass (t : TriggerClasses) (e : AlertEntry) : Bool :=
  match e.cls with
  | .characteristic => t.characteristic
  | .noncharacteristic => t.noncharacteristic
  | .interference => t.interference

/-- R137: the trigger that the alert entries of a completion on channel `c` make, if they make one: its cause
is the first entry of a trigger class, where the channel reads the capture source of the settings copy. -/
def alertTrigger (c : Fin 16) (seq : Nat) (entries : List AlertEntry) (s : State) : Option CaptureCause :=
  if s.tables.channels[c].source = s.capture.settings.source then
    (entries.find? (isTriggerClass s.capture.settings.classes)).map fun e => .alert c e.k e.cls seq
  else none

/-- 6.5, R110: what the change of a check state raises: an alert that begins, or one that ends. -/
def alertCause (begins ends : Cause) (before after : CheckState) : Option Cause :=
  match before, after with
  | .clear, .alert => some begins
  | .rising _, .alert => some begins
  | .alert, .clear => some ends
  | .falling _, .clear => some ends
  | _, _ => none

/-- The check state that check results hold for a bin, none for a WATCH bin. -/
def stateOf (ch : ChannelChecks) (k : Nat) : Option CheckState :=
  (ch.bins.find? fun b => b.k == k).bind BinCheck.state

/-- R111: the alert entry that a cause gives: one for the beginning of an alert that is not a WATCH bin's. -/
def entryOf : Cause → Option AlertEntry
  | .binAlert _ _ k .characteristic => some { k := some k, cls := .characteristic }
  | .binAlert _ _ k .noncharacteristic => some { k := some k, cls := .noncharacteristic }
  | .interferenceAlert _ _ _ => some { k := none, cls := .interference }
  | _ => none

/-! ### The bytes of result lists (R187, R189) -/

/-- R187: a number in so many bytes, most significant first. -/
def bytesOf : Nat → Nat → List Byte
  | 0, _ => []
  | n + 1, v => BitVec.ofNat 8 (v / 256 ^ n) :: bytesOf n v

/-- A yes/no byte (log 19). -/
def yes (b : Bool) : Byte := if b then 0x01#8 else 0x00#8

/-- R189: an item that may be absent: a presence byte and `n` bytes, 0 where it is absent. -/
def optional (n : Nat) : Option (List Byte) → List Byte
  | some item => 0x01#8 :: item
  | none => List.replicate (n + 1) 0x00#8

/-- R189: a set of eight indices, one byte with bit i set for index i. -/
def setBits (v : Vector Bool 8) : Byte :=
  BitVec.ofNat 8 ((List.finRange 8).map fun i => if v[i] then 2 ^ i.val else 0).sum

/-- R167, R189: the progress of the store unit, by its position in R167's list, with its table, FFh for
PROTECTION (log 14). -/
def progressBytes (s : State) : List Byte :=
  let of : Option TableId → List Byte := fun t =>
    [0x01#8, match t with
      | some t => BitVec.ofNat 8 t.num.val
      | none => 0xFF#8]
  match s.store.op with
  | .storing image => 0x00#8 :: of (some image.table)
  | .restoring t => 0x01#8 :: of (some t)
  | .storingProtection => [0x02#8, 0x00#8, 0x00#8]
  | .idle =>
    match s.store.outcome with
    | .doneOk t _ => 0x03#8 :: of t
    | .failed t => 0x04#8 :: of t
    | .none => [0x05#8, 0x00#8, 0x00#8]

/-- R180, R182, R189: the fault record or empty, the summary flag of each kind in the order of its code, and the
more-faults count (log 15, log 19). -/
def faultBytes (f : FaultUnit) : List Byte :=
  let detail : FaultDetail → List Byte := fun d =>
    match d with
    | .absent => optional 8 none
    | .number n => optional 8 (some (bytesOf 8 n))
    | .position second counter =>
      optional 8 (some (bytesOf 4 second ++ bytesOf 2 counter ++ [0x00#8, 0x00#8]))
  optional 15 (f.record.map fun r =>
      bytesOf 1 (r.kind.index.val + 1) ++ bytesOf 1 r.subject ++ detail r.detail
        ++ bytesOf 4 r.time.toNat)
    ++ f.summary.toList.map yes ++ bytesOf 2 f.more

/-- R134, R142, R189: the capture header, or absent (log 17, log 19). -/
def headerBytes (h : Option CaptureHeader) : List Byte :=
  let cause : CaptureCause → List Byte := fun c =>
    match c with
    | .command tag => 0x00#8 :: (bytesOf 2 tag ++ List.replicate 6 0x00#8)
    | .alert c k cls seq => [0x01#8, 0x00#8, 0x00#8] ++ bytesOf 1 c.val ++ bytesOf 2 (k.getD 0)
      ++ [match cls with
        | .characteristic => 0x01#8
        | .noncharacteristic => 0x02#8
        | .interference => 0x04#8] ++ bytesOf 2 seq
  optional 27 (h.map fun h =>
    bytesOf 1 h.source.val ++ bytesOf 1 h.perSet ++ cause h.cause
      ++ optional 6 (h.stamp.map fun p => bytesOf 4 p.second ++ bytesOf 2 p.counter)
      ++ bytesOf 4 h.time.toNat ++ bytesOf 2 h.preActual ++ bytesOf 2 (h.total.getD 0)
      ++ [yes h.truncated])

/-- 12.1: the code of a tracker state. -/
def trackerStateCode : TrackerState → Nat
  | .followPrimary => 0
  | .followSecondary => 1
  | .hold => 2
  | .free => 3
  | .fixed => 4

/-- 12.1: the code of a resolved class. -/
def resolvedCode : ResolvedClass → Nat
  | .characteristic => 1
  | .noncharacteristic => 2
  | .watch => 3

/-- 12.1: a check state and its count. -/
def stateBytes : CheckState → List Byte
  | .clear => [0x00#8, 0x00#8]
  | .rising n => 0x01#8 :: bytesOf 1 n
  | .alert => [0x02#8, 0x00#8]
  | .falling n => 0x03#8 :: bytesOf 1 n

/-- R54, R189: a tracker and its two measurers (log 19). -/
def trackerBytes (t : Tracker) : List Byte :=
  let measurer : Measurer → List Byte := fun m =>
    (match m.state with
      | .idle => 0x00#8
      | .seeking => 0x01#8
      | .counting => 0x02#8)
    :: optional 5 (m.last.map fun x => bytesOf 4 x.freq ++ [yes x.valid]) ++ [yes m.usable]
  bytesOf 1 (trackerStateCode t.state) ++ bytesOf 4 t.freq ++ [yes t.atLimit]
    ++ measurer t.primary ++ measurer t.secondary

/-- R22, R54, R145, R159, R166: the result list of READ STATUS: operating state and local time; maintenance line
(log 18) and freeze flag; progress and the validity marks of the images, 00h for valid (log 19); the state of
each source, the lost-source set, the last-gap source; the trackers; capture state, sets held, missed
triggers (log 15) and header; the fault unit. -/
def statusBytes (s : State) : List Byte :=
  (match s.opState with
    | .loading => 0x00#8
    | .configuring => 0x01#8
    | .analysing => 0x02#8)
  :: bytesOf 4 s.localTime.toNat ++ [yes s.maintenanceClosed, yes s.protection.freeze]
    ++ progressBytes s ++ s.store.valid.toList.map (fun valid => yes (!valid))
    ++ s.sources.toList.map (fun r =>
      match r.state with
      | .off => 0x00#8
      | .await => 0x01#8
      | .running => 0x02#8
      | .lost => 0x03#8)
    ++ [setBits s.lostSources,
      match s.lastGap with
      | some i => BitVec.ofNat 8 i.val
      | none => 0xFF#8]
    ++ trackerBytes s.trackers[0] ++ trackerBytes s.trackers[1]
    ++ (match s.capture.state with
      | .off => 0x00#8
      | .armed => 0x01#8
      | .post => 0x02#8
      | .held => 0x03#8)
    :: bytesOf 2 s.capture.buffer.length ++ bytesOf 2 s.capture.missed ++ headerBytes s.capture.header
    ++ faultBytes s.fault

/-- R167: the result list of QUERY PROGRESS: progress; entries repaired, of an outcome DONE_OK of a RESTORE;
the protection in force, as WRITE PROTECTION carries it; runtime locks, freeze flag and maintenance line
(log 15, log 18, log 19). -/
def queryBytes (s : State) : List Byte :=
  let p := s.inForce
  let repaired : Option Nat :=
    match s.store.op, s.store.outcome with
    | .idle, .doneOk _ n => n
    | _, _ => none
  progressBytes s ++ optional 2 (repaired.map (bytesOf 2))
    ++ [if p.mode = .keyed then 0x01#8 else 0x00#8, setBits p.locks]
    ++ bytesOf 1 p.first.val ++ bytesOf 1 p.last.val ++ [yes p.complement, yes p.lockDefault]
    ++ s.protection.runtime.toList.map yes ++ [yes s.protection.freeze, yes s.maintenanceClosed]

/-- R112: the result list of READ CHECKS: the kind; the last evaluation's summary; for each entry of the plan row
its k, limit, class as written, last resolved class, check state with its count, and last ratio; on a
DC_CURRENT channel the interference check and its last figure; the condition code (log 16). -/
def checkBytes (c : Fin 16) (s : State) : List Byte :=
  let ch := s.checks[c]
  let kind := s.tables.channels[c].kind
  let state : Option CheckState → List Byte := fun st =>
    match st with
    | some st => stateBytes st
    | none => [0x04#8, 0x00#8]
  let bin : PlanBin → BinCheck → List Byte := fun b x =>
    bytesOf 2 b.k ++ bytesOf 2 b.limit
      ++ [match b.cls with
        | .auto => 0x00#8
        | .characteristic => 0x01#8
        | .noncharacteristic => 0x02#8
        | .watch => 0x03#8]
      ++ optional 1 (x.lastClass.map fun cls => bytesOf 1 (resolvedCode cls)) ++ state x.state
      ++ optional 2 (x.lastRatio.map (bytesOf 2))
  [match kind with
    | .acVoltage => 0x00#8
    | .acCurrent => 0x01#8
    | .dcVoltage => 0x02#8
    | .dcCurrent => 0x03#8]
    ++ optional 5 (ch.summary.map fun e =>
      bytesOf 2 e.seq ++ [yes e.degraded, yes e.test, yes e.noReference])
    ++ (List.zipWith bin s.tables.plans[c].bins ch.bins).flatten
    ++ optional 7 (if kind = .dcCurrent then
        some (state (some ch.interferenceState) ++ optional 4 (ch.lastFigure.map (bytesOf 4)))
      else none)
    ++ bytesOf 1 ch.code

/-- 12.4, R119, R120, R191: a verdict record from offset 3 on. A field that is absent is 0. -/
def verdictBytes (v : VerdictRecord) : List Byte :=
  let bit : Bool → Nat → Nat := fun b i => if b then 2 ^ i else 0
  let flags := bit v.flags.degraded 0 + bit v.flags.test 1 + bit v.flags.noReference 2
    + bit v.flags.saturated 3 + bit v.flags.atLimit 4 + bit v.interference.isSome 5
    + bit (v.code != 0) 6
  let bin : BinResult → List Byte := fun b =>
    bytesOf 2 b.k ++ bytesOf 4 b.magnitude ++ bytesOf 2 (b.ratio.getD 0) ++ bytesOf 1 (resolvedCode b.cls)
      ++ (match b.state with
        | some st => stateBytes st
        | none => [0x00#8, 0x00#8])
      ++ bytesOf 1 (bit b.ratio.isSome 0 + bit b.state.isSome 1)
  bytesOf 2 v.station ++ bytesOf 1 v.channel.val ++ bytesOf 1 v.group.val ++ bytesOf 2 v.seq
    ++ bytesOf 4 v.stamp.second ++ bytesOf 2 v.stamp.counter ++ bytesOf 2 v.len ++ bytesOf 4 v.freq
    ++ bytesOf 1 (trackerStateCode v.trackerState) ++ bytesOf 1 flags ++ bytesOf 2 v.filled
    ++ bytesOf 4 (BitVec.ofInt 32 v.mean).toNat ++ bytesOf 4 v.a10 ++ bytesOf 4 v.ref ++ bytesOf 1 v.code
    ++ (match v.interference with
      | some (figure, st) => stateBytes st ++ bytesOf 3 figure
      | none => List.replicate 5 0x00#8)
    ++ bytesOf 1 v.bins.length ++ v.bins.flatMap bin

/-- 12.4, R121, R122, R191: an alarm record from offset 3 on, the fields of its cause present and the others
0: channel, cause, presence; sequence, bin, class; code or state, tracker; figure or frequency; fault
subject. -/
def alarmBytes (a : AlarmRecord) : List Byte :=
  let lay : Nat → Nat → Nat → Nat → Nat → Nat → Nat → Nat → Nat → Nat → List Byte :=
    fun channel cause presence seq k cls code tracker figure subject =>
      bytesOf 1 channel ++ bytesOf 1 cause ++ bytesOf 1 presence ++ bytesOf 2 seq ++ bytesOf 2 k
        ++ bytesOf 1 cls ++ bytesOf 1 code ++ bytesOf 1 tracker ++ bytesOf 4 figure ++ bytesOf 1 subject
  bytesOf 2 a.station
    ++ (match a.cause with
      | .binAlert c seq k cls => lay c.val 1 3 seq k (resolvedCode cls) 2 0 0 0
      | .binClear c seq k cls => lay c.val 2 3 seq k (resolvedCode cls) 0 0 0 0
      | .interferenceAlert c seq figure => lay c.val 3 5 seq 0 0 2 0 figure 0
      | .interferenceClear c seq figure => lay c.val 4 5 seq 0 0 0 0 figure 0
      | .signature c seq code => lay c.val 5 1 seq 0 0 code 0 0 0
      | .trackerState i st freq => lay 255 6 8 0 0 0 (trackerStateCode st) i.val freq 0
      | .faultCaptured kind subject => lay 255 7 16 0 0 0 (kind.index.val + 1) 0 0 subject)
    ++ bytesOf 4 a.localTime.toNat

/-! ### The arbiter, classes and locks -/

/-- R76: the place of a channel in the close arbiter's order. -/
def placeInOrder (s : State) (c : Fin 16) : Nat :=
  match s.tables.general.arbiterMode with
  | .fixed => c.val
  | .rotating => (c.val + 16 - s.rotation.val) % 16

/-- R75, R76: the channel the close arbiter serves: the first that requests, in its order. -/
def ServedNext (s : State) (c : Fin 16) : Prop :=
  s.channels[c].requests = true
    ∧ ∀ x : Fin 16, s.channels[x].requests = true → placeInOrder s c ≤ placeInOrder s x

/-- R65, R77: the copy `w` taken of a channel's PENDING context, which becomes FREE in `u`. -/
def CopyTaken (before : ChannelUnit) (w : Window) (u : ChannelUnit) : Prop :=
  (before.ctx0 = .pending w ∧ u = { before with ctx0 := .free })
    ∨ (before.ctx0.isPending = false ∧ before.ctx1 = .pending w ∧ u = { before with ctx1 := .free })

/-- R32, R33: the class an evaluation uses for a plan entry. -/
def resolvedAs (kind : Kind) (pulse : Nat) (b : PlanBin) : ResolvedClass :=
  match b.cls with
  | .characteristic => .characteristic
  | .noncharacteristic => .noncharacteristic
  | .watch => .watch
  | .auto =>
    if kind = .dcVoltage ∨ kind = .dcCurrent then
      if 10 * pulse ∣ b.k then .characteristic else .noncharacteristic
    else if 10 ∣ b.k ∧ (b.k / 10 % pulse = 1 ∨ b.k / 10 % pulse = pulse - 1) then .characteristic
    else .noncharacteristic

/-- R174, log 21: whether a guard range covers one of the groups 0 to 3. -/
def Guards (p : Protection) (g : Nat) : Prop :=
  g < 4 ∧ (p.complement = false ↔ (p.first.val ≤ g ∧ g ≤ p.last.val))

/-- The number of the table a write addresses (12.3). -/
def tableNumber : RawWrite → Fin 8
  | .general _ => 0
  | .source _ _ => 1
  | .channel _ _ => 2
  | .group _ _ => 3
  | .tracker _ _ => 4
  | .plan _ _ => 5
  | .band _ _ => 6
  | .signature _ _ => 7

/-- R173, R174: a write lies under a runtime lock, a stored lock or the guard range. -/
def Forbidden (s : State) (w : RawWrite) : Prop :=
  s.protection.runtime[tableNumber w] = true ∨ s.inForce.locks[tableNumber w] = true
    ∨ match w with
      | .group g _ => Guards s.inForce g.val
      | .channel c r => Guards s.inForce s.tables.channels[c].group.val ∨ Guards s.inForce r.group
      | .plan c _ => Guards s.inForce s.tables.channels[c].group.val
      | _ => False

/-- R7, R23, R27, R36, R95, R103, R107, R133, R164: the content of a write that is refused BAD_PARAM. -/
def BadContent (s : State) : RawWrite → Prop
  | .general r => r.station = 65535 ∨ 1 < r.arbiter ∨ 7 < r.source ∨ 7 < r.classes
  | .source i r => r.sourceId < 1 ∨ 65534 < r.sourceId ∨ r.channelCount < 1 ∨ 8 < r.channelCount
    ∨ 1 < r.fill
    ∨ (r.enabled = true ∧ ∃ j, j ≠ i ∧ s.tables.sources[j].enabled = true
        ∧ s.tables.sources[j].sourceId = r.sourceId)
    ∨ ∃ c : Fin 16, s.tables.channels[c].enabled = true ∧ s.tables.channels[c].source = i
        ∧ r.channelCount ≤ s.tables.channels[c].slot.val
  | .channel c r => 7 < r.source ∨ 7 < r.slot ∨ 3 < r.group ∨ 3 < r.kind
    ∨ (r.enabled = true ∧ ∃ x : Fin 8, x.val = r.source ∧ s.tables.sources[x].channelCount ≤ r.slot)
    ∨ (r.kind ≠ 0 ∧ ∃ i : Fin 2, s.tables.trackers[i].primary = some c
        ∨ s.tables.trackers[i].secondary = some c)
    ∨ (r.kind < 2 ∧ ∃ b ∈ s.tables.plans[c].bins, b.k = 10)
  | .group _ r => (r.pulse ≠ 6 ∧ r.pulse ≠ 12 ∧ r.pulse ≠ 24) ∨ 1 < r.tracker
  | .tracker _ r =>
    let bad : Nat → Prop := fun x => (15 < x ∧ x ≠ 255)
      ∨ ∃ c : Fin 16, c.val = x ∧ s.tables.channels[c].kind ≠ .acVoltage
    bad r.primary ∨ bad r.secondary ∨ (r.primary = 255 ∧ r.secondary ≠ 255)
      ∨ (r.secondary ≠ 255 ∧ r.secondary = r.primary) ∨ 1 < r.mode
      ∨ r.fixedFrequency < 47000 ∨ 53000 < r.fixedFrequency
  | .plan c r => 24 < r.bins.length ∨ (∃ b ∈ r.bins, b.k < 1 ∨ 1200 < b.k ∨ 3 < b.cls)
    ∨ ¬ (r.bins.map RawPlanBin.k).Pairwise (· < ·) ∨ 2 < r.verdictMode
    ∨ ((∃ b ∈ r.bins, b.k = 10) ∧ (s.tables.channels[c].kind = .acVoltage
        ∨ s.tables.channels[c].kind = .acCurrent))
  | .band _ r => r.low < 1 ∨ 6400 < r.low ∨ r.high < 1 ∨ 6400 < r.high ∨ r.high < r.low
  | .signature _ r => 3 < r.kind ∨ r.bins.length < 1 ∨ 6 < r.bins.length
    ∨ (∃ k ∈ r.bins, k < 1 ∨ 1200 < k) ∨ ¬ r.bins.Nodup ∨ r.code = 0

/-- R133: a GENERAL write that would change the capture source or the pre-trigger count, as clamped (log 33), of
a unit in ARMED or POST. -/
def HeldByCapture (s : State) : RawWrite → Prop
  | .general r => (s.capture.state = .armed ∨ s.capture.state = .post)
    ∧ (r.source ≠ s.tables.general.capture.source.val
      ∨ min 4095 r.preTrigger ≠ s.tables.general.capture.preTrigger)
  | _ => False

/-- R7, R27, R36, R95, R103, R133: whether a value of the content lies outside the range it is clamped into. -/
def IsClamped : RawWrite → Prop
  | .general r => 4095 < r.preTrigger
  | .source _ r => r.gapLimit < 1 ∨ 16 < r.gapLimit ∨ r.silenceTimeout < 1 ∨ 100 < r.silenceTimeout
  | .channel _ _ => False
  | .group _ r => 16777215 < r.dcFloor ∨ 16777215 < r.acFloor ∨ 2723 < r.fillLimit
    ∨ 16777215 < r.interferenceLimit ∨ 16777215 < r.interferenceHysteresis
  | .tracker _ r => 8388608 < r.floor ∨ r.holdTime < 1 ∨ 600 < r.holdTime
  | .plan _ r => r.raiseCount < 1 ∨ 15 < r.raiseCount ∨ r.clearCount < 1 ∨ 15 < r.clearCount
  | .band _ r => 1000 < r.weight
  | .signature _ _ => False

/-- 12.1: the channel kind of a code. -/
def kindNamed (n : Nat) : Kind :=
  if n = 0 then .acVoltage else if n = 1 then .acCurrent else if n = 2 then .dcVoltage else .dcCurrent

/-- 12.1: the bin class of a code. -/
def classNamed (n : Nat) : BinClass :=
  if n = 0 then .auto else if n = 1 then .characteristic else if n = 2 then .noncharacteristic else .watch

/-- R7, R23, R27, R36, R95, R103, R107, R133, R164, 12.5: the entry that content which is not refused is kept as,
each value in its range. A signature's bins are kept in ascending order (log 35). -/
def keptEntry : RawWrite → EntryWrite
  | .general r => .general {
      station := r.station, streamType := r.streamType, autoStart := r.autoStart
      arbiterMode := if r.arbiter = 0 then .fixed else .rotating
      capture := {
        source := Fin.ofNat 8 r.source, preTrigger := min 4095 r.preTrigger, autoRearm := r.autoRearm
        classes := {
          characteristic := decide (r.classes % 2 = 1), noncharacteristic := decide (r.classes / 2 % 2 = 1)
          interference := decide (r.classes / 4 % 2 = 1) } } }
  | .source i r => .source i {
      enabled := r.enabled, sourceId := r.sourceId, channelCount := r.channelCount
      fill := if r.fill = 0 then .repeatLast else .zero
      gapLimit := max 1 (min 16 r.gapLimit), silenceTimeout := max 1 (min 100 r.silenceTimeout) }
  | .channel c r => .channel c {
      enabled := r.enabled, source := Fin.ofNat 8 r.source, slot := Fin.ofNat 8 r.slot
      kind := kindNamed r.kind, group := Fin.ofNat 4 r.group }
  | .group g r => .group g {
      enabled := r.enabled, pulse := r.pulse, tracker := Fin.ofNat 2 r.tracker
      dcFloor := min 16777215 r.dcFloor, acFloor := min 16777215 r.acFloor
      fillLimit := min 2723 r.fillLimit, interferenceLimit := min 16777215 r.interferenceLimit
      interferenceHysteresis := min 16777215 r.interferenceHysteresis }
  | .tracker i r =>
    let reference : Nat → Option (Fin 16) := fun x => if x = 255 then none else some (Fin.ofNat 16 x)
    .tracker i {
      primary := reference r.primary, secondary := reference r.secondary, floor := min 8388608 r.floor
      holdTime := max 1 (min 600 r.holdTime), mode := if r.mode = 0 then .auto else .fixed
      fixedFrequency := r.fixedFrequency }
  | .plan c r => .plan c {
      hysteresis := r.hysteresis, raiseCount := max 1 (min 15 r.raiseCount)
      clearCount := max 1 (min 15 r.clearCount)
      verdictMode := if r.verdictMode = 0 then .all else if r.verdictMode = 1 then .changes else .silent
      bins := r.bins.map fun b => { k := b.k, limit := b.limit, cls := classNamed b.cls } }
  | .band b r => .band b {
      enabled := r.enabled, low := r.low, high := r.high, weight := min 1000 r.weight }
  | .signature i r => .signature i {
      enabled := r.enabled, kind := kindNamed r.kind, bins := r.bins.insertionSort (· ≤ ·), code := r.code }

/-- Whether a command's only test before it requests the memory is of a place that exists: WRITE ENTRY,
READ CHECKS or SET TRACKER with such a place. -/
def AsksAtOnce (c : CommandFrame) : Prop :=
  let p := commandParams c.bytes
  (commandCode c.bytes = some 0x11 ∧ (parseWrite p).isSome = true)
    ∨ (commandCode c.bytes = some 0x12 ∧ ((parseByte p).bind (index? 16)).isSome = true)
    ∨ (commandCode c.bytes = some 0x13 ∧ ((parseSetTracker p).bind fun x => index? 2 x.1).isSome = true)

end Sys2Proof.Claims

open Sys2Proof Sys2Proof.Machine Sys2Proof.Claims

/-! ### The block as a whole -/

/-- Every command `c` at the front of the queue is executed on the state with the queue's rest; with an
empty queue the block idles. The queue, and that a step executes its front and idles without one, are
the model's choice (log 1). -/
def Obligations.StepRunsTheFront : Prop :=
  (∀ (c : Instr) (rest : List Instr) (s : State),
      s.pending = c :: rest → step s = exec c { s with pending := rest })
    ∧ ∀ s : State, s.pending = [] → step s = .next s

/-- No run from any state ends in a fault or a refusal, and no command changes the queue of the commands
that wait behind it. That an event which cannot occur now leaves the state as it is, that operations are
total where no run comes, and that a module without supply does nothing, are the model's choices (log 2,
log 27, log 25), and so is the queue (log 1). -/
def Obligations.EveryRunGoesOn : Prop :=
  (∀ s : State, Safe s)
    ∧ ∀ (i : Instr) (s t : State), exec i s = .next t → t.pending = s.pending

/-! ### Invariants that every step keeps -/

/-- R3, R123, R127, R128, R129, R147: the depths of the queues and the passed-over counts; and nothing
waits for a line while its transmitter is IDLE. -/
def Obligations.QueuesStayBounded : Prop :=
  ∀ s t : State, QueuesBounded s → LinesSettled s → step s = .next t →
    QueuesBounded t ∧ LinesSettled t

/-- R9, R53, R73, R79, R94, R134, R151, R152, R157: what LOADING holds back. The measurers' own fields
between a restart and the completion of the load are the model's choice (log 12). -/
def Obligations.LoadingStaysQuiet : Prop :=
  ∀ s t : State, LoadingQuiet s → step s = .next t → LoadingQuiet t

/-- R7, R23, R27, R36, R95, R103, R107, R164, R171: tables, images and buffer keep to their rules. -/
def Obligations.TablesStayLegal : Prop :=
  ∀ s t : State, TablesLegal s → step s = .next t → TablesLegal t

/-- R8, R9, R16, R17, R19: the runtime records of the sources. -/
def Obligations.SourcesStayLegal : Prop :=
  ∀ s t : State, LoadingQuiet s → SourcesLegal s → step s = .next t → SourcesLegal t

/-- R38, R42, R43: the measurers. -/
def Obligations.MeasurersStayLegal : Prop :=
  ∀ s t : State, LoadingQuiet s → MeasurersLegal s → step s = .next t → MeasurersLegal t

/-- R44 to R50: the trackers. -/
def Obligations.TrackersStayLegal : Prop :=
  ∀ s t : State, LoadingQuiet s → TablesLegal s → TrackersLegal s → step s = .next t →
    TrackersLegal t

/-- R24, R25, R55, R57, R59, R64, R66: which channels hold windows, and how many. -/
def Obligations.ContextsStayLegal : Prop :=
  ∀ s t : State, LoadingQuiet s → ContextsLegal s → step s = .next t → ContextsLegal t

/-- R52, R55, R57, R60, R62, R63: the content of windows. -/
def Obligations.WindowsStayLegal : Prop :=
  ∀ s t : State, SourcesLegal s → TrackersLegal s → ContextsLegal s → WindowsLegal s →
    step s = .next t → WindowsLegal t

/-- R56, R69, R84: bin lists and snapshots agree with the working PLANS rows. That a copy waiting at a PLANS
write in CONFIGURING keeps no old snapshot, since the write discards it there too, is the model's reading (log
29, where R69 and R71 read otherwise). -/
def Obligations.SnapshotsStayCurrent : Prop :=
  ∀ s t : State, LoadingQuiet s → MemoryLegal s → SnapshotsCurrent s → step s = .next t →
    SnapshotsCurrent t

/-- R75, R77, R79, R80, R82: the ownership of the table memory. -/
def Obligations.MemoryStaysLegal : Prop :=
  ∀ s t : State, LoadingQuiet s → MemoryLegal s → step s = .next t → MemoryLegal t

/-- R96, R97, R98: the check results. -/
def Obligations.ChecksStayLegal : Prop :=
  ∀ s t : State, TablesLegal s → ChecksLegal s → step s = .next t → ChecksLegal t

/-- R133 to R144: the capture unit. -/
def Obligations.CaptureStaysLegal : Prop :=
  ∀ s t : State, LoadingQuiet s → TablesLegal s → CaptureLegal s → step s = .next t → CaptureLegal t

/-- R166, R177: the two copies of the protection record. -/
def Obligations.ProtectionStaysLegal : Prop :=
  ∀ s t : State, ProtectionLegal s → step s = .next t → ProtectionLegal t

/-- R180, R184: the fault unit and the counters. -/
def Obligations.FaultsAndCountersStayLegal : Prop :=
  ∀ s t : State, FaultUnitLegal s → CountersLegal s → step s = .next t →
    FaultUnitLegal t ∧ CountersLegal t

/-- Every invariant holds right after reset. What the reset state holds where the manual states no
reset value is the model's choice (log 11, 12, 13). -/
def Obligations.InvariantsHoldAtReset : Prop :=
  QueuesBounded State.reset ∧ LinesSettled State.reset ∧ LoadingQuiet State.reset
    ∧ TablesLegal State.reset ∧ SourcesLegal State.reset ∧ MeasurersLegal State.reset
    ∧ TrackersLegal State.reset ∧ ContextsLegal State.reset ∧ WindowsLegal State.reset
    ∧ SnapshotsCurrent State.reset ∧ MemoryLegal State.reset ∧ ChecksLegal State.reset
    ∧ CaptureLegal State.reset ∧ ProtectionLegal State.reset ∧ FaultUnitLegal State.reset
    ∧ CountersLegal State.reset

/-! ### The arithmetic of windows and evaluations -/

/-- R61: every entry of the phase tables is 32,767 times the cosine or sine of its phase rounded to the
nearest whole number, never from halfway, and lies in −32,767..32,767; the entries R61 lists. -/
def Obligations.PhaseTablesAreNearest : Prop :=
  (∀ p : Nat, p < 4096 →
      |(cosTable p : ℝ) - 32767 * Real.cos (2 * Real.pi * p / 4096)| < 1 / 2
        ∧ |(sinTable p : ℝ) - 32767 * Real.sin (2 * Real.pi * p / 4096)| < 1 / 2
        ∧ (cosTable p).natAbs ≤ 32767 ∧ (sinTable p).natAbs ≤ 32767)
    ∧ [0, 512, 1024, 2048, 3072].map cosTable = [32767, 23170, 0, -32767, 0]
    ∧ [0, 512, 1024, 2048, 3072].map sinTable = [0, 23170, 32767, 0, -32767]

/-- R86: the integer square root is the largest whole number whose square does not exceed its argument,
and the magnitude is 2R over D = 32,767 × N rounded half up, 0 where both sums are 0; a window's
magnitude of a bin is formed from the pair of sums it holds for that bin. -/
def Obligations.MagnitudeFromSums : Prop :=
  (∀ n : Nat, isqrt n * isqrt n ≤ n ∧ n < (isqrt n + 1) * (isqrt n + 1))
    ∧ (∀ (c s : Int) (len : Nat), 0 < len →
      ∃ r : Nat, (r * r : Int) ≤ c * c + s * s ∧ c * c + s * s < ((r + 1) * (r + 1) : Int)
        ∧ rawMagnitude c s len = (2 * r + 32767 * len / 2) / (32767 * len)
        ∧ (c = 0 → s = 0 → rawMagnitude c s len = 0))
    ∧ (isqrt 25 = 5 ∧ isqrt 8 = 2 ∧ isqrt 0 = 0)
    ∧ ∀ (w : Window) (b : BinSum), b ∈ w.sums → (w.sums.map BinSum.k).Nodup →
      w.rawMagnitude b.k = rawMagnitude b.cosSum b.sinSum w.len

/-- R85, R87, R88, R89, R90: the mean is the plain sum over N to the nearest count, halves away from zero,
with the sign of the sum, in the range of a count when every value is. An evaluation's reference is by kind;
it is NO_REFERENCE where the reference is 0 or below the floor; the ratio of a bin is absent then, else
10,000 A over Ref rounded half up, limited to 65,535. A magnitude is limited to 16,777,215, and the verdict
is marked saturated where a magnitude of the evaluation, bin 10 included, exceeded that. -/
def Obligations.MeanReferenceAndRatio : Prop :=
  (∀ (plain : Int) (len : Nat), 2415 ≤ len →
      windowMean plain len = plain.sign * (((plain.natAbs + len / 2) / len : Nat) : Int)
        ∧ (2 * (windowMean plain len * len - plain)).natAbs ≤ len
        ∧ windowMean (-plain) len = -windowMean plain len
        ∧ (-8388608 * (len : Int) ≤ plain → plain ≤ 8388607 * len →
            -8388608 ≤ windowMean plain len ∧ windowMean plain len ≤ 8388607))
    ∧ (∀ (x : EvalInput) (k : Nat),
      x.ref = (if x.entry.kind = .dcVoltage ∨ x.entry.kind = .dcCurrent then x.mean.natAbs else x.a10)
        ∧ (x.noRef = true ↔ x.ref = 0 ∨
            (if x.entry.kind = .dcVoltage ∨ x.entry.kind = .dcCurrent then x.ref < x.group.dcFloor
             else x.ref < x.group.acFloor))
        ∧ (x.noRef = true → x.ratio k = none)
        ∧ (x.noRef = false → ∃ q : Nat, x.ratio k = some (min 65535 q)
            ∧ 2 * (q * x.ref) ≤ 20000 * x.window.magnitude k + x.ref
            ∧ 20000 * x.window.magnitude k + x.ref < 2 * ((q + 1) * x.ref))
        ∧ x.window.magnitude k = min 16777215 (x.window.rawMagnitude k))
    ∧ ∀ (x : EvalInput) (station : Nat) (streamType : BitVec 16),
      (x.verdict station streamType).flags.saturated = true ↔
        ∃ k, (k = 10 ∨ k ∈ x.window.snapshot) ∧ 16777215 < x.window.rawMagnitude k

/-- R52: N is 128,000,000 over f rounded half up, and lies in 2,415..2,723 for every frequency a tracker
can have. -/
def Obligations.WindowLengthInRange : Prop :=
  ∀ f : Nat, 47000 ≤ f → f ≤ 53000 →
    2415 ≤ windowLength f ∧ windowLength f ≤ 2723
      ∧ 2 * (windowLength f * f) ≤ 256000000 + f ∧ 256000000 + f < 2 * ((windowLength f + 1) * f)

/-- R17: a 32-bit field that is the sign extension of its 24-bit part is taken as that part; any other is
clamped by the sign of the field. -/
def Obligations.ReceivedValuesAreClamped : Prop :=
  ∀ v : BitVec 32,
    if v = (v.setWidth 24).signExtend 32 then
      clampValue v.toInt = (v.setWidth 24).toInt ∧ isClamped v.toInt = false
    else
      clampValue v.toInt = (if v.msb then -8388608 else 8388607) ∧ isClamped v.toInt = true

/-- R98: from CLEAR, a check is in alert only after the raise count of consecutive exceeding windows, and
that many bring it there; from ALERT, it is CLEAR only after the clear count of consecutive windows
below, and that many bring it there. -/
def Obligations.AlertsNeedConsecutiveWindows : Prop :=
  ∀ (l h nr nc : Nat), 1 ≤ nr → nr ≤ 15 → 1 ≤ nc → nc ≤ 15 →
    let after : CheckState → List Nat → CheckState :=
      List.foldl fun st r => checkStep st r l h nr nc
    (∀ rs : List Nat, (after .clear rs).inAlert = true →
        ∃ pre run post, rs = pre ++ run ++ post ∧ run.length = nr ∧ ∀ r ∈ run, l < r)
      ∧ (∀ run : List Nat, run.length = nr → (∀ r ∈ run, l < r) → after .clear run = .alert)
      ∧ (∀ rs : List Nat, (after .alert rs).inAlert = false →
          ∃ pre run post, rs = pre ++ run ++ post ∧ run.length = nc ∧ ∀ r ∈ run, r + h ≤ l)
      ∧ (∀ run : List Nat, run.length = nc → (∀ r ∈ run, r + h ≤ l) → after .alert run = .clear)

/-- R108: at an evaluation that is not held the condition code is the code of the first enabled entry, in
index order, of the channel's kind whose every bin is a bin of the plan, checked and in ALERT, and 0
where there is none. It is the code written into the check results. -/
def Obligations.FirstSignatureGivesTheCode : Prop :=
  (∀ x : EvalInput, x.checksAfter.code = x.codeAfter)
    ∧ (∀ x : EvalInput, x.held = false → x.codeAfter =
      matchCode x.signatures x.entry.kind (x.binResults.map fun b => (b.k, b.state)))
    ∧ (∀ (s : State) (c : Fin 16) (w : Window),
      (s.evalInput c w).signatures = (List.finRange 16).map fun i => s.tables.signatures[i])
    ∧ ∀ (sigs : List SignatureEntry) (kind : Kind) (states : List (Nat × Option CheckState)),
    let fits : SignatureEntry → Prop := fun e =>
      e.enabled = true ∧ e.kind = kind ∧ ∀ k ∈ e.bins, (k, some .alert) ∈ states
    ((∃ pre e post, sigs = pre ++ e :: post ∧ (∀ x ∈ pre, ¬ fits x) ∧ fits e
          ∧ matchCode sigs kind states = e.code)
      ∨ ((∀ x ∈ sigs, ¬ fits x) ∧ matchCode sigs kind states = 0))

/-- R104, R105: a bin's weight is the largest among the enabled bands it lies in on its exact frequency,
edges included, and the interference figure is the root of the sum of squares, scaled and limited; an
evaluation forms it from the magnitudes of its snapshot's bins, the frequency of its window and the bands. -/
def Obligations.InterferenceFigureFromBands : Prop :=
  (∀ (s : State) (c : Fin 16) (w : Window), (s.evalInput c w).figure =
      interferenceFigure ((List.finRange 8).map fun i => s.tables.bands[i]) w.freq
        (w.snapshot.map fun k => (k, w.magnitude k)))
    ∧ ∀ (bands : List BandEntry) (f : Nat),
    (∀ k w : Nat, bandWeight bands k f = some w ↔
        (∃ b ∈ bands, b.enabled = true ∧ b.low * 10000 ≤ k * f ∧ k * f ≤ b.high * 10000 ∧ b.weight = w)
          ∧ ∀ b ∈ bands, b.enabled = true → b.low * 10000 ≤ k * f → k * f ≤ b.high * 10000 →
            b.weight ≤ w)
      ∧ ∀ bins : List (Nat × Nat), ∃ j : Nat,
        let total := (bins.map fun b => match bandWeight bands b.1 f with
          | some w => (w * b.2) ^ 2
          | none => 0).sum
        j ^ 2 ≤ total ∧ total < (j + 1) ^ 2
          ∧ interferenceFigure bands f bins = min 16777215 ((j + 500) / 1000)

/-- R32, R72, R89, R98, R100, R101, R102, R106, R109, R110, R111: an evaluation is held where its window is
DEGRADED, TEST or NO_REFERENCE, and only there; a window is DEGRADED where its filled count is above the group's
fill limit in force or the mark was set at its opening. A held evaluation, in a state that keeps the invariants
of tables and checks, leaves every check state, the interference check state and the condition code as they
stood, and raises no cause, so that it hands no alert on. One that is not held, whose snapshot is of its plan
row, gives every entry of the row that is not WATCH the state that follows by R98's tables from the state
before, the ratio, and the entry's limit and the row's hysteresis and counts; on a DC_CURRENT channel it judges
the figure alike, and sets CLEAR with an interference limit of 0. Held or not, every entry of the row gets the
ratio formed, absent without a reference, and the class it resolved to, a DC_CURRENT channel the figure, and
the summary the window's number and conditions. The causes are, in this order: for each entry of the row in
ascending k, an alert of the bin that begins or ends, with k and resolved class; the interference figure's alert
that begins or ends, with the figure; the condition code, where it changes. The alert entries are those of the
alerts that begin, in the same order, and the alert change mark is set where there is a cause. -/
def Obligations.HeldEvaluationKeepsStates : Prop :=
  ∀ (s : State) (c : Fin 16) (w : Window),
    TablesLegal s → ChecksLegal s → s.opState ≠ .loading →
      let x := s.evalInput c w
      let row := s.tables.plans[c]
      let kind := s.tables.channels[c].kind
      let group := s.tables.groups[s.tables.channels[c].group]
      let before := s.checks[c]
      let after := x.checksAfter
      (x.degraded = true ↔ group.fillLimit < w.filled ∨ w.degradedAtOpen = true)
        ∧ (x.held = true ↔ x.degraded = true ∨ w.test = true ∨ x.noRef = true)
        ∧ after.summary = some {
          seq := w.seq, degraded := x.degraded, test := w.test, noReference := x.noRef }
        ∧ after.lastFigure = (if kind = .dcCurrent then some x.figure else before.lastFigure)
        ∧ (w.snapshot = row.bins.map PlanBin.k →
          after.bins.map BinCheck.k = row.bins.map PlanBin.k
            ∧ ∀ b ∈ row.bins, ∀ y ∈ after.bins, y.k = b.k →
              y.lastRatio = x.ratio b.k ∧ y.lastClass = some (resolvedAs kind group.pulse b))
        ∧ (x.held = true →
          after.bins.map BinCheck.state = before.bins.map BinCheck.state
            ∧ after.interferenceState = before.interferenceState ∧ after.code = before.code
            ∧ x.causes = [] ∧ x.alertEntries = [])
        ∧ (x.held = false → w.snapshot = row.bins.map PlanBin.k →
          (∀ b ∈ row.bins, ∀ y ∈ after.bins, y.k = b.k →
              ∃ r, x.ratio b.k = some r ∧ ∀ z ∈ before.bins, z.k = b.k →
                y.state = z.state.map fun st =>
                  checkStep st r b.limit row.hysteresis row.raiseCount row.clearCount)
            ∧ (kind = .dcCurrent → after.interferenceState =
                if group.interferenceLimit = 0 then .clear
                else checkStep before.interferenceState x.figure group.interferenceLimit
                  group.interferenceHysteresis row.raiseCount row.clearCount)
            ∧ (kind ≠ .dcCurrent → after.interferenceState = before.interferenceState)
            ∧ x.causes =
              row.bins.filterMap (fun b =>
                match stateOf before b.k, stateOf after b.k with
                | some u, some v =>
                  let cls := resolvedAs kind group.pulse b
                  alertCause (.binAlert c w.seq b.k cls) (.binClear c w.seq b.k cls) u v
                | _, _ => none)
              ++ (alertCause (.interferenceAlert c w.seq x.figure) (.interferenceClear c w.seq x.figure)
                before.interferenceState after.interferenceState).toList
              ++ (if after.code = before.code then [] else [.signature c w.seq after.code])
            ∧ (row.bins.map PlanBin.k).Pairwise (· < ·))
        ∧ x.alertEntries = x.causes.filterMap entryOf ∧ x.alertChange = !x.causes.isEmpty

/-! ### Records, faults and replies -/

/-- R123, R124, R126, R128, R180, R181: with room a record offered joins the tail of the record queue, and is
sent at once where line B is IDLE; a verdict that meets a full queue is dropped; an alarm record that meets
one displaces the verdict nearest the tail, or is dropped where the queue holds none. A fault that finds the
fault record empty fills it, sets its flag and offers one FAULT_CAPTURED alarm record; one that finds it held
sets its flag and raises the count. Each record dropped raises the drop counter of its kind and reports
RECORD_DROPPED with its channel as subject, or 255, and its sequence number as detail, or none. A
FAULT_CAPTURED record that meets the full queue displaces or is dropped alike, and that second drop is counted
and only noted, since the fault record is now held. That a drop is reported together with its offer is the
model's choice (log 5). -/
def Obligations.RecordsAndFaultsAreAdmitted : Prop :=
  (∀ (q : List OutRecord) (r : OutRecord),
      (q.length < 16 → enqueue q r = (none, q ++ [r]))
        ∧ (16 ≤ q.length → (∃ v, r = .verdict v) → enqueue q r = (some r, q))
        ∧ (16 ≤ q.length → (∃ a, r = .alarm a) →
          (∃ pre v post, q = pre ++ .verdict v :: post ∧ (∀ x ∈ post, ∃ a, x = .alarm a)
              ∧ enqueue q r = (some (.verdict v), pre ++ post ++ [r]))
            ∨ ((∀ x ∈ q, ∃ a, x = .alarm a) ∧ enqueue q r = (some r, q))))
    ∧ (∀ (k : FaultKind) (subject : Nat) (d : FaultDetail) (s : State),
      (s.fault.record.isSome = true → reportFault k subject d s = faultNoted k s)
        ∧ (RoomForAFault s → reportFault k subject d s = faultFilled k subject d s)
        ∧ (s.fault.record = none → 16 ≤ s.records.length → LineSettled .b s →
          ∀ dropped q, enqueue s.records (.alarm (builtNow (.faultCaptured k subject) s)) = (some dropped, q) →
            reportFault k subject d s = faultFilledAtFull k subject d dropped q s))
    ∧ ∀ (r : OutRecord) (s : State), LineSettled .b s →
      (s.records.length < 16 → offerRecord r s = joined [r] s)
        ∧ ∀ dropped q, enqueue s.records r = (some dropped, q) →
          let u := recordDropCounted dropped { s with records := q }
          let x := dropSubject dropped
          (s.fault.record.isSome = true → offerRecord r s = faultNoted .recordDropped u)
            ∧ (s.fault.record = none → 16 ≤ q.length ∧ ∃ second q',
              enqueue q (.alarm (builtNow (.faultCaptured .recordDropped x.1) s)) = (some second, q')
                ∧ offerRecord r s = faultFilledAtFull .recordDropped x.1 x.2 second q' u)

/-- R119, R120, R121, R122, R148, R187, R191, 12.3, 12.4: the bytes of a reply: kind 03h, the message length,
station number and tag, most significant byte first, command code, status and result list, padded with 00h to
46 bytes; it goes to the sender of the command, from the line's address, with the stream type in force. The
bytes of a record: kind 04h with 44 + 12 B bytes for a verdict with B bin results, kind 05h with 24 bytes for an
alarm, and the fields of `verdictBytes` and `alarmBytes` from offset 3 on, padded alike; it goes to the all-ones
address, from the address of line B, with the stream type it was built with. -/
def Obligations.ReplyLayout : Prop :=
  (∀ (s : State) (c : CommandFrame) (st : Status) (result : List Byte),
    let f := s.replyFrame c st result
    let n := 9 + result.length
    f.dest = c.src ∧ f.src = Config.lineAddress c.line ∧ f.ftype = s.streamType ∧ f.fcsAgrees = true
      ∧ f.payload =
        [0x03#8, BitVec.ofNat 8 (n / 256), BitVec.ofNat 8 n,
          BitVec.ofNat 8 (s.station / 256), BitVec.ofNat 8 s.station,
          c.bytes.getD 5 0, c.bytes.getD 6 0,
          if c.bytes.length < 8 then 0#8 else c.bytes.getD 7 0, BitVec.ofNat 8 st.code]
          ++ result ++ List.replicate (46 - n) 0#8
      ∧ f.payload.length = max 46 n)
    ∧ (∀ (v : OutRecord),
      (recordFrame v).dest = BitVec.allOnes 48 ∧ (recordFrame v).src = Config.lineAddress .b
        ∧ (recordFrame v).fcsAgrees = true)
    ∧ (∀ v : VerdictRecord,
      let n := 44 + 12 * v.bins.length
      (recordFrame (.verdict v)).ftype = v.streamType ∧ (verdictBytes v).length = n - 3
        ∧ (recordFrame (.verdict v)).payload =
          [0x04#8, BitVec.ofNat 8 (n / 256), BitVec.ofNat 8 n] ++ verdictBytes v
            ++ List.replicate (46 - n) 0x00#8)
    ∧ ∀ a : AlarmRecord,
      (recordFrame (.alarm a)).ftype = a.streamType ∧ (alarmBytes a).length = 21
        ∧ (recordFrame (.alarm a)).payload =
          [0x05#8, 0x00#8, 0x18#8] ++ alarmBytes a ++ List.replicate 22 0x00#8

/-! ### Frames and transmitters -/

/-- R1, R2, R3, R128, R146, R187: a frame whose check sequence disagrees is discarded. A frame of another
type, or of the stream type with a kind that is neither SAMPLES nor COMMAND, a command frame for another
station or too short to hold a target station, and on line B every sample frame, is passed on to the other
line and does nothing else; at a full forward queue it is dropped, counted and reported with subject 255 and the
direction as detail, whether the fault record is held or empty. A broadcast command
frame is passed on alike and given to the command unit as well: too short to hold a tag it is counted as
malformed, one that asks for IDENTIFY takes a place or is dropped, counted and reported, before or after it is
passed on (log 5), and any other is ignored. That a place is free once a line has chosen the reply is log 10. -/
def Obligations.ForeignFramesPassThrough : Prop :=
  ∀ (l : Line) (f : Frame) (ties : Meeting) (s : State), s.powered = true →
    let m := message f.payload
    (f.fcsAgrees = false → exec (arrival l f ties) s = .next s)
      ∧ (f.fcsAgrees = true → LinesSettled s →
        ((f.ftype ≠ s.streamType
            ∨ (f.payload.head? ≠ some 0x01#8 ∧ f.payload.head? ≠ some 0x02#8)
            ∨ (l = .b ∧ f.payload.head? = some 0x01#8)
            ∨ (f.payload.head? = some 0x02#8 ∧ commandTarget m ≠ some s.station
              ∧ commandTarget m ≠ some 65535)) →
          exec (arrival l f ties) s = .next (passedOn l f s))
        ∧ (f.ftype = s.streamType → f.payload.head? = some 0x02#8 → commandTarget m = some 65535 →
          s.station ≠ 65535 →
          (m.length < 7 → exec (arrival l f ties) s = .next (passedOn l f (malformedCounted s)))
            ∧ (7 ≤ m.length → commandCode m ≠ some 0x01 →
              exec (arrival l f ties) s = .next (passedOn l f s))
            ∧ (7 ≤ m.length → commandCode m = some 0x01 → placesTaken s < 4 →
              exec (arrival l f ties) s = .next (passedOn l f
                (commandQueued { line := l, src := f.src, bytes := m } s)))
            ∧ (7 ≤ m.length → commandCode m = some 0x01 → 4 ≤ placesTaken s →
              let dropped : State → State := fun u =>
                faultTaken .commandDropped 255 (lineDetail l) (commandDropCounted u)
              (exec (arrival l f ties) s = .next (passedOn l f (dropped s))
                  ∨ exec (arrival l f ties) s = .next (dropped (passedOn l f s)))
                ∧ (s.fault.record.isSome = true →
                  exec (arrival l f ties) s = .next (passedOn l f (dropped s)))
                ∧ (RoomForAFault s → s.lineB.sending.isSome = true →
                  (s.out (otherLine l)).forward.length < 32 →
                  exec (arrival l f ties) s = .next (passedOn l f (dropped s))))))

/-- R1, R2, R146, R147, R180: a command frame for this station goes to the command unit alone: too short to
hold a tag it is counted as malformed; else it takes a place while fewer than four are held, and is
dropped, counted and reported while four are. That a place is free once a line has chosen the reply is the
model's reading (log 10). -/
def Obligations.CommandsTakeAPlace : Prop :=
  ∀ (l : Line) (f : Frame) (ties : Meeting) (s : State),
    s.powered = true → f.fcsAgrees = true → f.ftype = s.streamType →
    f.payload.head? = some 0x02#8 → commandTarget (message f.payload) = some s.station →
      ((message f.payload).length < 7 →
          exec (arrival l f ties) s = .next { malformedCounted s with ties := [] })
        ∧ (7 ≤ (message f.payload).length → placesTaken s < 4 →
          exec (arrival l f ties) s = .next { commandQueued
            { line := l, src := f.src, bytes := message f.payload } s with ties := [] })
        ∧ (7 ≤ (message f.payload).length → 4 ≤ placesTaken s → TakesFaults s →
          exec (arrival l f ties) s = .next { faultTaken .commandDropped 255 (lineDetail l)
            (commandDropCounted s) with ties := [] })

/-- R1, R3, R5, R10 to R15, R17, R21, R22: what a sample frame on line A does, whatever order its coincidences
take: which frames are taken, the last block position, the silence timer, the last-gap source and the counters
of the source; every other source stays as it was. Taken, stale or malformed, it is offered to the A-to-B
forward queue, before or after the whole of what the monitor does (log 5), and dropped, counted and reported
where that is full (`SampleForwarded`). A malformed frame and a realign are reported, a realign before all
that it delivers, triggers it meets included (log 5). A frame taken in AWAIT, in LOST, in sequence or after a
gap reaches every consumer with its start notice, if it has one, the sets synthesised for the gap and its own
four sets (R13, R16, R18), as `SetsTaken` says; on a set on which both measurers of a tracker qualify the
primary comes first in every tracker state, FOLLOW SECONDARY included (log 5). A malformed or stale frame
reaches no consumer; with the silence timer's expiry of its instant taken first (R20), a stale frame is
counted after the whole of the loss. A realign reaches every consumer with its notice and then its four sets
(R39, R66, R67), the capture unit among them, which starts its ring anew or ends a capture in POST (R136,
R141); a trigger of the instant taken between notice and sets finds an empty ring, POST takes the sets, and
the triggers met after it are missed (R138, R140, R141). A frame that matches no enabled entry is counted as
foreign and passed on; in LOADING a sample frame is passed on and does nothing else. That a frame of effective
length 0 has the kind of its first byte, and so is a sample frame, which no entry matches, is log 9; that the
frame's operand says what falls in the midst of its event is log 41; the span numbers of a measurer that seeks
are log 12, and that both measurers lose a source before their tracker acts is log 23. -/
def Obligations.ContinuityRuling : Prop :=
  ∀ (f : Frame) (ties : Meeting) (s : State),
    s.powered = true → f.fcsAgrees = true → f.ftype = s.streamType → f.payload.head? = some 0x01#8 →
    let m := message f.payload
    let p := sampleSecond m * 3200 + sampleCounter m / 4
    (∀ (src : Fin 8) (id : Nat), s.opState ≠ .loading →
      let e := s.tables.sources[src]
      let r := s.sources[src]
      let k := s.counters.sources[src]
      let taken : SourceRecord :=
        { state := .running, lastPos := some p, lastValues := lastValuesAfter e r.lastValues m
          silence := some e.silenceTimeout }
      let clamped := raised k.clamped (clampedCount e m)
      let untouched : State → Prop := fun t =>
        t.trackers = s.trackers ∧ t.channels = s.channels ∧ t.capture = s.capture
          ∧ t.lastGap = s.lastGap ∧ t.engine = s.engine ∧ t.command = s.command
      let u := s.capture
      let sets := frameSets src m s
      let takesPart := (u.state = .armed ∨ u.state = .post) ∧ u.source = src
      sampleSourceId m = some id → s.sourceOfId id = some src →
        ∃ t, exec (.lineAFrameArrival f ties) s = .next t
          ∧ (∀ i, i ≠ src → t.sources[i] = s.sources[i] ∧ t.counters.sources[i] = s.counters.sources[i])
          ∧ (LineSettled .b s → SampleForwarded ties.triggers f s t)
          ∧ (sampleMalformed m e.channelCount = true →
              t.sources[src] = r
                ∧ t.counters.sources[src] = { k with malformed := raised k.malformed 1 }
                ∧ Reported .malformedFrame s t ∧ untouched t
                ∧ (s.fault.record = none → s.lineB.forward.length < 32 →
                  t.fault.record = some { kind := .malformedFrame, subject := src.val, time := s.localTime
                                          detail := .position (sampleSecond m) (sampleCounter m) }))
          ∧ (sampleMalformed m e.channelCount = false →
              ((r.state = .await ∨ r.state = .lost) →
                  t.sources[src] = taken ∧ t.counters.sources[src] = { k with clamped := clamped }
                    ∧ t.lastGap = s.lastGap ∧ SetsTaken src true sets s t)
                ∧ ∀ q, r.state = .running → r.lastPos = some q →
                  if p = q + 1 then
                    t.sources[src] = taken ∧ t.counters.sources[src] = { k with clamped := clamped }
                      ∧ t.lastGap = s.lastGap ∧ SetsTaken src false sets s t
                  else if p < q + 1 then
                    (ties.expiry = false → t.sources[src] = r ∧ untouched t
                      ∧ t.counters.sources[src] = { k with stale := raised k.stale 1 }
                      ∧ (LineSettled .b s → t = passedOn .a f { s with counters := { s.counters with
                        sources := s.counters.sources.set src { k with stale := raised k.stale 1 } } }))
                    ∧ (ties.expiry = true →
                      t.sources[src] = { r with state := .lost, silence := none } ∧ LossTaken src s t
                      ∧ t.counters.sources[src] =
                        { k with stale := raised k.stale 1, losses := raised k.losses 1 })
                  else if p ≤ q + 1 + e.gapLimit then
                    t.sources[src] = taken ∧ t.lastGap = some src
                      ∧ t.counters.sources[src] =
                        { k with gapBlocks := raised k.gapBlocks (p - (q + 1)), clamped := clamped }
                      ∧ SetsTaken src false (gapSets src m (q + 1) (p - (q + 1)) s ++ sets) s t
                  else
                    t.sources[src] = taken
                      ∧ t.counters.sources[src] =
                        { k with realigns := raised k.realigns 1, clamped := clamped }
                      ∧ Reported .sourceRealign s t
                      ∧ (s.fault.record = none → s.lineB.forward.length < 32 →
                        t.fault.record = some { kind := .sourceRealign, subject := src.val
                                                detail := .number p, time := s.localTime })
                      ∧ (ties.triggers = [] →
                        (∀ i : Fin 2, 47000 ≤ s.trackers[i].freq ∧ s.trackers[i].freq ≤ 53000) →
                        RealignTaken src sets { second := p / 3200, counter := 4 * (p % 3200) } s t
                          ∧ (¬ takesPart → t.capture = u)
                          ∧ (takesPart → t.capture =
                            if u.state = .armed then { u with buffer := sets } else runBroken u))
                      ∧ (∀ c rest, ties.triggers = .command :: rest → takesPart → u.state = .armed →
                        s.command.restart = .none → s.command.queue.head? = some c →
                        commandCode c.bytes = some 0x51 → commandParams c.bytes = [] →
                        (∃ n ≤ rest.length, t.capture = { captureFired (.command
                            (256 * (c.bytes.getD 5 0).toNat + (c.bytes.getD 6 0).toNat)) s.localTime
                            { u with buffer := [] } with buffer := sets, missed := n })
                          ∧ (rest = [] → t.command = { s.command with
                              queue := s.command.queue.tail, requested := false })
                          ∧ (rest = [] → (s.out c.line).sending.isSome = true →
                            (t.out c.line).replies = (s.out c.line).replies ++
                              [{ frame := s.replyFrame c .done [0x02#8, 0x00#8, 0x00#8]
                                 restart := false }]))
                      ∧ (∀ c w cause rest, ties.triggers = .evaluation :: rest → takesPart →
                        u.state = .armed → s.engine = .evaluating c w → s.opState = .analysing →
                        alertTrigger c w.seq (s.evalInput c w).alertEntries s = some cause →
                        ∃ n ≤ rest.length, t.capture = { captureFired cause s.localTime
                            { u with buffer := [] } with buffer := sets, missed := n })
                      ∧ (takesPart → u.state = .post → ∃ n ≤ u.missed + ties.triggers.length,
                        t.capture = { runBroken u with missed := n })))
      ∧ (LinesSettled s →
        (s.opState = .loading → exec (.lineAFrameArrival f ties) s = .next (passedOn .a f s))
          ∧ (s.opState ≠ .loading →
            (∀ (i : Fin 8) (id : Nat), sampleSourceId m = some id → s.tables.sources[i].enabled = true →
              s.tables.sources[i].sourceId ≠ id) →
            exec (.lineAFrameArrival f ties) s = .next (passedOn .a f { s with
              counters := { s.counters with
                foreignFrames := raised s.counters.foreignFrames 1 } })))

/-- R128, R129, R155: a transmitter that completes a frame sends the next: an inserted frame, the reply
before the record, when four forwarded frames have passed or none waits, else the oldest forwarded
frame, which raises the passed-over count while an inserted frame waits; with nothing waiting it is
IDLE. The completion of the reply to RESTART makes the command restart due, an event of its own in the
model (log 30). That the event of an IDLE transmitter changes nothing is the model's choice (log 2). -/
def Obligations.TransmitterChoice : Prop :=
  ∀ (l : Line) (s : State), s.powered = true →
    ((s.out l).sending = none → exec (.transmitComplete l) s = .next s)
      ∧ ∀ r, (s.out l).sending = some r →
        let o := s.out l
        let unit : CommandUnit :=
          if r.restart then { s.command with restart := .due } else s.command
        let turn := 4 ≤ o.passedOver ∨ o.forward = []
        let inserted := o.replies ≠ [] ∨ s.recordsFor l ≠ []
        let put : LineOut → State → State := fun o s =>
          match l with
          | .a => { s with lineA := o, command := unit }
          | .b => { s with lineB := o, command := unit }
        (∀ x xs, turn → o.replies = x :: xs →
            exec (.transmitComplete l) s =
              .next (put { o with replies := xs, sending := some x, passedOver := 0 } s))
          ∧ (∀ v vs, turn → o.replies = [] → l = .b → s.records = v :: vs →
            exec (.transmitComplete l) s =
              .next (put { o with sending := some (sentRecord v), passedOver := 0 }
                { s with records := vs }))
          ∧ (∀ x xs, inserted → o.passedOver < 4 → o.forward = x :: xs →
            exec (.transmitComplete l) s =
              .next (put { o with forward := xs, sending := some { frame := x, restart := false },
                                  passedOver := o.passedOver + 1 } s))
          ∧ (∀ x xs, ¬ inserted → o.forward = x :: xs →
            exec (.transmitComplete l) s =
              .next (put { o with forward := xs, sending := some { frame := x, restart := false } } s))
          ∧ (¬ inserted → o.forward = [] →
            exec (.transmitComplete l) s = .next (put { o with sending := none } s))

/-! ### Timers and evaluations -/

/-- R19, R42, R43, R45, R46, R51, R66, R67, R136, R141, R180: the silence timer of a RUNNING source expires: the
source is LOST and joins the lost-source set, its loss counter rises, SOURCE_LOST is reported, and every window
of every active channel that reads it ends and is counted; no other source or channel changes. The measurers
that read it have nothing left and seek; a tracker that followed one of them switches to a usable secondary or
is in HOLD, reports that after SOURCE_LOST and queues its TRACKER_STATE record. The capture unit's ring of the
source is emptied, a capture in POST ends truncated. That the event of a source that is not RUNNING, whose timer
does not run, changes nothing is the model's choice (log 2); that both measurers lose the source before their
tracker acts is log 23, and the span numbers of a measurer that seeks are log 12. -/
def Obligations.SilenceLosesASource : Prop :=
  ∀ (src : Fin 8) (ties : Ties) (s : State), s.powered = true →
    (s.sources[src].state ≠ .running → exec (.silenceTimeout src ties) s = .next s)
      ∧ (s.sources[src].state = .running →
        ∃ t, exec (.silenceTimeout src ties) s = .next t
          ∧ t.sources = s.sources.set src { s.sources[src] with state := .lost, silence := none }
          ∧ t.counters.sources = s.counters.sources.set src { s.counters.sources[src] with
              losses := raised s.counters.sources[src].losses 1 }
          ∧ LossTaken src s t
          ∧ t.fault.record = some (s.fault.record.getD
              { kind := .sourceLost, subject := src.val, time := s.localTime
                detail := match s.sources[src].lastPos with
                  | some q => .number q
                  | none => .absent })
          ∧ (LineSettled .b s → s.records.length + 3 ≤ 16 →
            let moved := (List.finRange 2).filter fun i => t.trackers[i].state != s.trackers[i].state
            ∃ l : List (Fin 2), l.Perm moved ∧
              let offered : List OutRecord :=
                (if s.fault.record.isSome then []
                  else [.alarm (builtNow (.faultCaptured .sourceLost src.val) s)])
                ++ l.map fun i =>
                  .alarm (builtNow (.trackerState i t.trackers[i].state t.trackers[i].freq) s)
              t.records = (joined offered s).records ∧ t.lineB = (joined offered s).lineB)
          ∧ t.tables = s.tables ∧ t.opState = s.opState
          ∧ t.command = s.command ∧ t.store = s.store ∧ t.lineA = s.lineA)

/-- R43, R44, R45, R46, R47, R51: the usability timer of a measurer expires: the measurer is unusable; if its
tracker follows it, the tracker switches to a usable secondary or enters HOLD, at its frequency, with the
hold timer started, and reports REFERENCE_SWITCH or TRACKER_HOLD; otherwise the tracker stays as it is.
The hold timer of a tracker in HOLD expires: the tracker is FREE at 50,000 mHz and reports TRACKER_FREE. Each
change of state queues one TRACKER_STATE record, with the new state and frequency.
That the event of a timer that does not run changes nothing is the model's choice (log 2). -/
def Obligations.TrackerTimersExpire : Prop :=
  (∀ (i : Fin 2) (r : Role) (ties : Ties) (s : State), s.powered = true →
      ((s.trackers[i].measurer r).usable = false →
          exec (.usabilityTimeout i r ties) s = .next s)
        ∧ ((s.trackers[i].measurer r).usable = true →
          let tr := s.trackers[i].setMeasurer r { s.trackers[i].measurer r with usable := false }
          let held : Tracker :=
            { tr with state := .hold, hold := some s.tables.trackers[i].holdTime }
          ∃ t, exec (.usabilityTimeout i r ties) s = .next t
            ∧ OnlyReports (withTracker i t.trackers[i] s) t
            ∧ (s.trackers[i].state = .followPrimary → r = .primary → tr.secondary.usable = false →
                t.trackers[i] = held ∧ Reported .trackerHold s t
                  ∧ TrackerReported i (some .trackerHold) s t)
            ∧ (∀ m, s.trackers[i].state = .followPrimary → r = .primary →
                tr.secondary.usable = true → tr.secondary.last = some m →
                t.trackers[i] = { tr with state := .followSecondary, freq := limited m.freq
                                          atLimit := outside m.freq, hold := none }
                  ∧ Reported .referenceSwitch s t ∧ TrackerReported i (some .referenceSwitch) s t)
            ∧ (s.trackers[i].state = .followSecondary → r = .secondary →
                t.trackers[i] = held ∧ Reported .trackerHold s t
                  ∧ TrackerReported i (some .trackerHold) s t)
            ∧ (¬ (s.trackers[i].state = .followPrimary ∧ r = .primary) →
                ¬ (s.trackers[i].state = .followSecondary ∧ r = .secondary) →
                t = { withTracker i tr s with ties := [] })))
    ∧ (∀ (i : Fin 2) (ties : Ties) (s : State), s.powered = true →
      (s.trackers[i].state ≠ .hold → exec (.holdTimeout i ties) s = .next s)
        ∧ (s.trackers[i].state = .hold →
          ∃ t, exec (.holdTimeout i ties) s = .next t
            ∧ t.trackers = s.trackers.set i { s.trackers[i] with
                state := .free, freq := 50000, atLimit := false, hold := none }
            ∧ Reported .trackerFree s t ∧ TrackerReported i (some .trackerFree) s t
            ∧ OnlyReports (withTracker i t.trackers[i] s) t))

/-- R38, R39, R40, R41, R42, R43, R44, R45, R46, R48, R51: what a sample set makes of a measurer in SEEKING or
COUNTING. A set with no value for its slot leaves it; a filled value returns it to SEEKING; a sample becomes
the previous one, takes the next index, raises the peak of an open span, and counts a crossing where the
measurer is armed and rises from below zero, or arms it below minus half the floor. A crossing opens a span,
is one of its first nine, or ends it with a measurement over ten, which opens the next: valid in
45,000..55,000 mHz with a peak at the floor or above, and qualifying from the second valid one in a row on.
And what a completed valid measurement makes of a tracker: the measurer followed sets the frequency in use,
limited and marked; a primary that qualifies in FOLLOW SECONDARY, and any measurer that qualifies in HOLD or
FREE, is followed from then on, with one TRACKER_STATE record; nothing else changes the tracker. And what a
measurement makes of it that takes the usability of a measurer: a tracker that followed that one follows a
usable secondary or is in HOLD, with its fault and one TRACKER_STATE record. The numbers of a span that is not
open are 0 (log 12). -/
def Obligations.MeasurementsSteerTheTracker : Prop :=
  (∀ (m : Measurer) (floor : Nat), m.state ≠ .idle →
      m.takes floor none = (m, .nothing)
        ∧ (∀ v, m.takes floor (some { value := v, filled := true }) = (sought m, .nothing))
        ∧ ∀ x : Int,
          let next : Measurer := { m with
            prev := some x, index := m.index + 1
            peak := if m.state = .counting then max m.peak x.natAbs else m.peak }
          let result := m.takes floor (some { value := x, filled := false })
          let crossing : Int → Prop := fun x0 => m.armed = true ∧ m.prev = some x0 ∧ x0 < 0 ∧ 0 ≤ x
          ((∀ x0, ¬ crossing x0) → result =
              ({ next with armed := m.armed || decide (x < -((floor / 2 : Nat) : Int)) }, .nothing))
            ∧ ∀ x0, crossing x0 →
              let stamp := 256 * (m.index - 1) + 256 * x0.natAbs / (x - x0).toNat
              let span := stamp - m.startStamp
              let f := (32768000000 + span / 2) / span
              let valid := 45000 ≤ f ∧ f ≤ 55000 ∧ floor ≤ next.peak
              let opened : Measurer := { next with
                armed := false, state := .counting, startStamp := stamp, crossings := 0
                peak := x.natAbs }
              (m.state = .seeking → result = (opened, .nothing))
                ∧ (m.state = .counting → m.crossings < 9 → result =
                  ({ next with armed := false, crossings := m.crossings + 1 }, .nothing))
                ∧ (m.state = .counting → 9 ≤ m.crossings → valid →
                  result = ({ opened with last := some { freq := f, valid := true }
                                          run := min 255 (m.run + 1), usable := true },
                    .valid f (decide (1 ≤ m.run))))
                ∧ (m.state = .counting → 9 ≤ m.crossings → ¬ valid →
                  result = ({ opened with last := some { freq := f, valid := false }
                                          run := 0, usable := false },
                    if m.usable then .unusable else .nothing)))
    ∧ (∀ (i : Fin 2) (r : Role) (f : Nat) (q : Bool) (s : State),
      let t := trackerActs i r (.valid f q) s
      let tr := s.trackers[i]
      OnlyReports (withTracker i t.trackers[i] s) { t with ties := s.ties }
        ∧ t.trackers[i] = steered r f q tr
        ∧ (t.trackers[i].state = tr.state → NothingReported s t)
        ∧ (t.trackers[i].state ≠ tr.state → TrackerReported i none s t))
    ∧ ∀ (i : Fin 2) (r : Role) (s : State),
      let t := trackerActs i r .unusable s
      let tr := s.trackers[i]
      let failed : Role → Bool := fun x => decide (x = r)
      OnlyReports (withTracker i
          (afterFailure failed s.tables.trackers[i].holdTime tr) s) { t with ties := s.ties }
        ∧ (failureFault failed tr = none → t = s)
        ∧ ∀ k, failureFault failed tr = some k → Reported k s t ∧ TrackerReported i (some k) s t

/-- R65, R75, R76, R77, R78, R80, R83, R102, R137, R138, R140: the engine completes its evaluation of a copy:
the check results of the channel are those of the evaluation, its counters rise, and the capture unit gets the
alert entries in ANALYSING alone: on a channel that reads the capture source of the settings copy, the first
entry of a trigger class is the cause of a trigger, which starts a capture in ARMED, is missed in POST and
HELD and ignored in OFF. The table memory goes to a waiting command, else to a waiting RESTORE copy, else to
no one. With no channel requesting, the engine is IDLE; else the close arbiter grants it the first requesting
channel, in FIXED mode the lowest, in ROTATING mode the next from the rotation point on, which a grant moves
past the channel: the engine takes the copy, and evaluates it where the memory is free and waits where it is
not. An evaluation is computed at its completion (log 28); that the event of an engine which is not EVALUATING
changes nothing is the model's choice (log 2). -/
def Obligations.EvaluationCompletes : Prop :=
  ∀ (ties : Ties) (s : State), s.powered = true →
    ((∀ c w, s.engine ≠ .evaluating c w) → exec (.evaluationComplete ties) s = .next s)
      ∧ ∀ c w, s.engine = .evaluating c w →
        let x := s.evalInput c w
        let k := s.counters.channels[c]
        let owner : MemOwner :=
          if s.command.requested then .command else if s.restoring then .store else .free
        ∃ t, exec (.evaluationComplete ties) s = .next t
          ∧ t.checks = s.checks.set c x.checksAfter
          ∧ t.counters.channels = s.counters.channels.set c { k with
              evaluated := raised k.evaluated 1
              degraded := if x.degraded then raised k.degraded 1 else k.degraded }
          ∧ (s.opState ≠ .analysing → t.capture = s.capture)
          ∧ (s.opState = .analysing →
            match alertTrigger c w.seq x.alertEntries s with
            | some cause => t.capture = captureTriggered cause s.localTime s.capture
            | none => t.capture = s.capture)
          ∧ ((∀ c : Fin 16, s.channels[c].requests = false) →
              t.memOwner = owner ∧ t.engine = .idle ∧ t.channels = s.channels
                ∧ t.rotation = s.rotation)
          ∧ (∀ c', ServedNext s c' → ∃ w' u, CopyTaken s.channels[c'] w' u
              ∧ t.channels = s.channels.set c' u ∧ t.rotation = rotatedPast s c'
              ∧ (owner = .free → t.memOwner = .engine ∧ t.engine = .evaluating c' w')
              ∧ (owner ≠ .free → t.memOwner = owner ∧ t.engine = .waiting c' (some w')))
          ∧ t.tables = s.tables ∧ t.sources = s.sources ∧ t.trackers = s.trackers
          ∧ t.command = s.command ∧ t.store = s.store ∧ t.lineA = s.lineA ∧ t.opState = s.opState

/-- R110, R117, R118, R119, R120, R123, R124, R126, R128: the records of a completion: the alarm records of the
causes in their order, then the verdict record where the verdict mode calls for one. Where the record queue has
room for them they join its tail, with no other record and no drop; an IDLE line B sends the first at once. Where
the fault record is held they are offered one after another, each drop is counted and noted, and nothing fills
the record. Where it is empty, the first drop fills it with the channel or 255 as subject and the sequence number
as detail, or none, and its FAULT_CAPTURED record is offered at some place among the records that remain. The
verdict record, where the snapshot is of the plan row, carries the window's identity and what it was opened
with, the conditions it was judged in, the values formed, and for each bin of the row in ascending k its
magnitude, its ratio if there is one, the class it resolved to and the check state after the evaluation; the
interference figure and check state on a DC_CURRENT channel alone; and the condition code after the
evaluation. That a drop is reported together with its offer is the model's choice (log 5). -/
def Obligations.EvaluationOffersItsRecords : Prop :=
  ∀ (ties : Ties) (s : State) (c : Fin 16) (w : Window),
    s.powered = true → s.engine = .evaluating c w →
    let x := s.evalInput c w
    let verdict : List OutRecord :=
      if s.tables.plans[c].verdictMode = .all
          ∨ (s.tables.plans[c].verdictMode = .changes ∧ x.causes ≠ []) then
        [.verdict (x.verdict s.station s.streamType)]
      else []
    let offered := x.causes.map (fun cause => .alarm (builtNow cause s)) ++ verdict
    let ends : State → State → Prop := fun t v =>
      t.records = v.records ∧ t.lineB = v.lineB ∧ t.fault = v.fault
        ∧ t.counters.verdictDrops = v.counters.verdictDrops
        ∧ t.counters.alarmDrops = v.counters.alarmDrops
    (LineSettled .b s → s.records.length + offered.length ≤ 16 →
      ∃ t, exec (.evaluationComplete ties) s = .next t ∧ ends t (joined offered s))
    ∧ (s.lineB.sending.isSome = true → s.fault.record.isSome = true →
      ∃ t, exec (.evaluationComplete ties) s = .next t ∧ ends t (offeredWhileHeld offered s))
    ∧ (∀ now later, LineSettled .b s → s.fault.record.isSome = true → offered = now :: later →
      s.lineB.sending = none →
      ∃ t, exec (.evaluationComplete ties) s = .next t
        ∧ ends t (offeredWhileHeld later (joined [now] s)))
    ∧ (∀ first r rest, LineSettled .b s → s.fault.record = none → offered = first ++ r :: rest →
      (joined first s).records.length = 16 →
      ∃ t dropped q before after, exec (.evaluationComplete ties) s = .next t
        ∧ enqueue (joined first s).records r = (some dropped, q) ∧ rest = before ++ after ∧
        let x := dropSubject dropped
        let u := recordDropCounted dropped { joined first s with records := q }
        ends t (offeredWhileHeld
          (before ++ .alarm (builtNow (.faultCaptured .recordDropped x.1) s) :: after)
          { u with fault := { u.fault with
              record := some { kind := .recordDropped, subject := x.1, detail := x.2, time := s.localTime }
              summary := u.fault.summary.set FaultKind.recordDropped.index.val true } }))
    ∧ (TablesLegal s → ChecksLegal s → s.opState ≠ .loading →
      w.snapshot = s.tables.plans[c].bins.map PlanBin.k →
        let entry := s.tables.channels[c]
        x.verdict s.station s.streamType = {
          station := s.station, streamType := s.streamType, channel := c, group := entry.group
          seq := w.seq, stamp := w.stamp, len := w.len, freq := w.freq, trackerState := w.trackerState
          flags := {
            degraded := x.degraded, test := w.test, noReference := x.noRef, atLimit := w.atLimit
            saturated := (10 :: w.snapshot).any fun k => decide (16777215 < w.rawMagnitude k) }
          filled := w.filled, mean := windowMean w.plain w.len, a10 := w.magnitude 10, ref := x.ref
          bins := s.tables.plans[c].bins.map fun b => {
            k := b.k, magnitude := w.magnitude b.k, ratio := x.ratio b.k
            cls := resolvedAs entry.kind s.tables.groups[entry.group].pulse b
            state := stateOf x.checksAfter b.k }
          interference := if entry.kind = .dcCurrent then
              some (x.figure, x.checksAfter.interferenceState)
            else none
          code := x.checksAfter.code })

/-- R55, R57, R58, R60, R63, R64: what one sample set does in ANALYSING to a channel unit whose contexts are
as R55 lets them be: with no FILLING window one opens, in context 0 where it is FREE and else in context 1,
and takes the number of the sequence counter; the FILLING window takes the set, and the other context stays;
on the set that completes it, it is PENDING and an older PENDING window is gone. A window opens with what its
tracker and the set's stamp give, its sums, counts and marks at 0, degraded at open under a FREE tracker
(R62). -/
def Obligations.ChannelUnitTakesASet : Prop :=
  ∀ (u : ChannelUnit) (t : Tracker) (stamp : Stamp) (v : SlotValue) (test : Bool),
    let fresh := u.opened t stamp
    let after := (u.openIfNone fresh).advance v test
    let goesOn : ChannelUnit → Prop := fun u' =>
      after.unit = u' ∧ after.closed = false ∧ after.missed = none
    let closes : ChannelUnit → Option Nat → Prop := fun u' missed =>
      after.unit = u' ∧ after.closed = true ∧ after.missed = missed
    fresh = {
        seq := u.seqNext, len := windowLength t.freq, freq := t.freq, trackerState := t.state
        atLimit := t.atLimit, stamp := stamp, count := 0, snapshot := u.binList, plain := 0, filled := 0
        sums := (if 10 ∈ u.binList then u.binList else 10 :: u.binList).map fun k =>
          { k := k, cosSum := 0, sinSum := 0 }
        test := false, degradedAtOpen := decide (t.state = .free) }
      ∧ (u.ctx0 = .free → u.ctx1.isFilling = false → 1 < fresh.len →
        goesOn { u with ctx0 := .filling (fresh.add v test), seqNext := (u.seqNext + 1) % 65536 })
      ∧ (∀ p, u.ctx0 = .pending p → u.ctx1 = .free → 1 < fresh.len →
        goesOn { u with ctx1 := .filling (fresh.add v test), seqNext := (u.seqNext + 1) % 65536 })
      ∧ (∀ w, u.ctx0 = .filling w → u.ctx1.isFilling = false → w.count + 1 < w.len →
        goesOn { u with ctx0 := .filling (w.add v test) })
      ∧ (∀ w, u.ctx1 = .filling w → u.ctx0.isFilling = false → w.count + 1 < w.len →
        goesOn { u with ctx1 := .filling (w.add v test) })
      ∧ (∀ w, u.ctx0 = .filling w → u.ctx1 = .free → w.count + 1 = w.len →
        closes { u with ctx0 := .pending (w.add v test) } none)
      ∧ (∀ w p, u.ctx0 = .filling w → u.ctx1 = .pending p → w.count + 1 = w.len →
        closes { u with ctx0 := .pending (w.add v test), ctx1 := .free } (some p.seq))
      ∧ (∀ w, u.ctx1 = .filling w → u.ctx0 = .free → w.count + 1 = w.len →
        closes { u with ctx1 := .pending (w.add v test) } none)
      ∧ (∀ w p, u.ctx1 = .filling w → u.ctx0 = .pending p → w.count + 1 = w.len →
        closes { u with ctx0 := .free, ctx1 := .pending (w.add v test) } (some p.seq))
      ∧ ∀ w : Window,
        w.add v test = { w with
          count := w.count + 1, plain := w.plain + v.value, test := w.test || test
          filled := w.filled + (if v.filled then 1 else 0)
          sums := w.sums.map fun b =>
            { b with
              cosSum := b.cosSum + v.value * cosTable (4096 * (b.k * w.count % w.len) / w.len)
              sinSum := b.sinSum + v.value * sinTable (4096 * (b.k * w.count % w.len) / w.len) } }

/-! ### Screening and the commands that ask for nothing -/

/-- R148, R149: in LOADING every command but IDENTIFY is answered BUSY; a parameter list that cannot be decoded
is answered BAD_PARAM; a code that is missing or not one of the module's is answered UNKNOWN_COMMAND in
every operating state. That the oldest command is executed by the event of its own code, and that the event
of another code changes nothing, are the model's choice (log 3). -/
def Obligations.CommandsAreScreened : Prop :=
  (∀ (i : Instr) (code : Nat) (s : State) (c : CommandFrame), codeOf i = some code →
      (s.command.queue.head? = some c → commandCode c.bytes ≠ some code → exec i s = .next s)
        ∧ (AtFront code s c → s.opState = .loading → i ≠ .identify →
          exec i s = .next (answered false c .busy [] s))
        ∧ (Accepts code s c → decodes i (commandParams c.bytes) = false →
          exec i s = .next (answered false c .badParam [] s)))
    ∧ (∀ (s : State) (c : CommandFrame),
      s.powered = true → s.command.restart = .none → s.command.queue.head? = some c → LinesSettled s →
        ((∀ i, codeOf i ≠ none → codeOf i ≠ commandCode c.bytes) →
            exec .unknownCommand s = .next (answered false c .unknownCommand [] s))
          ∧ ∀ i, codeOf i ≠ none → codeOf i = commandCode c.bytes → exec .unknownCommand s = .next s)

/-- R158, R159, R167, R182, R184, R185: IDENTIFY is answered DONE in every operating state, LOADING
included, with the part designation, the revision 1..255 in one byte (log 45), the station number and the
operating state; READ STATUS, QUERY PROGRESS and READ COUNTERS are answered DONE with the results of their
rules, byte for byte as `statusBytes` and `queryBytes` lay the first two out (log 14, 15, 17, 18, 19); none of
them changes anything else. The counters are sent two bytes each, 238 bytes in all, those of each source, then
of each channel, then of the device. CLEAR
COUNTERS sets every counter to 0; CLEAR FAULTS empties the fault record, the summary flags, the more-faults
count and the lost-source set, and its reply holds what stood before, as `faultBytes` lays it out. -/
def Obligations.ReportsAndClears : Prop :=
  (∀ (s : State) (c : CommandFrame), AtFront 0x01 s c → commandParams c.bytes = [] →
      1 ≤ Config.revision ∧ Config.revision ≤ 255
        ∧ exec .identify s = .next (answered false c .done
          [0x05#8, 0x48#8, 0x4A#8, 0x37#8, 0x32#8, 0x34#8, BitVec.ofNat 8 Config.revision,
            BitVec.ofNat 8 (s.station / 256), BitVec.ofNat 8 s.station,
            match s.opState with
            | .loading => 0#8
            | .configuring => 1#8
            | .analysing => 2#8] s))
    ∧ (∀ (s : State) (c : CommandFrame), commandParams c.bytes = [] →
      (Accepts 0x02 s c → exec .readStatus s = .next (answered false c .done (statusBytes s) s))
        ∧ (Accepts 0x32 s c → exec .queryProgress s = .next (answered false c .done (queryBytes s) s))
        ∧ (Accepts 0x40 s c →
          let k := s.counters
          let result :=
            (k.sources.toList.flatMap fun x =>
                [x.gapBlocks, x.stale, x.realigns, x.losses, x.clamped, x.malformed].flatMap (bytesOf 2))
              ++ (k.channels.toList.flatMap fun x =>
                [x.evaluated, x.abandoned, x.missed, x.degraded].flatMap (bytesOf 2))
              ++ [k.forwardDropsAB, k.forwardDropsBA, k.verdictDrops, k.alarmDrops, k.commandDrops,
                k.malformedCommands, k.foreignFrames].flatMap (bytesOf 2)
          exec .readCounters s = .next (answered false c .done result s) ∧ result.length = 238))
    ∧ (∀ (s : State) (c : CommandFrame), commandParams c.bytes = [] →
      (Accepts 0x41 s c → ∃ k : Counters,
          exec .clearCounters s = .next (answered false c .done [] { s with counters := k })
            ∧ (∀ i : Fin 8, k.sources[i] =
              { gapBlocks := 0, stale := 0, realigns := 0, losses := 0, clamped := 0, malformed := 0 })
            ∧ (∀ i : Fin 16, k.channels[i] =
              { evaluated := 0, abandoned := 0, missed := 0, degraded := 0 })
            ∧ k.forwardDropsAB = 0 ∧ k.forwardDropsBA = 0 ∧ k.verdictDrops = 0 ∧ k.alarmDrops = 0
            ∧ k.commandDrops = 0 ∧ k.malformedCommands = 0 ∧ k.foreignFrames = 0)
        ∧ (Accepts 0x42 s c → ∃ f : FaultUnit, ∃ l : Vector Bool 8,
          exec .clearFaults s = .next (answered false c .done (faultBytes s.fault)
              { s with fault := f, lostSources := l })
            ∧ f.record = none ∧ f.more = 0 ∧ (∀ k : Fin 12, f.summary[k] = false)
            ∧ ∀ i : Fin 8, l[i] = false))

/-! ### The commands on table entries -/

/-- R112, R160, R161: READ ENTRY with the table memory is answered DONE with the content of the entry it
names, and READ CHECKS with the check results of the channel, laid out as `checkBytes` says (log 16), in a state
that keeps the invariants of tables and checks; the memory is released and nothing else
changes. An address that does not exist is answered BAD_PARAM, and a RESTORE copy under way BUSY. -/
def Obligations.ReadingEntriesAndChecks : Prop :=
  ∀ (s : State) (c : CommandFrame),
    (Accepts 0x10 s c → ∀ table i, commandParams c.bytes = [table, i] →
        (∀ content, entryContent s.tables table.toNat i.toNat = some content →
            (HasMemory s → exec .readEntry s = .next (released (answered false c .done content s)))
              ∧ (s.command.requested = false → s.restoring = true →
                exec .readEntry s = .next (answered false c .busy [] s)))
          ∧ (entryContent s.tables table.toNat i.toNat = none → s.command.requested = false →
            exec .readEntry s = .next (answered false c .badParam [] s)))
      ∧ (Accepts 0x12 s c → ∀ n, commandParams c.bytes = [n] →
        (∀ ch : Fin 16, n.toNat = ch.val →
            (HasMemory s → TablesLegal s → ChecksLegal s → exec .readChecks s =
                .next (released (answered false c .done (checkBytes ch s) s)))
              ∧ (s.command.requested = false → s.restoring = true →
                exec .readChecks s = .next (answered false c .busy [] s)))
          ∧ (16 ≤ n.toNat → s.command.requested = false →
            exec .readChecks s = .next (answered false c .badParam [] s)))

/-- R79, R80, R82, R84, R148, R162: a command that needs the table memory while the engine evaluates waits for
it: its request stands, no reply is formed and nothing else changes. When the command that held the memory
is answered while the engine waits, the engine is given it and evaluates its copy; where the copy is
discarded, as by the WRITE ENTRY itself, the engine is IDLE if no channel requests it, and the memory goes to the
next command where that asks for it and else to no one. That one event asks and another completes, and that
the event does nothing while the command waits, are log 4; that only a request of the very next command
stands then is log 42; that the records of a WRITE ENTRY's effects join line B before its reply is log 44. -/
def Obligations.TableMemoryIsHandedOver : Prop :=
  (∀ (i : Instr) (code : Nat) (s : State) (c : CommandFrame),
      codeOf i = some code → Accepts code s c → c.needsMemory → s.memOwner = .engine →
        (s.command.requested = true → exec i s = .next s)
          ∧ (s.command.requested = false → s.restoring = false →
            (i = .readEntry → ∃ table k content, commandParams c.bytes = [table, k]
              ∧ entryContent s.tables table.toNat k.toNat = some content) →
            (i = .startAnalysis → s.opState = .configuring) →
            (i = .storeTable → s.store.op = .idle ∧ s.protection.freeze = false
              ∧ (s.inForce.mode = .opened ∨ s.maintenanceClosed = true)
              ∧ ∃ n id, commandParams c.bytes = [n] ∧ tableOf? n.toNat = some id
                ∧ s.inForce.locks[id.num] = false) →
            exec i s = .next { s with command := { s.command with requested := true } }))
    ∧ (∀ (i : Instr) (code : Nat) (s : State) (c : CommandFrame),
      codeOf i = some code → Accepts code s c → c.needsMemory → (∀ ties, i ≠ .writeEntry ties) →
      s.command.requested = true → s.memOwner = .command →
        ∃ u, exec i { s with engine := .idle } = .next u ∧ u.memOwner = .free ∧ u.engine = .idle
          ∧ u.command.queue = s.command.queue.tail ∧ u.command.requested = false
          ∧ (∀ c' w, s.engine = .waiting c' (some w) →
            exec i s = .next { u with engine := .evaluating c' w, memOwner := .engine })
          ∧ ∀ c', s.engine = .waiting c' none → s.restoring = false →
            (∀ x : Fin 16, s.channels[x].requests = false) →
            (s.command.queue = [c] → exec i s = .next u)
              ∧ ∀ d rest, s.command.queue = c :: d :: rest → AsksAtOnce d →
                exec i s = .next { u with
                  memOwner := .command, command := { u.command with requested := true } })
    ∧ ∀ (ties : Ties) (s : State) (c : CommandFrame) (w : RawWrite) (e : EntryWrite) (clamped : Bool),
      Accepts 0x11 s c → parseWrite (commandParams c.bytes) = some w →
      s.command.requested = true → s.memOwner = .command → s.restoring = false →
      s.permitted w = true → judge s w = .ok (e, clamped) →
        let u := applyWrite e { s with ties := ties }
        let v := { answered false c (if clamped then .adjusted else .done) e.content u with ties := [] }
        (∀ c' w, u.engine = .waiting c' (some w) →
            exec (.writeEntry ties) s =
              .next { v with engine := .evaluating c' w, memOwner := .engine })
          ∧ ∀ c', u.engine = .waiting c' none → (∀ x : Fin 16, u.channels[x].requests = false) →
            (s.command.queue = [c] →
                exec (.writeEntry ties) s = .next { v with engine := .idle, memOwner := .free })
              ∧ ∀ d rest, s.command.queue = c :: d :: rest → AsksAtOnce d →
                exec (.writeEntry ties) s = .next { v with
                  engine := .idle, memOwner := .command
                  command := { v.command with requested := true } }

/-- R7, R23, R27, R36, R95, R103, R107, R133, R160, R162, R164, R174: WRITE ENTRY is refused BUSY while a RESTORE
waits for or holds the table memory. With the memory it is refused PROTECTED where a runtime lock, a stored
lock or the guard range covers the entry (R173); BAD_PARAM where the content breaks its table's rule, as
`BadContent` lists the cases; BUSY where a GENERAL entry would change the source or the pre-trigger count of an
ARMED or POST capture unit, the count as clamped (log 33). Else the content is kept as `keptEntry` says, each
value clamped into its range, a signature's bins in ascending order (log 35); and exactly the entry it
names is replaced in the working tables, its effects are taken, and it is answered DONE, or ADJUSTED where a
value was clamped, with the content as written. The memory is released. The effects leave the operating
state, the commands, the store, the protection and line A alone; a BANDS or SIGNATURES entry has none, and a
GENERAL entry sets the capture settings. That the guard range covers no group above 3 is log 21, and that the
records of the effects join line B, even an IDLE one, before the reply is log 44 (the model's choice). -/
def Obligations.WriteEntryReplacesAnEntry : Prop :=
  (∀ (ties : Ties) (s : State) (c : CommandFrame) (w : RawWrite),
    Accepts 0x11 s c → HasMemory s → parseWrite (commandParams c.bytes) = some w →
      let ended : State → State := fun t => { released t with ties := [] }
      (Forbidden s w →
          exec (.writeEntry ties) s = .next (ended (answered false c .protected_ [] s)))
        ∧ (∀ st, ¬ Forbidden s w → judge s w = .error st →
          exec (.writeEntry ties) s = .next (ended (answered false c st [] s)))
        ∧ (∀ e clamped, ¬ Forbidden s w → judge s w = .ok (e, clamped) →
          let u := applyWrite e { s with memOwner := .command, ties := ties }
          exec (.writeEntry ties) s =
              .next (ended (answered false c (if clamped then .adjusted else .done) e.content u))
            ∧ u.tables = replaced s.tables e
            ∧ u.opState = s.opState ∧ u.command = s.command ∧ u.store = s.store
            ∧ u.protection = s.protection ∧ u.engine = s.engine ∧ u.lineA = s.lineA
            ∧ (∀ b x, e = .band b x → u = { s with
                memOwner := .command, ties := ties, tables := replaced s.tables e })
            ∧ (∀ b x, e = .signature b x → u = { s with
                memOwner := .command, ties := ties, tables := replaced s.tables e })
            ∧ (∀ x, e = .general x → u = { s with
                memOwner := .command, ties := ties, tables := replaced s.tables e
                capture := { s.capture with settings := x.capture } })))
    ∧ (∀ (s : State) (w : RawWrite), s.permitted w = true ↔ ¬ Forbidden s w)
    ∧ (∀ (s : State) (w : RawWrite),
      (BadContent s w → judge s w = .error .badParam)
        ∧ (¬ BadContent s w → HeldByCapture s w → judge s w = .error .busy)
        ∧ (¬ BadContent s w → ¬ HeldByCapture s w →
          ∃ clamped, judge s w = .ok (keptEntry w, clamped) ∧ (clamped = true ↔ IsClamped w)))
    ∧ ∀ (ties : Ties) (s : State) (c : CommandFrame), Accepts 0x11 s c →
      (parseWrite (commandParams c.bytes)).isSome = true → s.command.requested = false →
      s.restoring = true → exec (.writeEntry ties) s = .next (answered false c .busy [] s)

/-- R8, R25, R26, R28, R29, R30, R31, R66, R69, R97: what permitted writes do to the running blocks. A SOURCES
entry enabled starts its source in AWAIT; disabled it is OFF, and the windows of its active channels end; one
that changes its id or channel count is in AWAIT, the windows of its channels end and their measurers seek.
A CHANNELS entry that changes ends the channel's windows and clears its check results, and with source or
slot changed its measurers seek. A GROUPS entry disabled ends the windows of its active channels; one that
names another tracker ends those of all its channels and clears their results; other fields change nothing.
A PLANS row that changes its list of bins ends the windows and sets the bin list; it keeps the results of the
bins that stay and the states of those checked before and after, and makes the others CLEAR. A window
ended is counted, and a waiting copy discarded with it: in R34's SOURCES case (log 43), and for a PLANS
write in CONFIGURING too (log 29). Clearing takes the summary with it (log 20); the capture unit follows a
SOURCES write by log 22, and both measurers of a tracker lose a disabled source before it acts (log 23). The
span numbers of a measurer that seeks are 0 (log 12). -/
def Obligations.WritesThatEndWindows : Prop :=
  (∀ (i : Fin 8) (e : SourceEntry) (s : State),
      let old := s.tables.sources[i]
      let u := applyWrite (.source i e) s
      let names : Fin 16 → Bool := fun c => s.tables.channels[c].source == i
      let reads : Fin 2 → Role → Bool := fun t r => (s.referenceSlot t r i).isSome
      let written : State := { s with
        tables := replaced s.tables (.source i e), capture := sourceRewritten i old e s.capture }
      let awaiting : SourceRecord := { s.sources[i] with
        state := .await, lastPos := none, lastValues := Vector.replicate 8 0, silence := none }
      let changed := old.sourceId ≠ e.sourceId ∨ old.channelCount ≠ e.channelCount
      (old.enabled = false → e.enabled = true → u = { written with sources := s.sources.set i awaiting })
        ∧ (old.enabled = true → e.enabled = true → changed →
          u = { windowsEnded names written with
            sources := s.sources.set i awaiting
            trackers := Vector.ofFn fun t => withMeasurers (fun r =>
              if reads t r then sought (s.trackers[t].measurer r) else s.trackers[t].measurer r)
              s.trackers[t] })
        ∧ (old.enabled = e.enabled → (e.enabled = false ∨ ¬ changed) → u = written)
        ∧ (old.enabled = true → e.enabled = false →
          let failed : Fin 2 → Role → Bool := fun t r =>
            reads t r && (s.trackers[t].measurer r).usable
          let lost : Fin 2 → Tracker := fun t => withMeasurers (fun r =>
            if reads t r then lostSource (s.trackers[t].measurer r) else s.trackers[t].measurer r)
            s.trackers[t]
          OnlyReports { windowsEnded (fun c => names c && s.active c) written with
              sources := s.sources.set i { s.sources[i] with state := .off, silence := none }
              trackers := Vector.ofFn fun t =>
                afterFailure (failed t) s.tables.trackers[t].holdTime (lost t) } u
            ∧ ∀ t k, failureFault (failed t) (lost t) = some k → Reported k s u))
    ∧ (∀ (c : Fin 16) (e : ChannelEntry) (s : State),
      let old := s.tables.channels[c]
      applyWrite (.channel c old) s = s
        ∧ (old ≠ e →
          let moved := old.source ≠ e.source ∨ old.slot ≠ e.slot
          applyWrite (.channel c e) s = { windowsEnded (fun x => x == c) s with
            tables := replaced s.tables (.channel c e)
            checks := s.checks.set c (blankChecks s.tables.plans[c])
            trackers := if moved then Vector.ofFn fun t => withMeasurers (fun r =>
                if s.tables.trackers[t].reference r = some c then sought (s.trackers[t].measurer r)
                else s.trackers[t].measurer r) s.trackers[t]
              else s.trackers }))
    ∧ (∀ (g : Fin 4) (e : GroupEntry) (s : State),
      let old := s.tables.groups[g]
      let names : Fin 16 → Bool := fun c => s.tables.channels[c].group == g
      let moved := old.tracker ≠ e.tracker
      applyWrite (.group g e) s = { windowsEnded (fun c =>
            names c && (decide moved || (old.enabled && !e.enabled && s.active c))) s with
          tables := replaced s.tables (.group g e)
          checks := Vector.ofFn fun c =>
            if names c = true ∧ moved then blankChecks s.tables.plans[c] else s.checks[c] })
    ∧ ∀ (c : Fin 16) (e : PlanRow) (s : State),
      TablesLegal s → ChecksLegal s → s.opState ≠ .loading →
        let old := s.tables.plans[c]
        let changed := e.bins.map PlanBin.k ≠ old.bins.map PlanBin.k
        let v := windowsEnded (fun x => decide changed && x == c) s
        ∃ bins, applyWrite (.plan c e) s = { v with
              tables := replaced s.tables (.plan c e)
              checks := s.checks.set c { s.checks[c] with bins := bins }
              channels := if changed then
                  v.channels.set c { v.channels[c] with binList := e.bins.map PlanBin.k }
                else v.channels }
          ∧ List.Forall₂ (fun (b : PlanBin) (x : BinCheck) =>
              x.k = b.k ∧ (b.cls = .watch → x.state = none)
                ∧ (∀ o ∈ old.bins, ∀ y ∈ s.checks[c].bins, o.k = b.k → y.k = b.k →
                  x.lastRatio = y.lastRatio ∧ x.lastClass = y.lastClass
                    ∧ (o.cls ≠ .watch → b.cls ≠ .watch → x.state = y.state)
                    ∧ (o.cls = .watch → b.cls ≠ .watch → x.state = some .clear))
                ∧ ((∀ o ∈ old.bins, o.k ≠ b.k) → x.lastRatio = none ∧ x.lastClass = none
                    ∧ (b.cls ≠ .watch → x.state = some .clear)))
            e.bins bins

/-- R161, R162: what READ ENTRY returns, WRITE ENTRY takes unchanged: in a state that keeps the rules of
its tables, the content of every entry decodes to a write that is judged good with no value clamped,
and that leaves the working tables as they are. -/
def Obligations.EntryContentRoundTrip : Prop :=
  ∀ (s : State) (table i : Byte) (content : List Byte),
    TablesLegal s → s.opState ≠ .loading →
    entryContent s.tables table.toNat i.toNat = some content →
      ∃ w e, parseWrite (table :: i :: content) = some w ∧ judge s w = .ok (e, false)
        ∧ replaced s.tables e = s.tables ∧ e.content = content

/-- R37, R45, R46, R50, R51, R160, R173: SET TRACKER of a tracker above 1 is refused BAD_PARAM, and BUSY while
a RESTORE waits for or holds the table memory. With the memory it writes the requested mode and fixed
frequency; with FIXED the tracker is FIXED at that frequency, its hold timer stopped; with AUTO a FIXED
tracker enters HOLD at its frequency with the entry's hold time, and any other stays; the reply gives the
state and frequency in use. A mode or frequency out of range is refused BAD_PARAM, a locked table PROTECTED. A
permitted write of a TRACKERS entry that changes it takes the mode and fixed frequency alike, with the new
hold time, and then the references: a measurer whose reference changes has nothing left and seeks, or is IDLE
without one, and a tracker that followed it follows a usable secondary or is in HOLD; a write that changes
nothing does nothing. A change of the tracker's state queues one TRACKER_STATE record (R51), before the reply
(log 44), and without one nothing is queued. Both measurers are changed before the tracker acts (R37, log 23),
and the numbers of a span that is not open are 0 (log 12). -/
def Obligations.SetTrackerRequestsAMode : Prop :=
  (∀ (s : State) (c : CommandFrame) (i : Fin 2) (mode f : Nat),
    Accepts 0x13 s c → HasMemory s → parseSetTracker (commandParams c.bytes) = some (i.val, mode, f) →
      let tr := s.trackers[i]
      let locked := s.protection.runtime[4] = true ∨ s.inForce.locks[4] = true
      let entry : RequestedMode → TrackerEntry := fun m =>
        { s.tables.trackers[i] with mode := m, fixedFrequency := f }
      (locked → exec .setTracker s = .next (released (answered false c .protected_ [] s)))
        ∧ (¬ locked → (1 < mode ∨ f < 47000 ∨ 53000 < f) →
          exec .setTracker s = .next (released (answered false c .badParam [] s)))
        ∧ (¬ locked → mode ≤ 1 → 47000 ≤ f → f ≤ 53000 →
          let m : RequestedMode := if mode = 1 then .fixed else .auto
          let new := modeRequested m f s.tables.trackers[i].holdTime tr
          ∃ u, exec .setTracker s = .next (released (answered false c .done
                (BitVec.ofNat 8 new.state.code :: put4 new.freq) u))
            ∧ OnlyReports { withTracker i new s with
                memOwner := .command
                tables := { s.tables with trackers := s.tables.trackers.set i (entry m) } } u
            ∧ (new.state = tr.state → NothingReported s u)
            ∧ (new.state ≠ tr.state → TrackerReported i none s u)))
    ∧ (∀ (s : State) (c : CommandFrame) (i mode f : Nat), Accepts 0x13 s c →
      parseSetTracker (commandParams c.bytes) = some (i, mode, f) → s.command.requested = false →
        (1 < i → exec .setTracker s = .next (answered false c .badParam [] s))
          ∧ (i ≤ 1 → s.restoring = true → exec .setTracker s = .next (answered false c .busy [] s)))
    ∧ ∀ (i : Fin 2) (e : TrackerEntry) (s : State),
      let old := s.tables.trackers[i]
      let tr := s.trackers[i]
      let changed : Role → Bool := fun r => old.reference r != e.reference r
      let asked := withMeasurers (fun r =>
          if changed r then rereferenced (e.reference r) else tr.measurer r)
        (modeRequested e.mode e.fixedFrequency e.holdTime tr)
      let new := afterFailure changed e.holdTime asked
      let u := applyWrite (.tracker i e) s
      (old = e → u = s)
        ∧ (old ≠ e →
          OnlyReports { withTracker i new s with tables := replaced s.tables (.tracker i e) } u
            ∧ (∀ k, failureFault changed asked = some k → Reported k s u)
            ∧ (new.state = tr.state → NothingReported s u)
            ∧ (new.state ≠ tr.state → TrackerReported i (failureFault changed asked) s u))

/-! ### Operating states and restarts -/

/-- R71, R113, R153, R154: START ANALYSIS in CONFIGURING with the table memory enters ANALYSING with the
check results of every channel CLEAR or absent; in ANALYSING it is refused WRONG_STATE, during a RESTORE
copy BUSY. STOP ANALYSIS in ANALYSING enters CONFIGURING, ends every window and counts it, and leaves
the sequence counters and the engine; in CONFIGURING it is refused WRONG_STATE. -/
def Obligations.AnalysisStartsAndStops : Prop :=
  ∀ (s : State) (c : CommandFrame), commandParams c.bytes = [] →
    (Accepts 0x20 s c →
        (s.opState = .configuring → HasMemory s →
            exec .startAnalysis s = .next (released (answered false c .done [] { s with
              opState := .analysing
              checks := Vector.ofFn fun ch => blankChecks s.tables.plans[ch] })))
          ∧ (s.opState = .analysing → s.command.requested = false →
            exec .startAnalysis s = .next (answered false c .wrongState [] s))
          ∧ (s.opState = .configuring → s.command.requested = false → s.restoring = true →
            exec .startAnalysis s = .next (answered false c .busy [] s)))
      ∧ (Accepts 0x21 s c →
        (s.opState = .analysing →
            exec .stopAnalysis s = .next (answered false c .done [] { s with
              opState := .configuring
              channels := s.channels.map fun u => { u with ctx0 := .free, ctx1 := .free }
              counters := { s.counters with channels := Vector.ofFn fun ch =>
                { s.counters.channels[ch] with
                  abandoned :=
                    raised s.counters.channels[ch].abandoned s.channels[ch].held } } }))
          ∧ (s.opState = .configuring →
            exec .stopAnalysis s = .next (answered false c .wrongState [] s)))

/-- R155: RESTART is answered DONE, and from then on no command of the host computer is executed; the
command restart does not begin before the reply has been transmitted. That it is an event of its own is
log 30, and that an event which cannot occur now changes nothing is log 2, both the model's choice. -/
def Obligations.RestartHoldsTheCommands : Prop :=
  (∀ (s : State) (c : CommandFrame), Accepts 0x22 s c → commandParams c.bytes = [] →
      exec .restart s = .next (answered true c .done []
        { s with command := { s.command with restart := .replied } }))
    ∧ ∀ s : State, s.command.restart ≠ .none →
      (∀ i, codeOf i ≠ none → exec i s = .next s) ∧ exec .unknownCommand s = .next s
        ∧ (s.command.restart ≠ .due → exec .commandRestart s = .next s)

/-- What both restarts leave (R9, R53, R73, R76, R94, R113, R131, R134, R156, R166, R172, R176, R178, R183,
R184, R186): the module in LOADING with every block at rest and every counter 0; the settings store, and
the last values and position of every source, as they stood. -/
def Claims.Restarted (s t : State) : Prop :=
  t.opState = .loading ∧ t.loadedTables = 0 ∧ t.localTime = 0 ∧ t.memOwner = .store
    ∧ t.engine = .idle ∧ t.rotation = 0 ∧ t.records = [] ∧ t.lineA.replies = [] ∧ t.lineB.replies = []
    ∧ t.lineA.passedOver = 0 ∧ t.lineB.passedOver = 0
    ∧ t.command = { queue := [], requested := false, restart := .none }
    ∧ (∀ i : Fin 8, t.sources[i] = { s.sources[i] with state := .off, silence := none }
        ∧ t.lostSources[i] = false)
    ∧ t.lastGap = none
    ∧ (∀ i : Fin 2, t.trackers[i].state = .free ∧ t.trackers[i].freq = 50000
        ∧ t.trackers[i].atLimit = false ∧ t.trackers[i].hold = none
        ∧ ∀ r : Role, (t.trackers[i].measurer r).last = none ∧ (t.trackers[i].measurer r).run = 0
          ∧ (t.trackers[i].measurer r).usable = false)
    ∧ (∀ c : Fin 16, t.channels[c].ctx0 = .free ∧ t.channels[c].ctx1 = .free
        ∧ t.channels[c].seqNext = 0)
    ∧ t.capture.state = .off ∧ t.capture.buffer = [] ∧ t.capture.header = none
    ∧ t.capture.missed = 0
    ∧ (∀ i : Fin 8, t.counters.sources[i] =
        { gapBlocks := 0, stale := 0, realigns := 0, losses := 0, clamped := 0, malformed := 0 })
    ∧ (∀ c : Fin 16, t.counters.channels[c] =
        { evaluated := 0, abandoned := 0, missed := 0, degraded := 0 })
    ∧ t.counters.forwardDropsAB = 0 ∧ t.counters.forwardDropsBA = 0 ∧ t.counters.verdictDrops = 0
    ∧ t.counters.alarmDrops = 0 ∧ t.counters.commandDrops = 0 ∧ t.counters.malformedCommands = 0
    ∧ t.counters.foreignFrames = 0
    ∧ t.store.images = s.store.images ∧ t.store.valid = s.store.valid
    ∧ t.store.copy0 = s.store.copy0 ∧ t.store.copy1 = s.store.copy1
    ∧ t.store.op = .idle ∧ t.store.outcome = .none
    ∧ (∀ i : Fin 8, t.protection.runtime[i] = s.inForce.lockDefault) ∧ t.protection.freeze = false
    ∧ t.maintenanceClosed = s.maintenanceClosed ∧ t.pending = s.pending

/-- R156, R157, R166: the power-on restart empties the forward queues and the fault unit too, and uses
station 1 and stream type 9A4Ch; the command restart, once due, keeps the forward queues, the frame
being sent, the fault unit, the station and the stream type. The removal of supply keeps the settings
store and stops the module; that its volatile state stands unchanged until the power-on restart, the last
values and positions of the sources even beyond it, is the model's choice (log 25, log 12). -/
def Obligations.TheTwoRestarts : Prop :=
  (∀ s : State, ∃ t, exec .powerOnRestart s = .next t ∧ Claims.Restarted s t ∧ t.powered = true
      ∧ t.lineA.forward = [] ∧ t.lineA.sending = none ∧ t.lineB.forward = []
      ∧ t.lineB.sending = none ∧ t.fault.record = none ∧ t.fault.more = 0
      ∧ (∀ k : Fin 12, t.fault.summary[k] = false)
      ∧ t.station = 1 ∧ t.streamType = 0x9A4C#16)
    ∧ (∀ s : State, s.powered = true → s.command.restart = .due →
      ∃ t, exec .commandRestart s = .next t ∧ Claims.Restarted s t ∧ t.powered = true
        ∧ t.lineA.forward = s.lineA.forward ∧ t.lineB.forward = s.lineB.forward
        ∧ t.lineA.sending.map Reply.frame = s.lineA.sending.map Reply.frame
        ∧ t.lineB.sending.map Reply.frame = s.lineB.sending.map Reply.frame
        ∧ t.fault = s.fault ∧ t.station = s.tables.general.station
        ∧ t.streamType = s.tables.general.streamType)
    ∧ ∀ s : State, s.powered = true → exec .supplyRemoved s = .next { s with
        powered := false, store := { s.store with op := .idle, outcome := .none } }

/-- R172, R180: the load copies the next table in table order from its stored image, or the factory defaults
where the image is invalid, which is reported as STORED_INVALID. The count of copied tables that says which
is next is log 37; that outside LOADING, and once all eight have been copied, the event changes nothing is
the model's choice (log 2). -/
def Obligations.LoadCopiesTheNextTable : Prop :=
  ∀ (s : State) (id : TableId), s.powered = true →
    ((s.opState ≠ .loading ∨ s.loadedTables = 8) → exec .loadTableCopied s = .next s)
      ∧ (s.opState = .loading → s.loadedTables = id.num.val →
        (s.store.valid[id.num] = true →
            ∃ u, exec .loadTableCopied s =
                .next { s with tables := u, loadedTables := s.loadedTables + 1 }
              ∧ ∀ other, u.image other =
                if other = id then s.store.images.image id else s.tables.image other)
          ∧ (s.store.valid[id.num] = false →
            ∃ u, (∀ other, u.image other =
                if other = id then factoryTables.image id else s.tables.image other)
              ∧ (TakesFaults s → exec .loadTableCopied s =
                .next (faultTaken .storedInvalid id.num.val (.number id.num.val)
                  { s with tables := u, loadedTables := s.loadedTables + 1 }))))

/-- R9, R51, R53, R56, R94, R113, R133, R152, R171: at the completion of the load the tables are repaired, the
operating state is ANALYSING with auto-start and eight valid images and CONFIGURING otherwise, the
blocks take up their settings, and the table memory is released. Each tracker that is FIXED from then on queues
one TRACKER_STATE record, in either order. That the event changes nothing before
eight tables are copied and outside LOADING is the model's choice (log 2). -/
def Obligations.LoadCompletes : Prop :=
  ∀ (ties : Ties) (s : State), s.powered = true →
    (¬ (s.opState = .loading ∧ s.loadedTables = 8) → exec (.loadComplete ties) s = .next s)
      ∧ (s.opState = .loading → s.loadedTables = 8 →
        ∃ t, exec (.loadComplete ties) s = .next t
          ∧ t.tables = repair s.tables ∧ t.memOwner = .free
          ∧ t.opState = (if s.tables.general.autoStart = true ∧ ∀ i : Fin 8, s.store.valid[i] = true
              then .analysing else .configuring)
          ∧ (∀ i : Fin 8, (t.tables.sources[i].enabled = true →
                t.sources[i] = { s.sources[i] with state := .await, lastPos := none
                                                   lastValues := Vector.replicate 8 0
                                                   silence := none })
              ∧ (t.tables.sources[i].enabled = false → t.sources[i] = s.sources[i]))
          ∧ (∀ i : Fin 2, ∀ r : Role,
              (t.trackers[i].measurer r).state =
                  (if (t.tables.trackers[i].reference r).isSome then .seeking else .idle)
                ∧ (t.trackers[i].measurer r).usable = false)
          ∧ (∀ i : Fin 2, (t.tables.trackers[i].mode = .fixed →
                t.trackers[i].state = .fixed
                  ∧ t.trackers[i].freq = t.tables.trackers[i].fixedFrequency)
              ∧ (t.tables.trackers[i].mode = .auto →
                t.trackers[i].state = s.trackers[i].state ∧ t.trackers[i].freq = s.trackers[i].freq))
          ∧ (∀ c : Fin 16, t.channels[c] = { s.channels[c] with
                binList := t.tables.plans[c].bins.map PlanBin.k }
              ∧ t.checks[c] = blankChecks t.tables.plans[c])
          ∧ t.capture = { s.capture with settings := t.tables.general.capture }
          ∧ t.engine = s.engine ∧ t.command = s.command ∧ t.store = s.store ∧ t.lineA = s.lineA
          ∧ ((∀ i : Fin 2, t.tables.trackers[i].mode = .auto) → NothingReported s t)
          ∧ (LineSettled .b s → s.records.length + 2 ≤ 16 →
            let fixed := (List.finRange 2).filter fun i => decide (t.tables.trackers[i].mode = .fixed)
            t.fault = s.fault ∧ t.counters = s.counters
              ∧ ∃ l : List (Fin 2), l.Perm fixed ∧
                let offered : List OutRecord := l.map fun i =>
                  .alarm (builtNow (.trackerState i .fixed t.tables.trackers[i].fixedFrequency) s)
                t.records = (joined offered s).records ∧ t.lineB = (joined offered s).lineB))

/-- R114, R171: consistency repair disables an enabled channel whose slot its source does not have; clears both
references of a tracker whose primary names a channel that is not AC_VOLTAGE, and the secondary alone where only
it does, or where it names the primary's channel; and leaves bin 10 out of the plan row of an AC channel. It
changes nothing else, and the entries repaired count each changed entry once. It makes any tables that obey
their own rules obey one another, and changes nothing in tables that already do. -/
def Obligations.RepairMakesConsistent : Prop :=
  ∀ t : Tables,
    let u := repair t
    let notVoltage : Option (Fin 16) → Prop := fun r => ∃ c, r = some c ∧ t.channels[c].kind ≠ .acVoltage
    (∀ c : Fin 16,
        let e := t.channels[c]
        (e.enabled = true ∧ t.sources[e.source].channelCount ≤ e.slot.val →
            u.channels[c] = { e with enabled := false })
          ∧ (¬ (e.enabled = true ∧ t.sources[e.source].channelCount ≤ e.slot.val) → u.channels[c] = e))
      ∧ (∀ i : Fin 2,
        let e := t.trackers[i]
        let spoilt := notVoltage e.secondary ∨ (e.secondary ≠ none ∧ e.secondary = e.primary)
        (notVoltage e.primary → u.trackers[i] = { e with primary := none, secondary := none })
          ∧ (¬ notVoltage e.primary → spoilt → u.trackers[i] = { e with secondary := none })
          ∧ (¬ notVoltage e.primary → ¬ spoilt → u.trackers[i] = e))
      ∧ (∀ c : Fin 16,
        let row := t.plans[c]
        (t.channels[c].kind = .acVoltage ∨ t.channels[c].kind = .acCurrent →
            u.plans[c] = { row with bins := row.bins.filter fun b => decide (b.k ≠ 10) })
          ∧ (t.channels[c].kind = .dcVoltage ∨ t.channels[c].kind = .dcCurrent → u.plans[c] = row))
      ∧ u.general = t.general ∧ u.sources = t.sources ∧ u.groups = t.groups
      ∧ u.bands = t.bands ∧ u.signatures = t.signatures
      ∧ repairedCount t u = (List.finRange 16).countP (fun c => decide (u.channels[c] ≠ t.channels[c]))
        + (List.finRange 2).countP (fun i => decide (u.trackers[i] ≠ t.trackers[i]))
        + (List.finRange 16).countP (fun c => decide (u.plans[c] ≠ t.plans[c]))
      ∧ (t.legal → u.legal ∧ u.consistent ∧ (t.consistent → u = t))

/-! ### Capture -/

/-- R135, R137, R138, R140, R143: ARM CAPTURE in OFF arms the unit on the capture source of the settings
copy; RELEASE CAPTURE in HELD empties it, into ARMED with auto-rearm and OFF without; both are refused
WRONG_STATE in every other state. DISARM CAPTURE takes the unit to OFF, emptied, from every state.
TRIGGER CAPTURE in ARMED fixes the header, keeps the most recent sets up to the pre-trigger count and
enters POST. In POST and HELD it is counted as missed, up to 255, the count sent in two bytes (log 15);
in OFF it is refused WRONG_STATE. -/
def Obligations.CaptureCommands : Prop :=
  (∀ (s : State) (c : CommandFrame), commandParams c.bytes = [] →
      let u := s.capture
      let armed : CaptureUnit := { u with
        state := .armed, buffer := [], header := none, missed := 0
        source := u.settings.source
        perSet := s.tables.sources[u.settings.source].channelCount }
      let off : CaptureUnit :=
        { u with state := .off, buffer := [], header := none, missed := 0 }
      (Accepts 0x50 s c →
          (u.state = .off →
              exec .armCapture s = .next (answered false c .done [] { s with capture := armed }))
            ∧ (u.state ≠ .off → exec .armCapture s = .next (answered false c .wrongState [] s)))
        ∧ (Accepts 0x53 s c →
          (u.state = .held → exec .releaseCapture s = .next (answered false c .done []
              { s with capture := if u.settings.autoRearm then armed else off }))
            ∧ (u.state ≠ .held → exec .releaseCapture s = .next (answered false c .wrongState [] s)))
        ∧ (Accepts 0x54 s c →
          exec .disarmCapture s = .next (answered false c .done [] { s with capture := off })))
    ∧ (∀ (s : State) (c : CommandFrame),
      Accepts 0x51 s c → commandParams c.bytes = [] →
      let u := s.capture
      let missed := min 255 (u.missed + 1)
      let pre := min u.settings.preTrigger u.buffer.length
      let cause : CaptureCause :=
        .command (256 * (c.bytes.getD 5 0).toNat + (c.bytes.getD 6 0).toNat)
      (u.state = .off → exec .triggerCapture s =
          .next (answered false c .wrongState [] s))
        ∧ (u.state = .armed → exec .triggerCapture s = .next (answered false c .done
            [0x02#8, BitVec.ofNat 8 (pre / 256), BitVec.ofNat 8 pre]
            { s with capture := captureFired cause s.localTime u }))
        ∧ ((u.state = .post ∨ u.state = .held) →
          exec .triggerCapture s = .next (answered false c .done
            [if u.state = .post then 0x02#8 else 0x03#8, BitVec.ofNat 8 (missed / 256),
              BitVec.ofNat 8 missed]
            { s with capture := { u with missed := missed } })))

/-- R142: READ CAPTURE in HELD, of 1 to 32 sets that the capture holds, is answered DONE with header,
missed-trigger count and sets and changes nothing; the result is 30 bytes and 8 + 4 × values per set
for each set. Other counts are refused BAD_PARAM, and every READ CAPTURE outside HELD BUSY. The layout of
the header is log 17 and the two bytes of the count are log 15, both read from the spec by inference. -/
def Obligations.CaptureIsRead : Prop :=
  ∀ (s : State) (c : CommandFrame) (a b n : Byte),
    Accepts 0x52 s c → commandParams c.bytes = [a, b, n] →
      let i := 256 * a.toNat + b.toNat
      (s.capture.state ≠ .held → exec .readCapture s = .next (answered false c .busy [] s))
        ∧ ∀ h total, s.capture.state = .held → s.capture.header = some h → h.total = some total →
          ((n.toNat < 1 ∨ 32 < n.toNat ∨ total < i + n.toNat) →
              exec .readCapture s = .next (answered false c .badParam [] s))
            ∧ (1 ≤ n.toNat → n.toNat ≤ 32 → i + n.toNat ≤ total →
              exec .readCapture s =
                  .next (answered false c .done (s.capture.readout i n.toNat) s)
                ∧ s.capture.readout i n.toNat
                  = putHeaderItem (some h) ++ put2 s.capture.missed
                    ++ ((s.capture.buffer.drop i).take n.toNat).flatMap
                      (putCapturedSet s.capture.perSet)
                ∧ (CaptureLegal s → (s.capture.readout i n.toNat).length =
                  30 + n.toNat * (8 + 4 * s.capture.perSet)))

/-- R136, R139: in ARMED the buffer is the ring of the 4,096 most recent sets; in POST the unit takes the
sets that follow until it holds 4,096 and is then HELD with that total, not truncated. -/
def Obligations.CaptureKeepsTheLatestSets : Prop :=
  ∀ (u : CaptureUnit) (sets : List SampleSet),
    let after := sets.foldl (fun u ss => u.takeSet ss) u
    (u.state = .armed → u.buffer.length ≤ 4096 →
        after = { u with
          buffer := (u.buffer ++ sets).drop ((u.buffer ++ sets).length - 4096) })
      ∧ (u.state = .post → u.buffer.length + sets.length < 4096 →
        after = { u with buffer := u.buffer ++ sets })
      ∧ (∀ h, u.state = .post → u.buffer.length < 4096 → u.header = some h →
        4096 ≤ u.buffer.length + sets.length →
        after = { u with
          state := .held, buffer := (u.buffer ++ sets).take 4096
          header := some { h with total := some 4096, truncated := false } })

/-! ### The settings store and write protection -/

/-- R168, R169, R172: STORE TABLE with the table memory and an IDLE store unit marks the image invalid and
begins to program a copy of the working table; its completion makes that copy the image and marks it valid, or
fails and is reported: STORE_FAILED with the table number as subject and detail. A table under a stored lock,
the freeze flag or the key refuses it PROTECTED, a busy store unit BUSY, a table that does not exist
BAD_PARAM. -/
def Obligations.StoringATable : Prop :=
  (∀ (s : State) (c : CommandFrame) (n : Byte) (id : TableId),
      Accepts 0x30 s c → commandParams c.bytes = [n] → tableOf? n.toNat = some id →
        (s.store.op = .idle → s.inForce.locks[id.num] = false → s.protection.freeze = false →
            (s.inForce.mode = .opened ∨ s.maintenanceClosed = true) → HasMemory s →
            exec .storeTable s = .next (released (answered false c .inProgress [] { s with
              store := { s.store with op := .storing (s.tables.image id), outcome := .none
                                      valid := s.store.valid.set id.num.val false } })))
          ∧ (s.command.requested = false → s.store.op ≠ .idle →
            exec .storeTable s = .next (answered false c .busy [] s))
          ∧ (s.command.requested = false → s.store.op = .idle →
            (s.inForce.locks[id.num] = true ∨ s.protection.freeze = true
              ∨ (s.inForce.mode = .keyed ∧ s.maintenanceClosed = false)) →
            exec .storeTable s = .next (answered false c .protected_ [] s)))
    ∧ (∀ (s : State) (c : CommandFrame) (n : Byte),
      Accepts 0x30 s c → commandParams c.bytes = [n] → 8 ≤ n.toNat → s.command.requested = false →
        exec .storeTable s = .next (answered false c .badParam [] s))
    ∧ ∀ (s : State) (img : TableImage), s.powered = true → s.store.op = .storing img →
      (∃ u, exec (.storeProgrammingComplete true) s = .next { s with
            store := { s.store with images := u, valid := s.store.valid.set img.table.num.val true
                                    op := .idle, outcome := .doneOk (some img.table) none } }
          ∧ u.image img.table = img ∧ ∀ other, other ≠ img.table →
            u.image other = s.store.images.image other)
        ∧ (TakesFaults s →
          exec (.storeProgrammingComplete false) s = .next (faultTaken .storeFailed
            img.table.num.val (.number img.table.num.val) { s with
              store := { s.store with op := .idle, outcome := .failed (some img.table) } }))

/-- R144, R170, R171: RESTORE TABLE of a valid image is answered IN_PROGRESS and asks for the table memory, an
invalid one WRONG_STATE, a busy store unit BUSY, a table that does not exist BAD_PARAM; the completion of the
copy makes the working tables the repair of the tables with the image in place, releases the memory and gives
the outcome with the entries repaired. Every entry changed, by the image or by repair, acts on the running
blocks as a permitted write of its content, and no other does; a GENERAL entry that changes the capture source
or the pre-trigger count takes an ARMED or POST capture unit to OFF. They act one after another, those of the
restored table first (log 24), and nothing else changes but by the release of the memory. That the event
changes nothing while the memory has not been given is the model's choice (log 2). -/
def Obligations.RestoringATable : Prop :=
  (∀ (s : State) (c : CommandFrame) (n : Byte) (id : TableId),
      Accepts 0x31 s c → commandParams c.bytes = [n] → tableOf? n.toNat = some id →
        (s.store.op = .idle → s.store.valid[id.num] = true →
            exec .restoreTable s = .next (answered false c .inProgress [] { s with
              store := { s.store with op := .restoring id, outcome := .none }
              memOwner := if s.memOwner = .free then .store else s.memOwner }))
          ∧ (s.store.op = .idle → s.store.valid[id.num] = false →
            exec .restoreTable s = .next (answered false c .wrongState [] s))
          ∧ (s.store.op ≠ .idle → exec .restoreTable s = .next (answered false c .busy [] s)))
    ∧ (∀ (s : State) (c : CommandFrame) (n : Byte),
      Accepts 0x31 s c → commandParams c.bytes = [n] → 8 ≤ n.toNat →
        exec .restoreTable s = .next (answered false c .badParam [] s))
    ∧ ∀ (ties : Ties) (s : State) (id : TableId), s.powered = true → s.store.op = .restoring id →
      (s.memOwner ≠ .store → exec (.restoreCopyComplete ties) s = .next s)
        ∧ (s.memOwner = .store →
          ∃ t copied, exec (.restoreCopyComplete ties) s = .next t
            ∧ (∀ other, copied.image other =
                if other = id then s.store.images.image id else s.tables.image other)
            ∧ t.tables = repair copied
            ∧ (∃ (ws : List EntryWrite) (u : State), (ws.map (restoreRank id)).Pairwise (· < ·)
                ∧ (∀ w, w ∈ ws ↔ replaced t.tables w = t.tables ∧ replaced s.tables w ≠ s.tables)
                ∧ u = ws.foldl (fun s w => restoredActs w s) { s with ties := ties }
                ∧ t = { u with
                    store := t.store, channels := t.channels, rotation := t.rotation
                    engine := t.engine, memOwner := t.memOwner, ties := [] }
                ∧ ((∀ c : Fin 16, u.channels[c].requests = false) → t.channels = u.channels
                    ∧ t.rotation = u.rotation)
                ∧ ((∀ c, u.engine ≠ .waiting c none) → t.channels = u.channels
                    ∧ t.rotation = u.rotation))
            ∧ t.store = { s.store with op := .idle
                                       outcome := .doneOk (some id)
                                         (some (repairedCount copied (repair copied))) }
            ∧ (s.engine = .idle → t.memOwner = .free ∧ t.engine = .idle)
            ∧ (t.tables = s.tables → (∀ c w, s.engine = .waiting c (some w) →
                t.memOwner = .engine ∧ t.engine = .evaluating c w))
            ∧ t.opState = s.opState ∧ t.command = s.command ∧ t.protection = s.protection
            ∧ t.lineA = s.lineA ∧ t.localTime = s.localTime)

/-- R177: WRITE PROTECTION programs a new record, one generation on, into the copy not in force, which is
invalid meanwhile, while the record in force stays so; its completion puts the new record in force, or
fails, is reported as STORE_FAILED with subject 255, and leaves the old one. A mode or a group out of range is
refused BAD_PARAM, before a busy store unit refuses it BUSY and the freeze flag or the key PROTECTED. The
detail of that fault is absent, as 11.1 lists it. -/
def Obligations.WritingProtection : Prop :=
  (∀ (s : State) (c : CommandFrame) (r : RawProtection) (p : Protection),
      Accepts 0x3A s c → ProtectionLegal s → parseProtection (commandParams c.bytes) = some r →
      r.typed = some p →
        (s.store.op ≠ .idle → exec .writeProtection s = .next (answered false c .busy [] s))
          ∧ (s.store.op = .idle → (s.protection.freeze = true
              ∨ (s.inForce.mode = .keyed ∧ s.maintenanceClosed = false)) →
            exec .writeProtection s = .next (answered false c .protected_ [] s))
          ∧ (s.store.op = .idle → s.protection.freeze = false →
            (s.inForce.mode = .opened ∨ s.maintenanceClosed = true) →
            ∃ a b, exec .writeProtection s = .next (answered false c .inProgress [] { s with
                store := { s.store with
                  copy0 := a, copy1 := b, op := .storingProtection, outcome := .none } })
              ∧ State.inForce { s with store := { s.store with copy0 := a, copy1 := b } } = s.inForce
              ∧ ((a = s.store.copy0 ∧ a.valid = true ∧ b =
                    { content := p, generation := (a.generation + 1) % 256, valid := false })
                ∨ (b = s.store.copy1 ∧ b.valid = true ∧ a =
                    { content := p, generation := (b.generation + 1) % 256, valid := false }))))
    ∧ (∀ r : RawProtection,
      match r.typed with
      | none => 1 < r.mode ∨ 3 < r.first ∨ 3 < r.last
      | some p => r.mode = (if p.mode = .keyed then 1 else 0) ∧ p.first.val = r.first
        ∧ p.last.val = r.last ∧ p.complement = r.complement ∧ p.lockDefault = r.lockDefault
        ∧ ∀ i : Fin 8, p.locks[i] = decide (r.locks / 2 ^ i.val % 2 = 1))
    ∧ (∀ (s : State) (c : CommandFrame) (r : RawProtection), Accepts 0x3A s c →
      parseProtection (commandParams c.bytes) = some r → r.typed = none →
        exec .writeProtection s = .next (answered false c .badParam [] s))
    ∧ ∀ (s : State), s.powered = true → ProtectionLegal s → s.store.op = .storingProtection →
      (∃ t, exec (.protectionProgrammingComplete true) s = .next t
          ∧ t = { s with store := t.store } ∧ t.store.op = .idle
          ∧ t.store.outcome = .doneOk none none ∧ t.store.copy0.valid = true
          ∧ t.store.copy1.valid = true
          ∧ t.inForce = (if s.store.copy0.valid then s.store.copy1.content
              else s.store.copy0.content))
        ∧ (TakesFaults s →
          exec (.protectionProgrammingComplete false) s = .next (faultTaken .storeFailed 255 .absent
            { s with store := { s.store with op := .idle, outcome := .failed none } }))

/-- R175, R176, R178: SET RUNTIME LOCK sets the lock of one table, always; CLEAR RUNTIME LOCK clears it
unless the freeze flag or the key refuses; FREEZE PROTECTION sets the freeze flag. The replies to the
first two give the eight locks, one yes/no byte each (log 19); a table that does not exist is refused
BAD_PARAM. -/
def Obligations.RuntimeLocksAndFreeze : Prop :=
  ∀ (s : State) (c : CommandFrame),
    (∀ n : Byte, commandParams c.bytes = [n] →
        (Accepts 0x38 s c ∧ 8 ≤ n.toNat →
            exec .setRuntimeLock s = .next (answered false c .badParam [] s))
          ∧ (Accepts 0x39 s c ∧ 8 ≤ n.toNat →
            exec .clearRuntimeLock s = .next (answered false c .badParam [] s))
          ∧ ∀ id : Fin 8, n.toNat = id.val →
            let locks := fun b => s.protection.runtime.set id.val b
            let report := fun b => (locks b).toList.map fun x => if x then 0x01#8 else 0x00#8
            let refuses := s.protection.freeze = true
              ∨ (s.inForce.mode = .keyed ∧ s.maintenanceClosed = false)
            (Accepts 0x38 s c → exec .setRuntimeLock s =
                .next (answered false c .done (report true)
                  { s with protection := { s.protection with runtime := locks true } }))
              ∧ (Accepts 0x39 s c → ¬ refuses → exec .clearRuntimeLock s =
                .next (answered false c .done (report false)
                  { s with protection := { s.protection with runtime := locks false } }))
              ∧ (Accepts 0x39 s c → refuses →
                exec .clearRuntimeLock s = .next (answered false c .protected_ [] s)))
      ∧ (Accepts 0x3B s c → commandParams c.bytes = [] →
        exec .freezeProtection s = .next (answered false c .done []
          { s with protection := { s.protection with freeze := true } }))

/-! ### Time and the maintenance line -/

/-- R175, R186: the maintenance line follows its contact, with supply or without (log 25), and nothing else
changes; one millisecond adds one to local time, from 4,294,967,295 to 0, and nothing else changes, since
the timers are no counts but events (log 6, the model's choice). -/
def Obligations.TickAndMaintenanceLine : Prop :=
  (∀ (s : State) (closed : Bool),
      exec (.maintenanceLineChange closed) s = .next { s with maintenanceClosed := closed })
    ∧ ∀ s : State, s.powered = true → ∃ t, exec .localTimeTick s = .next t
      ∧ t = { s with localTime := t.localTime }
      ∧ t.localTime.toNat = (if s.localTime.toNat = 4294967295 then 0 else s.localTime.toNat + 1)
end

