-- ==== Sys2Proof/Laws/State.lean ====
section
/-! SUPPORT. What each plain update of one part of the state leaves as it was: one conjunction for each
update, with one equation for each field it does not touch, for `simp`. -/

namespace Sys2Proof.Machine

variable (s : State)

@[simp] theorem setOut_keeps (l : Line) (o : LineOut) :
    (setOut l o s).powered = s.powered ∧ (setOut l o s).maintenanceClosed = s.maintenanceClosed ∧
    (setOut l o s).localTime = s.localTime ∧ (setOut l o s).opState = s.opState ∧
    (setOut l o s).loadedTables = s.loadedTables ∧ (setOut l o s).bootStation = s.bootStation ∧
    (setOut l o s).bootStreamType = s.bootStreamType ∧ (setOut l o s).tables = s.tables ∧
    (setOut l o s).sources = s.sources ∧ (setOut l o s).lastGap = s.lastGap ∧
    (setOut l o s).lostSources = s.lostSources ∧ (setOut l o s).trackers = s.trackers ∧
    (setOut l o s).channels = s.channels ∧ (setOut l o s).rotation = s.rotation ∧
    (setOut l o s).engine = s.engine ∧ (setOut l o s).memOwner = s.memOwner ∧
    (setOut l o s).checks = s.checks ∧ (setOut l o s).records = s.records ∧
    (setOut l o s).capture = s.capture ∧ (setOut l o s).command = s.command ∧
    (setOut l o s).store = s.store ∧ (setOut l o s).protection = s.protection ∧
    (setOut l o s).fault = s.fault ∧ (setOut l o s).counters = s.counters ∧
    (setOut l o s).ties = s.ties ∧ (setOut l o s).pending = s.pending :=
  by cases l <;> exact ⟨rfl, rfl, rfl, rfl, rfl, rfl, rfl, rfl, rfl, rfl, rfl, rfl, rfl, rfl, rfl, rfl, rfl, rfl, rfl, rfl, rfl, rfl, rfl, rfl, rfl, rfl⟩

@[simp] theorem onCapture_keeps (f : CaptureUnit → CaptureUnit) :
    (onCapture f s).powered = s.powered ∧
    (onCapture f s).maintenanceClosed = s.maintenanceClosed ∧
    (onCapture f s).localTime = s.localTime ∧ (onCapture f s).opState = s.opState ∧
    (onCapture f s).loadedTables = s.loadedTables ∧ (onCapture f s).bootStation = s.bootStation ∧
    (onCapture f s).bootStreamType = s.bootStreamType ∧ (onCapture f s).tables = s.tables ∧
    (onCapture f s).sources = s.sources ∧ (onCapture f s).lastGap = s.lastGap ∧
    (onCapture f s).lostSources = s.lostSources ∧ (onCapture f s).trackers = s.trackers ∧
    (onCapture f s).channels = s.channels ∧ (onCapture f s).rotation = s.rotation ∧
    (onCapture f s).engine = s.engine ∧ (onCapture f s).memOwner = s.memOwner ∧
    (onCapture f s).checks = s.checks ∧ (onCapture f s).records = s.records ∧
    (onCapture f s).lineA = s.lineA ∧ (onCapture f s).lineB = s.lineB ∧
    (onCapture f s).command = s.command ∧ (onCapture f s).store = s.store ∧
    (onCapture f s).protection = s.protection ∧ (onCapture f s).fault = s.fault ∧
    (onCapture f s).counters = s.counters ∧ (onCapture f s).ties = s.ties ∧
    (onCapture f s).pending = s.pending :=
  ⟨rfl, rfl, rfl, rfl, rfl, rfl, rfl, rfl, rfl, rfl, rfl, rfl, rfl, rfl, rfl, rfl, rfl, rfl, rfl, rfl, rfl, rfl, rfl, rfl, rfl, rfl, rfl⟩

@[simp] theorem onStore_keeps (f : SettingsStore → SettingsStore) :
    (onStore f s).powered = s.powered ∧ (onStore f s).maintenanceClosed = s.maintenanceClosed ∧
    (onStore f s).localTime = s.localTime ∧ (onStore f s).opState = s.opState ∧
    (onStore f s).loadedTables = s.loadedTables ∧ (onStore f s).bootStation = s.bootStation ∧
    (onStore f s).bootStreamType = s.bootStreamType ∧ (onStore f s).tables = s.tables ∧
    (onStore f s).sources = s.sources ∧ (onStore f s).lastGap = s.lastGap ∧
    (onStore f s).lostSources = s.lostSources ∧ (onStore f s).trackers = s.trackers ∧
    (onStore f s).channels = s.channels ∧ (onStore f s).rotation = s.rotation ∧
    (onStore f s).engine = s.engine ∧ (onStore f s).memOwner = s.memOwner ∧
    (onStore f s).checks = s.checks ∧ (onStore f s).records = s.records ∧
    (onStore f s).lineA = s.lineA ∧ (onStore f s).lineB = s.lineB ∧
    (onStore f s).capture = s.capture ∧ (onStore f s).command = s.command ∧
    (onStore f s).protection = s.protection ∧ (onStore f s).fault = s.fault ∧
    (onStore f s).counters = s.counters ∧ (onStore f s).ties = s.ties ∧
    (onStore f s).pending = s.pending :=
  ⟨rfl, rfl, rfl, rfl, rfl, rfl, rfl, rfl, rfl, rfl, rfl, rfl, rfl, rfl, rfl, rfl, rfl, rfl, rfl, rfl, rfl, rfl, rfl, rfl, rfl, rfl, rfl⟩

@[simp] theorem onTables_keeps (f : Tables → Tables) :
    (onTables f s).powered = s.powered ∧ (onTables f s).maintenanceClosed = s.maintenanceClosed ∧
    (onTables f s).localTime = s.localTime ∧ (onTables f s).opState = s.opState ∧
    (onTables f s).loadedTables = s.loadedTables ∧ (onTables f s).bootStation = s.bootStation ∧
    (onTables f s).bootStreamType = s.bootStreamType ∧ (onTables f s).sources = s.sources ∧
    (onTables f s).lastGap = s.lastGap ∧ (onTables f s).lostSources = s.lostSources ∧
    (onTables f s).trackers = s.trackers ∧ (onTables f s).channels = s.channels ∧
    (onTables f s).rotation = s.rotation ∧ (onTables f s).engine = s.engine ∧
    (onTables f s).memOwner = s.memOwner ∧ (onTables f s).checks = s.checks ∧
    (onTables f s).records = s.records ∧ (onTables f s).lineA = s.lineA ∧
    (onTables f s).lineB = s.lineB ∧ (onTables f s).capture = s.capture ∧
    (onTables f s).command = s.command ∧ (onTables f s).store = s.store ∧
    (onTables f s).protection = s.protection ∧ (onTables f s).fault = s.fault ∧
    (onTables f s).counters = s.counters ∧ (onTables f s).ties = s.ties ∧
    (onTables f s).pending = s.pending :=
  ⟨rfl, rfl, rfl, rfl, rfl, rfl, rfl, rfl, rfl, rfl, rfl, rfl, rfl, rfl, rfl, rfl, rfl, rfl, rfl, rfl, rfl, rfl, rfl, rfl, rfl, rfl, rfl⟩

@[simp] theorem onSource_keeps (i : Fin 8) (f : SourceRecord → SourceRecord) :
    (onSource i f s).powered = s.powered ∧
    (onSource i f s).maintenanceClosed = s.maintenanceClosed ∧
    (onSource i f s).localTime = s.localTime ∧ (onSource i f s).opState = s.opState ∧
    (onSource i f s).loadedTables = s.loadedTables ∧
    (onSource i f s).bootStation = s.bootStation ∧
    (onSource i f s).bootStreamType = s.bootStreamType ∧ (onSource i f s).tables = s.tables ∧
    (onSource i f s).lastGap = s.lastGap ∧ (onSource i f s).lostSources = s.lostSources ∧
    (onSource i f s).trackers = s.trackers ∧ (onSource i f s).channels = s.channels ∧
    (onSource i f s).rotation = s.rotation ∧ (onSource i f s).engine = s.engine ∧
    (onSource i f s).memOwner = s.memOwner ∧ (onSource i f s).checks = s.checks ∧
    (onSource i f s).records = s.records ∧ (onSource i f s).lineA = s.lineA ∧
    (onSource i f s).lineB = s.lineB ∧ (onSource i f s).capture = s.capture ∧
    (onSource i f s).command = s.command ∧ (onSource i f s).store = s.store ∧
    (onSource i f s).protection = s.protection ∧ (onSource i f s).fault = s.fault ∧
    (onSource i f s).counters = s.counters ∧ (onSource i f s).ties = s.ties ∧
    (onSource i f s).pending = s.pending :=
  ⟨rfl, rfl, rfl, rfl, rfl, rfl, rfl, rfl, rfl, rfl, rfl, rfl, rfl, rfl, rfl, rfl, rfl, rfl, rfl, rfl, rfl, rfl, rfl, rfl, rfl, rfl, rfl⟩

@[simp] theorem onSourceCounters_keeps (i : Fin 8) (f : SourceCounters → SourceCounters) :
    (onSourceCounters i f s).powered = s.powered ∧
    (onSourceCounters i f s).maintenanceClosed = s.maintenanceClosed ∧
    (onSourceCounters i f s).localTime = s.localTime ∧
    (onSourceCounters i f s).opState = s.opState ∧
    (onSourceCounters i f s).loadedTables = s.loadedTables ∧
    (onSourceCounters i f s).bootStation = s.bootStation ∧
    (onSourceCounters i f s).bootStreamType = s.bootStreamType ∧
    (onSourceCounters i f s).tables = s.tables ∧ (onSourceCounters i f s).sources = s.sources ∧
    (onSourceCounters i f s).lastGap = s.lastGap ∧
    (onSourceCounters i f s).lostSources = s.lostSources ∧
    (onSourceCounters i f s).trackers = s.trackers ∧
    (onSourceCounters i f s).channels = s.channels ∧
    (onSourceCounters i f s).rotation = s.rotation ∧ (onSourceCounters i f s).engine = s.engine ∧
    (onSourceCounters i f s).memOwner = s.memOwner ∧ (onSourceCounters i f s).checks = s.checks ∧
    (onSourceCounters i f s).records = s.records ∧ (onSourceCounters i f s).lineA = s.lineA ∧
    (onSourceCounters i f s).lineB = s.lineB ∧ (onSourceCounters i f s).capture = s.capture ∧
    (onSourceCounters i f s).command = s.command ∧ (onSourceCounters i f s).store = s.store ∧
    (onSourceCounters i f s).protection = s.protection ∧
    (onSourceCounters i f s).fault = s.fault ∧ (onSourceCounters i f s).ties = s.ties ∧
    (onSourceCounters i f s).pending = s.pending :=
  ⟨rfl, rfl, rfl, rfl, rfl, rfl, rfl, rfl, rfl, rfl, rfl, rfl, rfl, rfl, rfl, rfl, rfl, rfl, rfl, rfl, rfl, rfl, rfl, rfl, rfl, rfl, rfl⟩

@[simp] theorem onChannelCounters_keeps (c : Fin 16) (f : ChannelCounters → ChannelCounters) :
    (onChannelCounters c f s).powered = s.powered ∧
    (onChannelCounters c f s).maintenanceClosed = s.maintenanceClosed ∧
    (onChannelCounters c f s).localTime = s.localTime ∧
    (onChannelCounters c f s).opState = s.opState ∧
    (onChannelCounters c f s).loadedTables = s.loadedTables ∧
    (onChannelCounters c f s).bootStation = s.bootStation ∧
    (onChannelCounters c f s).bootStreamType = s.bootStreamType ∧
    (onChannelCounters c f s).tables = s.tables ∧ (onChannelCounters c f s).sources = s.sources ∧
    (onChannelCounters c f s).lastGap = s.lastGap ∧
    (onChannelCounters c f s).lostSources = s.lostSources ∧
    (onChannelCounters c f s).trackers = s.trackers ∧
    (onChannelCounters c f s).channels = s.channels ∧
    (onChannelCounters c f s).rotation = s.rotation ∧
    (onChannelCounters c f s).engine = s.engine ∧
    (onChannelCounters c f s).memOwner = s.memOwner ∧
    (onChannelCounters c f s).checks = s.checks ∧ (onChannelCounters c f s).records = s.records ∧
    (onChannelCounters c f s).lineA = s.lineA ∧ (onChannelCounters c f s).lineB = s.lineB ∧
    (onChannelCounters c f s).capture = s.capture ∧
    (onChannelCounters c f s).command = s.command ∧ (onChannelCounters c f s).store = s.store ∧
    (onChannelCounters c f s).protection = s.protection ∧
    (onChannelCounters c f s).fault = s.fault ∧ (onChannelCounters c f s).ties = s.ties ∧
    (onChannelCounters c f s).pending = s.pending :=
  ⟨rfl, rfl, rfl, rfl, rfl, rfl, rfl, rfl, rfl, rfl, rfl, rfl, rfl, rfl, rfl, rfl, rfl, rfl, rfl, rfl, rfl, rfl, rfl, rfl, rfl, rfl, rfl⟩

@[simp] theorem countAbandoned_keeps (c : Fin 16) (n : Nat) :
    (countAbandoned c n s).powered = s.powered ∧
    (countAbandoned c n s).maintenanceClosed = s.maintenanceClosed ∧
    (countAbandoned c n s).localTime = s.localTime ∧ (countAbandoned c n s).opState = s.opState ∧
    (countAbandoned c n s).loadedTables = s.loadedTables ∧
    (countAbandoned c n s).bootStation = s.bootStation ∧
    (countAbandoned c n s).bootStreamType = s.bootStreamType ∧
    (countAbandoned c n s).tables = s.tables ∧ (countAbandoned c n s).sources = s.sources ∧
    (countAbandoned c n s).lastGap = s.lastGap ∧
    (countAbandoned c n s).lostSources = s.lostSources ∧
    (countAbandoned c n s).trackers = s.trackers ∧ (countAbandoned c n s).channels = s.channels ∧
    (countAbandoned c n s).rotation = s.rotation ∧ (countAbandoned c n s).engine = s.engine ∧
    (countAbandoned c n s).memOwner = s.memOwner ∧ (countAbandoned c n s).checks = s.checks ∧
    (countAbandoned c n s).records = s.records ∧ (countAbandoned c n s).lineA = s.lineA ∧
    (countAbandoned c n s).lineB = s.lineB ∧ (countAbandoned c n s).capture = s.capture ∧
    (countAbandoned c n s).command = s.command ∧ (countAbandoned c n s).store = s.store ∧
    (countAbandoned c n s).protection = s.protection ∧ (countAbandoned c n s).fault = s.fault ∧
    (countAbandoned c n s).ties = s.ties ∧ (countAbandoned c n s).pending = s.pending :=
  ⟨rfl, rfl, rfl, rfl, rfl, rfl, rfl, rfl, rfl, rfl, rfl, rfl, rfl, rfl, rfl, rfl, rfl, rfl, rfl, rfl, rfl, rfl, rfl, rfl, rfl, rfl, rfl⟩

@[simp] theorem countForwardDrop_keeps (l : Line) :
    (countForwardDrop l s).powered = s.powered ∧
    (countForwardDrop l s).maintenanceClosed = s.maintenanceClosed ∧
    (countForwardDrop l s).localTime = s.localTime ∧ (countForwardDrop l s).opState = s.opState ∧
    (countForwardDrop l s).loadedTables = s.loadedTables ∧
    (countForwardDrop l s).bootStation = s.bootStation ∧
    (countForwardDrop l s).bootStreamType = s.bootStreamType ∧
    (countForwardDrop l s).tables = s.tables ∧ (countForwardDrop l s).sources = s.sources ∧
    (countForwardDrop l s).lastGap = s.lastGap ∧
    (countForwardDrop l s).lostSources = s.lostSources ∧
    (countForwardDrop l s).trackers = s.trackers ∧ (countForwardDrop l s).channels = s.channels ∧
    (countForwardDrop l s).rotation = s.rotation ∧ (countForwardDrop l s).engine = s.engine ∧
    (countForwardDrop l s).memOwner = s.memOwner ∧ (countForwardDrop l s).checks = s.checks ∧
    (countForwardDrop l s).records = s.records ∧ (countForwardDrop l s).lineA = s.lineA ∧
    (countForwardDrop l s).lineB = s.lineB ∧ (countForwardDrop l s).capture = s.capture ∧
    (countForwardDrop l s).command = s.command ∧ (countForwardDrop l s).store = s.store ∧
    (countForwardDrop l s).protection = s.protection ∧ (countForwardDrop l s).fault = s.fault ∧
    (countForwardDrop l s).ties = s.ties ∧ (countForwardDrop l s).pending = s.pending :=
  by cases l <;> exact ⟨rfl, rfl, rfl, rfl, rfl, rfl, rfl, rfl, rfl, rfl, rfl, rfl, rfl, rfl, rfl, rfl, rfl, rfl, rfl, rfl, rfl, rfl, rfl, rfl, rfl, rfl, rfl⟩

@[simp] theorem countDrop_keeps (r : OutRecord) :
    (countDrop r s).powered = s.powered ∧
    (countDrop r s).maintenanceClosed = s.maintenanceClosed ∧
    (countDrop r s).localTime = s.localTime ∧ (countDrop r s).opState = s.opState ∧
    (countDrop r s).loadedTables = s.loadedTables ∧ (countDrop r s).bootStation = s.bootStation ∧
    (countDrop r s).bootStreamType = s.bootStreamType ∧ (countDrop r s).tables = s.tables ∧
    (countDrop r s).sources = s.sources ∧ (countDrop r s).lastGap = s.lastGap ∧
    (countDrop r s).lostSources = s.lostSources ∧ (countDrop r s).trackers = s.trackers ∧
    (countDrop r s).channels = s.channels ∧ (countDrop r s).rotation = s.rotation ∧
    (countDrop r s).engine = s.engine ∧ (countDrop r s).memOwner = s.memOwner ∧
    (countDrop r s).checks = s.checks ∧ (countDrop r s).records = s.records ∧
    (countDrop r s).lineA = s.lineA ∧ (countDrop r s).lineB = s.lineB ∧
    (countDrop r s).capture = s.capture ∧ (countDrop r s).command = s.command ∧
    (countDrop r s).store = s.store ∧ (countDrop r s).protection = s.protection ∧
    (countDrop r s).fault = s.fault ∧ (countDrop r s).ties = s.ties ∧
    (countDrop r s).pending = s.pending :=
  by cases r <;> exact ⟨rfl, rfl, rfl, rfl, rfl, rfl, rfl, rfl, rfl, rfl, rfl, rfl, rfl, rfl, rfl, rfl, rfl, rfl, rfl, rfl, rfl, rfl, rfl, rfl, rfl, rfl, rfl⟩

@[simp] theorem countForeign_keeps  :
    (countForeign s).powered = s.powered ∧
    (countForeign s).maintenanceClosed = s.maintenanceClosed ∧
    (countForeign s).localTime = s.localTime ∧ (countForeign s).opState = s.opState ∧
    (countForeign s).loadedTables = s.loadedTables ∧
    (countForeign s).bootStation = s.bootStation ∧
    (countForeign s).bootStreamType = s.bootStreamType ∧ (countForeign s).tables = s.tables ∧
    (countForeign s).sources = s.sources ∧ (countForeign s).lastGap = s.lastGap ∧
    (countForeign s).lostSources = s.lostSources ∧ (countForeign s).trackers = s.trackers ∧
    (countForeign s).channels = s.channels ∧ (countForeign s).rotation = s.rotation ∧
    (countForeign s).engine = s.engine ∧ (countForeign s).memOwner = s.memOwner ∧
    (countForeign s).checks = s.checks ∧ (countForeign s).records = s.records ∧
    (countForeign s).lineA = s.lineA ∧ (countForeign s).lineB = s.lineB ∧
    (countForeign s).capture = s.capture ∧ (countForeign s).command = s.command ∧
    (countForeign s).store = s.store ∧ (countForeign s).protection = s.protection ∧
    (countForeign s).fault = s.fault ∧ (countForeign s).ties = s.ties ∧
    (countForeign s).pending = s.pending :=
  ⟨rfl, rfl, rfl, rfl, rfl, rfl, rfl, rfl, rfl, rfl, rfl, rfl, rfl, rfl, rfl, rfl, rfl, rfl, rfl, rfl, rfl, rfl, rfl, rfl, rfl, rfl, rfl⟩

@[simp] theorem countStale_keeps (i : Fin 8) :
    (countStale i s).powered = s.powered ∧
    (countStale i s).maintenanceClosed = s.maintenanceClosed ∧
    (countStale i s).localTime = s.localTime ∧ (countStale i s).opState = s.opState ∧
    (countStale i s).loadedTables = s.loadedTables ∧
    (countStale i s).bootStation = s.bootStation ∧
    (countStale i s).bootStreamType = s.bootStreamType ∧ (countStale i s).tables = s.tables ∧
    (countStale i s).sources = s.sources ∧ (countStale i s).lastGap = s.lastGap ∧
    (countStale i s).lostSources = s.lostSources ∧ (countStale i s).trackers = s.trackers ∧
    (countStale i s).channels = s.channels ∧ (countStale i s).rotation = s.rotation ∧
    (countStale i s).engine = s.engine ∧ (countStale i s).memOwner = s.memOwner ∧
    (countStale i s).checks = s.checks ∧ (countStale i s).records = s.records ∧
    (countStale i s).lineA = s.lineA ∧ (countStale i s).lineB = s.lineB ∧
    (countStale i s).capture = s.capture ∧ (countStale i s).command = s.command ∧
    (countStale i s).store = s.store ∧ (countStale i s).protection = s.protection ∧
    (countStale i s).fault = s.fault ∧ (countStale i s).ties = s.ties ∧
    (countStale i s).pending = s.pending :=
  ⟨rfl, rfl, rfl, rfl, rfl, rfl, rfl, rfl, rfl, rfl, rfl, rfl, rfl, rfl, rfl, rfl, rfl, rfl, rfl, rfl, rfl, rfl, rfl, rfl, rfl, rfl, rfl⟩

@[simp] theorem noteFault_keeps (k : FaultKind) :
    (noteFault k s).powered = s.powered ∧
    (noteFault k s).maintenanceClosed = s.maintenanceClosed ∧
    (noteFault k s).localTime = s.localTime ∧ (noteFault k s).opState = s.opState ∧
    (noteFault k s).loadedTables = s.loadedTables ∧ (noteFault k s).bootStation = s.bootStation ∧
    (noteFault k s).bootStreamType = s.bootStreamType ∧ (noteFault k s).tables = s.tables ∧
    (noteFault k s).sources = s.sources ∧ (noteFault k s).lastGap = s.lastGap ∧
    (noteFault k s).lostSources = s.lostSources ∧ (noteFault k s).trackers = s.trackers ∧
    (noteFault k s).channels = s.channels ∧ (noteFault k s).rotation = s.rotation ∧
    (noteFault k s).engine = s.engine ∧ (noteFault k s).memOwner = s.memOwner ∧
    (noteFault k s).checks = s.checks ∧ (noteFault k s).records = s.records ∧
    (noteFault k s).lineA = s.lineA ∧ (noteFault k s).lineB = s.lineB ∧
    (noteFault k s).capture = s.capture ∧ (noteFault k s).command = s.command ∧
    (noteFault k s).store = s.store ∧ (noteFault k s).protection = s.protection ∧
    (noteFault k s).counters = s.counters ∧ (noteFault k s).ties = s.ties ∧
    (noteFault k s).pending = s.pending :=
  ⟨rfl, rfl, rfl, rfl, rfl, rfl, rfl, rfl, rfl, rfl, rfl, rfl, rfl, rfl, rfl, rfl, rfl, rfl, rfl, rfl, rfl, rfl, rfl, rfl, rfl, rfl, rfl⟩

@[simp] theorem fillFault_keeps (k : FaultKind) (n : Nat) (d : FaultDetail) :
    (fillFault k n d s).powered = s.powered ∧
    (fillFault k n d s).maintenanceClosed = s.maintenanceClosed ∧
    (fillFault k n d s).localTime = s.localTime ∧ (fillFault k n d s).opState = s.opState ∧
    (fillFault k n d s).loadedTables = s.loadedTables ∧
    (fillFault k n d s).bootStation = s.bootStation ∧
    (fillFault k n d s).bootStreamType = s.bootStreamType ∧
    (fillFault k n d s).tables = s.tables ∧ (fillFault k n d s).sources = s.sources ∧
    (fillFault k n d s).lastGap = s.lastGap ∧ (fillFault k n d s).lostSources = s.lostSources ∧
    (fillFault k n d s).trackers = s.trackers ∧ (fillFault k n d s).channels = s.channels ∧
    (fillFault k n d s).rotation = s.rotation ∧ (fillFault k n d s).engine = s.engine ∧
    (fillFault k n d s).memOwner = s.memOwner ∧ (fillFault k n d s).checks = s.checks ∧
    (fillFault k n d s).records = s.records ∧ (fillFault k n d s).lineA = s.lineA ∧
    (fillFault k n d s).lineB = s.lineB ∧ (fillFault k n d s).capture = s.capture ∧
    (fillFault k n d s).command = s.command ∧ (fillFault k n d s).store = s.store ∧
    (fillFault k n d s).protection = s.protection ∧ (fillFault k n d s).counters = s.counters ∧
    (fillFault k n d s).ties = s.ties ∧ (fillFault k n d s).pending = s.pending :=
  ⟨rfl, rfl, rfl, rfl, rfl, rfl, rfl, rfl, rfl, rfl, rfl, rfl, rfl, rfl, rfl, rfl, rfl, rfl, rfl, rfl, rfl, rfl, rfl, rfl, rfl, rfl, rfl⟩

@[simp] theorem putTrackerAt_keeps (t : Fin 2) (tr : Tracker) :
    (putTrackerAt t tr s).powered = s.powered ∧
    (putTrackerAt t tr s).maintenanceClosed = s.maintenanceClosed ∧
    (putTrackerAt t tr s).localTime = s.localTime ∧ (putTrackerAt t tr s).opState = s.opState ∧
    (putTrackerAt t tr s).loadedTables = s.loadedTables ∧
    (putTrackerAt t tr s).bootStation = s.bootStation ∧
    (putTrackerAt t tr s).bootStreamType = s.bootStreamType ∧
    (putTrackerAt t tr s).tables = s.tables ∧ (putTrackerAt t tr s).sources = s.sources ∧
    (putTrackerAt t tr s).lastGap = s.lastGap ∧
    (putTrackerAt t tr s).lostSources = s.lostSources ∧
    (putTrackerAt t tr s).channels = s.channels ∧ (putTrackerAt t tr s).rotation = s.rotation ∧
    (putTrackerAt t tr s).engine = s.engine ∧ (putTrackerAt t tr s).memOwner = s.memOwner ∧
    (putTrackerAt t tr s).checks = s.checks ∧ (putTrackerAt t tr s).records = s.records ∧
    (putTrackerAt t tr s).lineA = s.lineA ∧ (putTrackerAt t tr s).lineB = s.lineB ∧
    (putTrackerAt t tr s).capture = s.capture ∧ (putTrackerAt t tr s).command = s.command ∧
    (putTrackerAt t tr s).store = s.store ∧ (putTrackerAt t tr s).protection = s.protection ∧
    (putTrackerAt t tr s).fault = s.fault ∧ (putTrackerAt t tr s).counters = s.counters ∧
    (putTrackerAt t tr s).ties = s.ties ∧ (putTrackerAt t tr s).pending = s.pending :=
  ⟨rfl, rfl, rfl, rfl, rfl, rfl, rfl, rfl, rfl, rfl, rfl, rfl, rfl, rfl, rfl, rfl, rfl, rfl, rfl, rfl, rfl, rfl, rfl, rfl, rfl, rfl, rfl⟩

@[simp] theorem onReaders_keeps (t : Fin 2) (i : Fin 8) (f : Measurer → Measurer) :
    (onReaders t i f s).powered = s.powered ∧
    (onReaders t i f s).maintenanceClosed = s.maintenanceClosed ∧
    (onReaders t i f s).localTime = s.localTime ∧ (onReaders t i f s).opState = s.opState ∧
    (onReaders t i f s).loadedTables = s.loadedTables ∧
    (onReaders t i f s).bootStation = s.bootStation ∧
    (onReaders t i f s).bootStreamType = s.bootStreamType ∧
    (onReaders t i f s).tables = s.tables ∧ (onReaders t i f s).sources = s.sources ∧
    (onReaders t i f s).lastGap = s.lastGap ∧ (onReaders t i f s).lostSources = s.lostSources ∧
    (onReaders t i f s).channels = s.channels ∧ (onReaders t i f s).rotation = s.rotation ∧
    (onReaders t i f s).engine = s.engine ∧ (onReaders t i f s).memOwner = s.memOwner ∧
    (onReaders t i f s).checks = s.checks ∧ (onReaders t i f s).records = s.records ∧
    (onReaders t i f s).lineA = s.lineA ∧ (onReaders t i f s).lineB = s.lineB ∧
    (onReaders t i f s).capture = s.capture ∧ (onReaders t i f s).command = s.command ∧
    (onReaders t i f s).store = s.store ∧ (onReaders t i f s).protection = s.protection ∧
    (onReaders t i f s).fault = s.fault ∧ (onReaders t i f s).counters = s.counters ∧
    (onReaders t i f s).ties = s.ties ∧ (onReaders t i f s).pending = s.pending :=
  ⟨rfl, rfl, rfl, rfl, rfl, rfl, rfl, rfl, rfl, rfl, rfl, rfl, rfl, rfl, rfl, rfl, rfl, rfl, rfl, rfl, rfl, rfl, rfl, rfl, rfl, rfl, rfl⟩

@[simp] theorem seekOnChannel_keeps (c : Fin 16) (t : Fin 2) :
    (seekOnChannel c t s).powered = s.powered ∧
    (seekOnChannel c t s).maintenanceClosed = s.maintenanceClosed ∧
    (seekOnChannel c t s).localTime = s.localTime ∧ (seekOnChannel c t s).opState = s.opState ∧
    (seekOnChannel c t s).loadedTables = s.loadedTables ∧
    (seekOnChannel c t s).bootStation = s.bootStation ∧
    (seekOnChannel c t s).bootStreamType = s.bootStreamType ∧
    (seekOnChannel c t s).tables = s.tables ∧ (seekOnChannel c t s).sources = s.sources ∧
    (seekOnChannel c t s).lastGap = s.lastGap ∧
    (seekOnChannel c t s).lostSources = s.lostSources ∧
    (seekOnChannel c t s).channels = s.channels ∧ (seekOnChannel c t s).rotation = s.rotation ∧
    (seekOnChannel c t s).engine = s.engine ∧ (seekOnChannel c t s).memOwner = s.memOwner ∧
    (seekOnChannel c t s).checks = s.checks ∧ (seekOnChannel c t s).records = s.records ∧
    (seekOnChannel c t s).lineA = s.lineA ∧ (seekOnChannel c t s).lineB = s.lineB ∧
    (seekOnChannel c t s).capture = s.capture ∧ (seekOnChannel c t s).command = s.command ∧
    (seekOnChannel c t s).store = s.store ∧ (seekOnChannel c t s).protection = s.protection ∧
    (seekOnChannel c t s).fault = s.fault ∧ (seekOnChannel c t s).counters = s.counters ∧
    (seekOnChannel c t s).ties = s.ties ∧ (seekOnChannel c t s).pending = s.pending :=
  ⟨rfl, rfl, rfl, rfl, rfl, rfl, rfl, rfl, rfl, rfl, rfl, rfl, rfl, rfl, rfl, rfl, rfl, rfl, rfl, rfl, rfl, rfl, rfl, rfl, rfl, rfl, rfl⟩

@[simp] theorem clearChecks_keeps (c : Fin 16) :
    (clearChecks c s).powered = s.powered ∧
    (clearChecks c s).maintenanceClosed = s.maintenanceClosed ∧
    (clearChecks c s).localTime = s.localTime ∧ (clearChecks c s).opState = s.opState ∧
    (clearChecks c s).loadedTables = s.loadedTables ∧
    (clearChecks c s).bootStation = s.bootStation ∧
    (clearChecks c s).bootStreamType = s.bootStreamType ∧ (clearChecks c s).tables = s.tables ∧
    (clearChecks c s).sources = s.sources ∧ (clearChecks c s).lastGap = s.lastGap ∧
    (clearChecks c s).lostSources = s.lostSources ∧ (clearChecks c s).trackers = s.trackers ∧
    (clearChecks c s).channels = s.channels ∧ (clearChecks c s).rotation = s.rotation ∧
    (clearChecks c s).engine = s.engine ∧ (clearChecks c s).memOwner = s.memOwner ∧
    (clearChecks c s).records = s.records ∧ (clearChecks c s).lineA = s.lineA ∧
    (clearChecks c s).lineB = s.lineB ∧ (clearChecks c s).capture = s.capture ∧
    (clearChecks c s).command = s.command ∧ (clearChecks c s).store = s.store ∧
    (clearChecks c s).protection = s.protection ∧ (clearChecks c s).fault = s.fault ∧
    (clearChecks c s).counters = s.counters ∧ (clearChecks c s).ties = s.ties ∧
    (clearChecks c s).pending = s.pending :=
  ⟨rfl, rfl, rfl, rfl, rfl, rfl, rfl, rfl, rfl, rfl, rfl, rfl, rfl, rfl, rfl, rfl, rfl, rfl, rfl, rfl, rfl, rfl, rfl, rfl, rfl, rfl, rfl⟩

@[simp] theorem clearAllChecks_keeps  :
    (clearAllChecks s).powered = s.powered ∧
    (clearAllChecks s).maintenanceClosed = s.maintenanceClosed ∧
    (clearAllChecks s).localTime = s.localTime ∧ (clearAllChecks s).opState = s.opState ∧
    (clearAllChecks s).loadedTables = s.loadedTables ∧
    (clearAllChecks s).bootStation = s.bootStation ∧
    (clearAllChecks s).bootStreamType = s.bootStreamType ∧ (clearAllChecks s).tables = s.tables ∧
    (clearAllChecks s).sources = s.sources ∧ (clearAllChecks s).lastGap = s.lastGap ∧
    (clearAllChecks s).lostSources = s.lostSources ∧ (clearAllChecks s).trackers = s.trackers ∧
    (clearAllChecks s).channels = s.channels ∧ (clearAllChecks s).rotation = s.rotation ∧
    (clearAllChecks s).engine = s.engine ∧ (clearAllChecks s).memOwner = s.memOwner ∧
    (clearAllChecks s).records = s.records ∧ (clearAllChecks s).lineA = s.lineA ∧
    (clearAllChecks s).lineB = s.lineB ∧ (clearAllChecks s).capture = s.capture ∧
    (clearAllChecks s).command = s.command ∧ (clearAllChecks s).store = s.store ∧
    (clearAllChecks s).protection = s.protection ∧ (clearAllChecks s).fault = s.fault ∧
    (clearAllChecks s).counters = s.counters ∧ (clearAllChecks s).ties = s.ties ∧
    (clearAllChecks s).pending = s.pending :=
  by simp [clearAllChecks]

@[simp] theorem putRuntimeLock_keeps (t : TableId) (b : Bool) :
    (putRuntimeLock t b s).powered = s.powered ∧
    (putRuntimeLock t b s).maintenanceClosed = s.maintenanceClosed ∧
    (putRuntimeLock t b s).localTime = s.localTime ∧ (putRuntimeLock t b s).opState = s.opState ∧
    (putRuntimeLock t b s).loadedTables = s.loadedTables ∧
    (putRuntimeLock t b s).bootStation = s.bootStation ∧
    (putRuntimeLock t b s).bootStreamType = s.bootStreamType ∧
    (putRuntimeLock t b s).tables = s.tables ∧ (putRuntimeLock t b s).sources = s.sources ∧
    (putRuntimeLock t b s).lastGap = s.lastGap ∧
    (putRuntimeLock t b s).lostSources = s.lostSources ∧
    (putRuntimeLock t b s).trackers = s.trackers ∧ (putRuntimeLock t b s).channels = s.channels ∧
    (putRuntimeLock t b s).rotation = s.rotation ∧ (putRuntimeLock t b s).engine = s.engine ∧
    (putRuntimeLock t b s).memOwner = s.memOwner ∧ (putRuntimeLock t b s).checks = s.checks ∧
    (putRuntimeLock t b s).records = s.records ∧ (putRuntimeLock t b s).lineA = s.lineA ∧
    (putRuntimeLock t b s).lineB = s.lineB ∧ (putRuntimeLock t b s).capture = s.capture ∧
    (putRuntimeLock t b s).command = s.command ∧ (putRuntimeLock t b s).store = s.store ∧
    (putRuntimeLock t b s).fault = s.fault ∧ (putRuntimeLock t b s).counters = s.counters ∧
    (putRuntimeLock t b s).ties = s.ties ∧ (putRuntimeLock t b s).pending = s.pending :=
  ⟨rfl, rfl, rfl, rfl, rfl, rfl, rfl, rfl, rfl, rfl, rfl, rfl, rfl, rfl, rfl, rfl, rfl, rfl, rfl, rfl, rfl, rfl, rfl, rfl, rfl, rfl, rfl⟩

@[simp] theorem emptyFaults_keeps  :
    (emptyFaults s).powered = s.powered ∧
    (emptyFaults s).maintenanceClosed = s.maintenanceClosed ∧
    (emptyFaults s).localTime = s.localTime ∧ (emptyFaults s).opState = s.opState ∧
    (emptyFaults s).loadedTables = s.loadedTables ∧ (emptyFaults s).bootStation = s.bootStation ∧
    (emptyFaults s).bootStreamType = s.bootStreamType ∧ (emptyFaults s).tables = s.tables ∧
    (emptyFaults s).sources = s.sources ∧ (emptyFaults s).lastGap = s.lastGap ∧
    (emptyFaults s).trackers = s.trackers ∧ (emptyFaults s).channels = s.channels ∧
    (emptyFaults s).rotation = s.rotation ∧ (emptyFaults s).engine = s.engine ∧
    (emptyFaults s).memOwner = s.memOwner ∧ (emptyFaults s).checks = s.checks ∧
    (emptyFaults s).records = s.records ∧ (emptyFaults s).lineA = s.lineA ∧
    (emptyFaults s).lineB = s.lineB ∧ (emptyFaults s).capture = s.capture ∧
    (emptyFaults s).command = s.command ∧ (emptyFaults s).store = s.store ∧
    (emptyFaults s).protection = s.protection ∧ (emptyFaults s).counters = s.counters ∧
    (emptyFaults s).ties = s.ties ∧ (emptyFaults s).pending = s.pending :=
  ⟨rfl, rfl, rfl, rfl, rfl, rfl, rfl, rfl, rfl, rfl, rfl, rfl, rfl, rfl, rfl, rfl, rfl, rfl, rfl, rfl, rfl, rfl, rfl, rfl, rfl, rfl⟩

@[simp] theorem beginStoring_keeps (t : TableId) :
    (beginStoring t s).powered = s.powered ∧
    (beginStoring t s).maintenanceClosed = s.maintenanceClosed ∧
    (beginStoring t s).localTime = s.localTime ∧ (beginStoring t s).opState = s.opState ∧
    (beginStoring t s).loadedTables = s.loadedTables ∧
    (beginStoring t s).bootStation = s.bootStation ∧
    (beginStoring t s).bootStreamType = s.bootStreamType ∧ (beginStoring t s).tables = s.tables ∧
    (beginStoring t s).sources = s.sources ∧ (beginStoring t s).lastGap = s.lastGap ∧
    (beginStoring t s).lostSources = s.lostSources ∧ (beginStoring t s).trackers = s.trackers ∧
    (beginStoring t s).channels = s.channels ∧ (beginStoring t s).rotation = s.rotation ∧
    (beginStoring t s).engine = s.engine ∧ (beginStoring t s).memOwner = s.memOwner ∧
    (beginStoring t s).checks = s.checks ∧ (beginStoring t s).records = s.records ∧
    (beginStoring t s).lineA = s.lineA ∧ (beginStoring t s).lineB = s.lineB ∧
    (beginStoring t s).capture = s.capture ∧ (beginStoring t s).command = s.command ∧
    (beginStoring t s).protection = s.protection ∧ (beginStoring t s).fault = s.fault ∧
    (beginStoring t s).counters = s.counters ∧ (beginStoring t s).ties = s.ties ∧
    (beginStoring t s).pending = s.pending :=
  ⟨rfl, rfl, rfl, rfl, rfl, rfl, rfl, rfl, rfl, rfl, rfl, rfl, rfl, rfl, rfl, rfl, rfl, rfl, rfl, rfl, rfl, rfl, rfl, rfl, rfl, rfl, rfl⟩

@[simp] theorem beginProtection_keeps (p : Protection) :
    (beginProtection p s).powered = s.powered ∧
    (beginProtection p s).maintenanceClosed = s.maintenanceClosed ∧
    (beginProtection p s).localTime = s.localTime ∧ (beginProtection p s).opState = s.opState ∧
    (beginProtection p s).loadedTables = s.loadedTables ∧
    (beginProtection p s).bootStation = s.bootStation ∧
    (beginProtection p s).bootStreamType = s.bootStreamType ∧
    (beginProtection p s).tables = s.tables ∧ (beginProtection p s).sources = s.sources ∧
    (beginProtection p s).lastGap = s.lastGap ∧
    (beginProtection p s).lostSources = s.lostSources ∧
    (beginProtection p s).trackers = s.trackers ∧ (beginProtection p s).channels = s.channels ∧
    (beginProtection p s).rotation = s.rotation ∧ (beginProtection p s).engine = s.engine ∧
    (beginProtection p s).memOwner = s.memOwner ∧ (beginProtection p s).checks = s.checks ∧
    (beginProtection p s).records = s.records ∧ (beginProtection p s).lineA = s.lineA ∧
    (beginProtection p s).lineB = s.lineB ∧ (beginProtection p s).capture = s.capture ∧
    (beginProtection p s).command = s.command ∧ (beginProtection p s).protection = s.protection ∧
    (beginProtection p s).fault = s.fault ∧ (beginProtection p s).counters = s.counters ∧
    (beginProtection p s).ties = s.ties ∧ (beginProtection p s).pending = s.pending :=
  ⟨rfl, rfl, rfl, rfl, rfl, rfl, rfl, rfl, rfl, rfl, rfl, rfl, rfl, rfl, rfl, rfl, rfl, rfl, rfl, rfl, rfl, rfl, rfl, rfl, rfl, rfl, rfl⟩

@[simp] theorem beginRestoring_keeps (t : TableId) :
    (beginRestoring t s).powered = s.powered ∧
    (beginRestoring t s).maintenanceClosed = s.maintenanceClosed ∧
    (beginRestoring t s).localTime = s.localTime ∧ (beginRestoring t s).opState = s.opState ∧
    (beginRestoring t s).loadedTables = s.loadedTables ∧
    (beginRestoring t s).bootStation = s.bootStation ∧
    (beginRestoring t s).bootStreamType = s.bootStreamType ∧
    (beginRestoring t s).tables = s.tables ∧ (beginRestoring t s).sources = s.sources ∧
    (beginRestoring t s).lastGap = s.lastGap ∧ (beginRestoring t s).lostSources = s.lostSources ∧
    (beginRestoring t s).trackers = s.trackers ∧ (beginRestoring t s).channels = s.channels ∧
    (beginRestoring t s).rotation = s.rotation ∧ (beginRestoring t s).engine = s.engine ∧
    (beginRestoring t s).checks = s.checks ∧ (beginRestoring t s).records = s.records ∧
    (beginRestoring t s).lineA = s.lineA ∧ (beginRestoring t s).lineB = s.lineB ∧
    (beginRestoring t s).capture = s.capture ∧ (beginRestoring t s).command = s.command ∧
    (beginRestoring t s).protection = s.protection ∧ (beginRestoring t s).fault = s.fault ∧
    (beginRestoring t s).counters = s.counters ∧ (beginRestoring t s).ties = s.ties ∧
    (beginRestoring t s).pending = s.pending :=
  ⟨rfl, rfl, rfl, rfl, rfl, rfl, rfl, rfl, rfl, rfl, rfl, rfl, rfl, rfl, rfl, rfl, rfl, rfl, rfl, rfl, rfl, rfl, rfl, rfl, rfl, rfl⟩

@[simp] theorem writeRequest_keeps (t : Fin 2) (m : RequestedMode) (f : Nat) :
    (writeRequest t m f s).powered = s.powered ∧
    (writeRequest t m f s).maintenanceClosed = s.maintenanceClosed ∧
    (writeRequest t m f s).localTime = s.localTime ∧ (writeRequest t m f s).opState = s.opState ∧
    (writeRequest t m f s).loadedTables = s.loadedTables ∧
    (writeRequest t m f s).bootStation = s.bootStation ∧
    (writeRequest t m f s).bootStreamType = s.bootStreamType ∧
    (writeRequest t m f s).sources = s.sources ∧ (writeRequest t m f s).lastGap = s.lastGap ∧
    (writeRequest t m f s).lostSources = s.lostSources ∧
    (writeRequest t m f s).trackers = s.trackers ∧ (writeRequest t m f s).channels = s.channels ∧
    (writeRequest t m f s).rotation = s.rotation ∧ (writeRequest t m f s).engine = s.engine ∧
    (writeRequest t m f s).memOwner = s.memOwner ∧ (writeRequest t m f s).checks = s.checks ∧
    (writeRequest t m f s).records = s.records ∧ (writeRequest t m f s).lineA = s.lineA ∧
    (writeRequest t m f s).lineB = s.lineB ∧ (writeRequest t m f s).capture = s.capture ∧
    (writeRequest t m f s).command = s.command ∧ (writeRequest t m f s).store = s.store ∧
    (writeRequest t m f s).protection = s.protection ∧ (writeRequest t m f s).fault = s.fault ∧
    (writeRequest t m f s).counters = s.counters ∧ (writeRequest t m f s).ties = s.ties ∧
    (writeRequest t m f s).pending = s.pending :=
  ⟨rfl, rfl, rfl, rfl, rfl, rfl, rfl, rfl, rfl, rfl, rfl, rfl, rfl, rfl, rfl, rfl, rfl, rfl, rfl, rfl, rfl, rfl, rfl, rfl, rfl, rfl, rfl⟩

@[simp] theorem writeGeneral_keeps (e : GeneralEntry) :
    (writeGeneral e s).powered = s.powered ∧
    (writeGeneral e s).maintenanceClosed = s.maintenanceClosed ∧
    (writeGeneral e s).localTime = s.localTime ∧ (writeGeneral e s).opState = s.opState ∧
    (writeGeneral e s).loadedTables = s.loadedTables ∧
    (writeGeneral e s).bootStation = s.bootStation ∧
    (writeGeneral e s).bootStreamType = s.bootStreamType ∧
    (writeGeneral e s).sources = s.sources ∧ (writeGeneral e s).lastGap = s.lastGap ∧
    (writeGeneral e s).lostSources = s.lostSources ∧ (writeGeneral e s).trackers = s.trackers ∧
    (writeGeneral e s).channels = s.channels ∧ (writeGeneral e s).rotation = s.rotation ∧
    (writeGeneral e s).engine = s.engine ∧ (writeGeneral e s).memOwner = s.memOwner ∧
    (writeGeneral e s).checks = s.checks ∧ (writeGeneral e s).records = s.records ∧
    (writeGeneral e s).lineA = s.lineA ∧ (writeGeneral e s).lineB = s.lineB ∧
    (writeGeneral e s).command = s.command ∧ (writeGeneral e s).store = s.store ∧
    (writeGeneral e s).protection = s.protection ∧ (writeGeneral e s).fault = s.fault ∧
    (writeGeneral e s).counters = s.counters ∧ (writeGeneral e s).ties = s.ties ∧
    (writeGeneral e s).pending = s.pending :=
  ⟨rfl, rfl, rfl, rfl, rfl, rfl, rfl, rfl, rfl, rfl, rfl, rfl, rfl, rfl, rfl, rfl, rfl, rfl, rfl, rfl, rfl, rfl, rfl, rfl, rfl, rfl⟩

@[simp] theorem endWindows_keeps (c : Fin 16) :
    (endWindows c s).powered = s.powered ∧
    (endWindows c s).maintenanceClosed = s.maintenanceClosed ∧
    (endWindows c s).localTime = s.localTime ∧ (endWindows c s).opState = s.opState ∧
    (endWindows c s).loadedTables = s.loadedTables ∧
    (endWindows c s).bootStation = s.bootStation ∧
    (endWindows c s).bootStreamType = s.bootStreamType ∧ (endWindows c s).tables = s.tables ∧
    (endWindows c s).sources = s.sources ∧ (endWindows c s).lastGap = s.lastGap ∧
    (endWindows c s).lostSources = s.lostSources ∧ (endWindows c s).trackers = s.trackers ∧
    (endWindows c s).rotation = s.rotation ∧ (endWindows c s).engine = s.engine ∧
    (endWindows c s).memOwner = s.memOwner ∧ (endWindows c s).checks = s.checks ∧
    (endWindows c s).records = s.records ∧ (endWindows c s).lineA = s.lineA ∧
    (endWindows c s).lineB = s.lineB ∧ (endWindows c s).capture = s.capture ∧
    (endWindows c s).command = s.command ∧ (endWindows c s).store = s.store ∧
    (endWindows c s).protection = s.protection ∧ (endWindows c s).fault = s.fault ∧
    (endWindows c s).ties = s.ties ∧ (endWindows c s).pending = s.pending :=
  ⟨rfl, rfl, rfl, rfl, rfl, rfl, rfl, rfl, rfl, rfl, rfl, rfl, rfl, rfl, rfl, rfl, rfl, rfl, rfl, rfl, rfl, rfl, rfl, rfl, rfl, rfl⟩

@[simp] theorem countEvaluation_keeps (x : EvalInput) :
    (countEvaluation x s).powered = s.powered ∧
    (countEvaluation x s).maintenanceClosed = s.maintenanceClosed ∧
    (countEvaluation x s).localTime = s.localTime ∧ (countEvaluation x s).opState = s.opState ∧
    (countEvaluation x s).loadedTables = s.loadedTables ∧
    (countEvaluation x s).bootStation = s.bootStation ∧
    (countEvaluation x s).bootStreamType = s.bootStreamType ∧
    (countEvaluation x s).tables = s.tables ∧ (countEvaluation x s).sources = s.sources ∧
    (countEvaluation x s).lastGap = s.lastGap ∧
    (countEvaluation x s).lostSources = s.lostSources ∧
    (countEvaluation x s).trackers = s.trackers ∧ (countEvaluation x s).channels = s.channels ∧
    (countEvaluation x s).rotation = s.rotation ∧ (countEvaluation x s).engine = s.engine ∧
    (countEvaluation x s).memOwner = s.memOwner ∧ (countEvaluation x s).checks = s.checks ∧
    (countEvaluation x s).records = s.records ∧ (countEvaluation x s).lineA = s.lineA ∧
    (countEvaluation x s).lineB = s.lineB ∧ (countEvaluation x s).capture = s.capture ∧
    (countEvaluation x s).command = s.command ∧ (countEvaluation x s).store = s.store ∧
    (countEvaluation x s).protection = s.protection ∧ (countEvaluation x s).fault = s.fault ∧
    (countEvaluation x s).ties = s.ties ∧ (countEvaluation x s).pending = s.pending :=
  ⟨rfl, rfl, rfl, rfl, rfl, rfl, rfl, rfl, rfl, rfl, rfl, rfl, rfl, rfl, rfl, rfl, rfl, rfl, rfl, rfl, rfl, rfl, rfl, rfl, rfl, rfl, rfl⟩

@[simp] theorem restartBlocks_keeps  :
    (restartBlocks s).powered = s.powered ∧
    (restartBlocks s).maintenanceClosed = s.maintenanceClosed ∧ (restartBlocks s).ties = s.ties ∧
    (restartBlocks s).pending = s.pending :=
  ⟨rfl, rfl, rfl, rfl⟩

@[simp] theorem takeUpSettings_keeps  :
    (takeUpSettings s).powered = s.powered ∧
    (takeUpSettings s).maintenanceClosed = s.maintenanceClosed ∧
    (takeUpSettings s).localTime = s.localTime ∧
    (takeUpSettings s).loadedTables = s.loadedTables ∧
    (takeUpSettings s).bootStation = s.bootStation ∧
    (takeUpSettings s).bootStreamType = s.bootStreamType ∧
    (takeUpSettings s).lastGap = s.lastGap ∧ (takeUpSettings s).lostSources = s.lostSources ∧
    (takeUpSettings s).rotation = s.rotation ∧ (takeUpSettings s).engine = s.engine ∧
    (takeUpSettings s).records = s.records ∧ (takeUpSettings s).lineA = s.lineA ∧
    (takeUpSettings s).lineB = s.lineB ∧ (takeUpSettings s).command = s.command ∧
    (takeUpSettings s).store = s.store ∧ (takeUpSettings s).protection = s.protection ∧
    (takeUpSettings s).fault = s.fault ∧ (takeUpSettings s).counters = s.counters ∧
    (takeUpSettings s).ties = s.ties ∧ (takeUpSettings s).pending = s.pending :=
  ⟨rfl, rfl, rfl, rfl, rfl, rfl, rfl, rfl, rfl, rfl, rfl, rfl, rfl, rfl, rfl, rfl, rfl, rfl, rfl, rfl⟩

/-! ### What an update puts into the field it touches -/

@[simp] theorem setOut_out (l : Line) (o : LineOut) : (setOut l o s).out l = o := by cases l <;> rfl

@[simp] theorem setOut_other {l m : Line} (h : m ≠ l) (o : LineOut) :
    (setOut l o s).out m = s.out m := by
  cases l <;> cases m <;> first | rfl | exact absurd rfl h

@[simp] theorem onCapture_capture (f : CaptureUnit → CaptureUnit) :
    (onCapture f s).capture = f s.capture := rfl

@[simp] theorem onStore_store (f : SettingsStore → SettingsStore) :
    (onStore f s).store = f s.store := rfl

@[simp] theorem onTables_tables (f : Tables → Tables) : (onTables f s).tables = f s.tables := rfl

@[simp] theorem onSource_sources (i : Fin 8) (f : SourceRecord → SourceRecord) :
    (onSource i f s).sources = updAt s.sources i f := rfl

@[simp] theorem putTrackerAt_trackers (t : Fin 2) (tr : Tracker) :
    (putTrackerAt t tr s).trackers = putAt s.trackers t tr := rfl

@[simp] theorem fillFault_record (k : FaultKind) (n : Nat) (d : FaultDetail) :
    (fillFault k n d s).fault.record
      = some { kind := k, subject := n, detail := d, time := s.localTime } := rfl

@[simp] theorem noteFault_record (k : FaultKind) : (noteFault k s).fault.record = s.fault.record := rfl

@[simp] theorem noteFault_more (k : FaultKind) :
    (noteFault k s).fault.more = countUpSmall s.fault.more := rfl

@[simp] theorem putRuntimeLock_protection (t : TableId) (b : Bool) :
    (putRuntimeLock t b s).protection
      = { s.protection with runtime := putAt s.protection.runtime t.num b } := rfl

/-! ### Vectors read after an update -/

@[simp] theorem putAt_same {α : Type} {n : Nat} (v : Vector α n) (i : Fin n) (x : α) :
    (putAt v i x)[i] = x := by simp [putAt]

theorem putAt_get {α : Type} {n : Nat} (v : Vector α n) (i j : Fin n) (x : α) :
    (putAt v i x)[j] = if j = i then x else v[j] := by
  simp [putAt, Vector.getElem_set, Fin.ext_iff, eq_comm]

@[simp] theorem updAt_same {α : Type} {n : Nat} (v : Vector α n) (i : Fin n) (f : α → α) :
    (updAt v i f)[i] = f v[i] := by simp [updAt]

theorem updAt_get {α : Type} {n : Nat} (v : Vector α n) (i j : Fin n) (f : α → α) :
    (updAt v i f)[j] = if j = i then f v[j] else v[j] := by
  by_cases h : j = i
  · subst h; simp [updAt]
  · have hne : ¬ i.val = j.val := fun e => h (Fin.ext e.symm)
    simp [updAt, h, hne]

end Sys2Proof.Machine
end

