-- ==== Sys2Proof/Laws/Ops.lean ====
section
/-! SUPPORT. For each shared operation, one lemma that says all it can do: coincidences, the output
arbiters, the queues, the fault unit, replies, the table memory and the commands of the host computer.
Later proofs cite these and do not unfold the operations. -/

namespace Sys2Proof.Machine

/-! ### Coincidences -/

/-- Two happenings of one instant come about in one order or the other. -/
theorem either_cases (f g : State → State) (s : State) :
    ∃ ts, either f g s = g (f { s with ties := ts }) ∨ either f g s = f (g { s with ties := ts }) := by
  unfold either
  split
  · exact ⟨s.ties, .inl rfl⟩
  · next t ts _ =>
    refine ⟨ts, ?_⟩
    split <;> simp

theorem insertAt_perm {α : Type} (i : Nat) (x : α) (l : List α) : (insertAt i x l).Perm (x :: l) := by
  unfold insertAt
  exact List.perm_middle.trans (List.Perm.cons x (by simp))

/-- The coincidences order the elements of a list; they add none and lose none. -/
theorem orderBy_perm {α : Type} (l : List α) (ts : Ties) : (orderBy l ts).1.Perm l := by
  induction l generalizing ts with
  | nil => simp [orderBy]
  | cons x xs ih =>
    have h := ih ts
    unfold orderBy
    split
    · next heq => rw [heq] at h; simpa using h
    · next heq => rw [heq] at h; exact h.cons x
    · next heq => rw [heq] at h; exact (insertAt_perm _ x _).trans (h.cons x)

/-- Happenings with no order among them come about one after another, each once. -/
theorem inSomeOrder_cases {α : Type} (l : List α) (f : α → State → State) (s : State) :
    ∃ (l' : List α) (ts : Ties),
      l'.Perm l ∧ inSomeOrder l f s = l'.foldl (fun s x => f x s) { s with ties := ts } :=
  ⟨_, _, orderBy_perm l s.ties, rfl⟩

/-- What one happening after another keeps, all of them keep. -/
theorem foldl_keeps {α : Type} {P : State → Prop} (l : List α) (f : α → State → State)
    (h : ∀ x ∈ l, ∀ s, P s → P (f x s)) (s : State) (hs : P s) :
    P (l.foldl (fun s x => f x s) s) := by
  induction l generalizing s with
  | nil => exact hs
  | cons x xs ih =>
    exact ih (fun y hy => h y (List.mem_cons_of_mem x hy)) _ (h x List.mem_cons_self s hs)

/-- What each happening keeps, in whatever order, all of them together keep. -/
theorem inSomeOrder_keeps {α : Type} {P : State → Prop} (l : List α) (f : α → State → State)
    (ht : ∀ s ts, P s → P { s with ties := ts }) (h : ∀ x ∈ l, ∀ s, P s → P (f x s))
    (s : State) (hs : P s) : P (inSomeOrder l f s) := by
  obtain ⟨l', ts, hp, he⟩ := inSomeOrder_cases l f s
  rw [he]
  exact foldl_keeps l' f (fun x hx => h x (hp.mem_iff.mp hx)) _ (ht s ts hs)

/-- Two series woven together hold what the two hold, each thing once. -/
theorem weave_perm {α : Type} (after : List Bool) (xs ys : List α) (ts : Ties) :
    (weave after xs ys ts).1.Perm (xs ++ ys) := by
  induction xs generalizing after ys ts with
  | nil => simp [weave]
  | cons x xs ih =>
    unfold weave
    dsimp only
    have h := fun n => ih after.tail (ys.drop n) ts.tail
    rw [List.cons_append]
    refine List.perm_middle.trans (List.Perm.cons x ?_)
    refine ((h _).append_left _).trans ?_
    refine (List.perm_append_comm_assoc _ _ _).trans ?_
    rw [List.take_append_drop]

/-- Of two series woven together each keeps its own order. -/
theorem weave_sublists {α : Type} (after : List Bool) (xs ys : List α) (ts : Ties) :
    xs.Sublist (weave after xs ys ts).1 ∧ ys.Sublist (weave after xs ys ts).1 := by
  induction xs generalizing after ys ts with
  | nil => simp [weave]
  | cons x xs ih =>
    unfold weave
    dsimp only
    have h := fun n => ih after.tail (ys.drop n) ts.tail
    constructor
    · exact ((h _).1.cons_cons x).trans (List.sublist_append_right _ _)
    · conv_lhs => rw [← List.take_append_drop
        (max (if after.headD false then ys.length - xs.length else 0)
          (ts.headD 0 % (ys.length + 1))) ys]
      exact (List.Sublist.refl _).append ((h _).2.trans (List.sublist_cons_self x _))

/-- Series woven together hold what they hold, each thing once. -/
theorem weaveAll_perm {α : Type} (l : List (List α)) (ts : Ties) :
    (weaveAll l ts).1.Perm l.flatten := by
  induction l with
  | nil => simp [weaveAll]
  | cons xs rest ih =>
    unfold weaveAll
    dsimp only
    simpa using (weave_perm [] xs _ _).trans (ih.append_left xs)

/-- Of series woven together each keeps its own order. -/
theorem weaveAll_sublists {α : Type} (l : List (List α)) (ts : Ties) :
    ∀ xs ∈ l, xs.Sublist (weaveAll l ts).1 := by
  induction l with
  | nil => simp
  | cons ys rest ih =>
    intro xs hx
    unfold weaveAll
    dsimp only
    obtain rfl | hx := List.mem_cons.mp hx
    · exact (weave_sublists [] xs _ _).1
    · exact (ih xs hx).trans (weave_sublists [] ys _ _).2

/-- What both happenings of one instant keep, they keep in either order. -/
theorem either_keeps {P : State → Prop} (f g : State → State)
    (ht : ∀ s ts, P s → P { s with ties := ts }) (hf : ∀ s, P s → P (f s))
    (hg : ∀ s, P s → P (g s)) (s : State) (hs : P s) : P (either f g s) := by
  obtain ⟨ts, h | h⟩ := either_cases f g s <;> rw [h]
  · exact hg _ (hf _ (ht s ts hs))
  · exact hf _ (hg _ (ht s ts hs))

/-! ### Counts -/

theorem countUp_le (n k : Nat) : countUp n k ≤ 65535 := by simp [countUp, Config.counterMax]

theorem countUpSmall_le (n : Nat) : countUpSmall n ≤ 255 := by simp [countUpSmall, Config.smallCountMax]

theorem clampTo_bounds {lo hi : Nat} (h : lo ≤ hi) (n : Nat) :
    lo ≤ clampTo lo hi n ∧ clampTo lo hi n ≤ hi := by simp [clampTo, h]

/-! ### The output arbiters -/

/-- R129: what the arbiter of a line can choose. -/
theorem choose_cases (l : Line) (s : State) :
    (∃ r rs, (s.out l).replies = r :: rs
        ∧ choose l s = setOut l { s.out l with replies := rs, sending := some r, passedOver := 0 } s)
      ∨ (∃ r rs, (s.out l).replies = [] ∧ s.recordsFor l = r :: rs
        ∧ choose l s = setOut l { s.out l with
            sending := some { frame := recordFrame r, restart := false }, passedOver := 0 }
            { s with records := rs })
      ∨ (∃ f fs, (s.out l).forward = f :: fs ∧ choose l s = setOut l { s.out l with
            forward := fs, sending := some { frame := f, restart := false }
            passedOver := if s.insertedWaits l then (s.out l).passedOver + 1
              else (s.out l).passedOver } s)
      ∨ ((s.out l).forward = [] ∧ (s.out l).replies = [] ∧ s.recordsFor l = []
        ∧ choose l s = setOut l { s.out l with sending := none } s) := by
  unfold choose
  split
  · next h =>
    unfold sendInserted
    split
    · next r rs hr => exact .inl ⟨r, rs, hr, rfl⟩
    · next hr =>
      split
      · next r rs hq => exact .inr (.inl ⟨r, rs, hr, hq, rfl⟩)
      · next hq => simp [State.insertedWaits, hr, hq] at h
  · next h =>
    unfold sendForward
    split
    · next f fs hf => exact .inr (.inr (.inl ⟨f, fs, hf, rfl⟩))
    · next hf =>
      have hw : s.insertedWaits l = false := by
        cases hi : s.insertedWaits l
        · rfl
        · simp [hi, hf] at h
      have hr : (s.out l).replies = [] ∧ s.recordsFor l = [] := by
        simpa [State.insertedWaits] using hw
      exact .inr (.inr (.inr ⟨hf, hr.1, hr.2, rfl⟩))

/-- R129: a passed-over count of at most 4 stays at most 4. -/
theorem choose_passedOver (l m : Line) (s : State) (h : ∀ m, (s.out m).passedOver ≤ 4) :
    ((choose l s).out m).passedOver ≤ 4 := by
  by_cases hm : m = l
  · subst hm
    by_cases hw : s.insertedWaits m = true ∧ (s.out m).passedOver = 4
    · have hc : choose m s = sendInserted m s := by simp [choose, hw, Config.passedOverLimit]
      rw [hc]
      unfold sendInserted
      split
      · simp
      · split <;> simp
        exact h m
    · obtain ⟨_, _, _, e⟩ | ⟨_, _, _, _, e⟩ | ⟨_, _, _, e⟩ | ⟨_, _, _, e⟩ := choose_cases m s
      all_goals rw [e]
      all_goals simp
      · split
        · next hi => have := h m; have : (s.out m).passedOver ≠ 4 := fun e4 => hw ⟨hi, e4⟩; omega
        · exact h m
      · exact h m
  · obtain ⟨_, _, _, e⟩ | ⟨_, _, _, _, e⟩ | ⟨_, _, _, e⟩ | ⟨_, _, _, e⟩ := choose_cases l s
    all_goals rw [e, setOut_other _ hm]
    all_goals exact h m

/-- R128: a frame that has joined a queue of line `l` waits, or goes at once. -/
theorem kick_cases (l : Line) (s : State) :
    ((s.out l).sending.isSome = true ∧ kick l s = s)
      ∨ ((s.out l).sending = none ∧ kick l s = choose l s) := by
  unfold kick
  cases h : (s.out l).sending <;> simp

/-- The arbiter of a line touches that line's output side and the record queue alone. -/
theorem kick_frame (l : Line) (s : State) :
    ∃ o r, kick l s = setOut l o { s with records := r } := by
  obtain ⟨_, h⟩ | ⟨_, h⟩ := kick_cases l s
  · exact ⟨s.out l, s.records, by rw [h]; cases l <;> rfl⟩
  · obtain ⟨_, _, _, e⟩ | ⟨_, _, _, _, e⟩ | ⟨_, _, _, e⟩ | ⟨_, _, _, e⟩ := choose_cases l s
    all_goals exact ⟨_, _, h.trans e⟩

/-! ### The record queue and the fault unit -/

/-- R124: a verdict taken from the queue was in it, and the others keep their order. -/
theorem takeNewestVerdict_some {q rest : List OutRecord} {v : VerdictRecord}
    (h : takeNewestVerdict q = some (v, rest)) :
    ∃ before after, q = before ++ .verdict v :: after ∧ rest = before ++ after
      ∧ ∀ r ∈ after, ∀ w, r ≠ .verdict w := by
  induction q generalizing rest with
  | nil => simp [takeNewestVerdict] at h
  | cons r rs ih =>
    unfold takeNewestVerdict at h
    split at h
    · next v' rs' heq =>
      obtain ⟨rfl, rfl⟩ : v' = v ∧ r :: rs' = rest := by simpa using h
      obtain ⟨b, a, rfl, rfl, ha⟩ := ih heq
      exact ⟨r :: b, a, rfl, rfl, ha⟩
    · next heq =>
      split at h
      · next v' =>
        obtain ⟨rfl, rfl⟩ : v' = v ∧ rs = rest := by simpa using h
        refine ⟨[], rs, rfl, rfl, fun r hr w hw => ?_⟩
        subst hw
        clear ih h
        induction rs with
        | nil => simp at hr
        | cons a as iha =>
          unfold takeNewestVerdict at heq
          split at heq
          · simp at heq
          · next hn =>
            cases a with
            | verdict u => simp at heq
            | alarm u => exact iha hn (by simpa using hr)
      · simp at h

/-- R124: with no verdict in the queue none is taken. -/
theorem takeNewestVerdict_none {q : List OutRecord} (h : takeNewestVerdict q = none) :
    ∀ r ∈ q, ∃ a, r = .alarm a := by
  induction q with
  | nil => simp
  | cons r rs ih =>
    unfold takeNewestVerdict at h
    split at h
    · simp at h
    · next hn =>
      cases r with
      | verdict v => simp at h
      | alarm a => simpa using ih hn

/-- R123, R124: the record queue never exceeds 16 records. -/
theorem enqueue_length (q : List OutRecord) (r : OutRecord) (h : q.length ≤ 16) :
    (enqueue q r).2.length ≤ 16 := by
  unfold enqueue Config.recordDepth
  split
  · simp; omega
  · split
    · exact h
    · split
      · next heq =>
        obtain ⟨b, a, rfl, rfl, _⟩ := takeNewestVerdict_some heq
        simp at h ⊢
        omega
      · exact h

/-- What reporting can change: the record queue, line B's output side, the fault unit, the two drop
counters of the record queue, and the coincidences of the step. -/
def Reports (s t : State) : Prop :=
  ∃ r b f vd ad ts, t = { s with
    records := r, lineB := b, fault := f, ties := ts
    counters := { s.counters with verdictDrops := vd, alarmDrops := ad } }

theorem Reports.refl (s : State) : Reports s s :=
  ⟨s.records, s.lineB, s.fault, s.counters.verdictDrops, s.counters.alarmDrops, s.ties, rfl⟩

theorem Reports.trans {s t u : State} (h : Reports s t) (k : Reports t u) : Reports s u := by
  obtain ⟨_, _, _, _, _, _, rfl⟩ := h
  obtain ⟨r, b, f, vd, ad, ts, rfl⟩ := k
  exact ⟨r, b, f, vd, ad, ts, rfl⟩

theorem ties_reports (s : State) (ts : Ties) : Reports s { s with ties := ts } :=
  ⟨s.records, s.lineB, s.fault, s.counters.verdictDrops, s.counters.alarmDrops, ts, rfl⟩

theorem queue_reports (s : State) (q : List OutRecord) : Reports s (kick .b { s with records := q }) := by
  obtain ⟨o, r, h⟩ := kick_frame .b { s with records := q }
  rw [h]
  exact ⟨r, o, s.fault, s.counters.verdictDrops, s.counters.alarmDrops, s.ties, rfl⟩

theorem countDrop_reports (r : OutRecord) (s : State) : Reports s (countDrop r s) := by
  cases r with
  | verdict v => exact ⟨s.records, s.lineB, s.fault, _, s.counters.alarmDrops, s.ties, rfl⟩
  | alarm a => exact ⟨s.records, s.lineB, s.fault, s.counters.verdictDrops, _, s.ties, rfl⟩

theorem noteFault_reports (k : FaultKind) (s : State) : Reports s (noteFault k s) :=
  ⟨s.records, s.lineB, _, s.counters.verdictDrops, s.counters.alarmDrops, s.ties, rfl⟩

theorem fillFault_reports (k : FaultKind) (n : Nat) (d : FaultDetail) (s : State) :
    Reports s (fillFault k n d s) :=
  ⟨s.records, s.lineB, _, s.counters.verdictDrops, s.counters.alarmDrops, s.ties, rfl⟩

theorem offerWhileHeld_reports (r : OutRecord) (s : State) : Reports s (offerWhileHeld r s) := by
  unfold offerWhileHeld
  dsimp only
  split
  · exact queue_reports s _
  · exact ((queue_reports s _).trans (countDrop_reports _ _)).trans (noteFault_reports _ _)

/-- R180, R181: a report changes only what reporting can change. -/
theorem reportFault_reports (k : FaultKind) (n : Nat) (d : FaultDetail) (s : State) :
    Reports s (reportFault k n d s) := by
  unfold reportFault
  split
  · exact noteFault_reports k s
  · exact (fillFault_reports k n d s).trans (offerWhileHeld_reports _ _)

/-- R180: with the record held, a report sets its flag and raises the more-faults count. -/
theorem reportFault_held {s : State} {r : FaultRecord} (h : s.fault.record = some r) (k : FaultKind)
    (n : Nat) (d : FaultDetail) : reportFault k n d s = noteFault k s := by
  simp [reportFault, h]

/-- R180, R181: with the record empty, a report fills it and offers one FAULT_CAPTURED record. -/
theorem reportFault_empty {s : State} (h : s.fault.record = none) (k : FaultKind) (n : Nat)
    (d : FaultDetail) :
    reportFault k n d s = offerWhileHeld (.alarm (s.alarm (.faultCaptured k n))) (fillFault k n d s) := by
  simp [reportFault, h]

/-- R123, R124: a record offered changes only what reporting can change. -/
theorem offerRecord_reports (r : OutRecord) (s : State) : Reports s (offerRecord r s) := by
  unfold offerRecord
  dsimp only
  split
  · exact queue_reports s _
  · exact ((queue_reports s _).trans (countDrop_reports _ _)).trans (reportFault_reports _ _ _ _)

theorem offerAlarm_reports (c : Cause) (s : State) : Reports s (offerAlarm c s) :=
  offerRecord_reports _ s

theorem offerAllHeld_reports (rs : List OutRecord) (s : State) : Reports s (offerAllHeld rs s) :=
  foldl_keeps (P := Reports s) rs offerWhileHeld
    (fun r _ _ h => h.trans (offerWhileHeld_reports r _)) s (.refl s)

/-- R117, R126: the records of a completion, offered, change only what reporting can change. -/
theorem offerAll_reports (rs : List OutRecord) (s : State) : Reports s (offerAll rs s) := by
  induction rs generalizing s with
  | nil => exact .refl s
  | cons r rs ih =>
    unfold offerAll
    split
    · exact offerAllHeld_reports _ s
    · exact (offerRecord_reports r s).trans (ih _)
    · next d _ _ =>
      dsimp only
      have h := ((queue_reports s (enqueue s.records r).2).trans (countDrop_reports d _)).trans
        (fillFault_reports .recordDropped d.subject d.detail _)
      split
      · exact h.trans (offerAllHeld_reports _ _)
      · exact (h.trans (ties_reports _ _)).trans (offerAllHeld_reports _ _)

/-! ### Forward queues, command queue, replies -/

/-- R3: a frame offered to a forward queue joins it, or is counted as dropped and reported. -/
theorem offerForward_cases (l : Line) (f : Frame) (s : State) :
    ((s.out l).forward.length < 32 ∧ offerForward l f s
        = kick l (setOut l { s.out l with forward := (s.out l).forward ++ [f] } s))
      ∨ (32 ≤ (s.out l).forward.length ∧ offerForward l f s
        = reportFault .forwardDropped 255 (.number (forwardDirection l)) (countForwardDrop l s)) := by
  unfold offerForward Config.forwardDepth
  split
  · next h => exact .inl ⟨h, rfl⟩
  · next h => exact .inr ⟨by omega, rfl⟩

/-- R147: a command offered takes the last place, or is counted as dropped and reported. -/
theorem offerCommand_cases (c : CommandFrame) (s : State) :
    (s.placesHeld < 4 ∧ offerCommand c s
        = { s with command := { s.command with queue := s.command.queue ++ [c] } })
      ∨ (4 ≤ s.placesHeld ∧ Reports
        { s with counters := { s.counters with commandDrops := countUp s.counters.commandDrops 1 } }
        (offerCommand c s)) := by
  unfold offerCommand Config.commandPlaces
  split
  · next h => exact .inl ⟨h, rfl⟩
  · next h => exact .inr ⟨by omega, reportFault_reports _ _ _ _⟩

/-- R127, R148: the reply to the oldest command joins the reply queue of its line, or goes at once where
that line's transmitter is IDLE with nothing waiting. -/
theorem replyWith_eq (restart : Bool) (c : CommandFrame) (st : Status) (res : List Byte) {s : State}
    (h : LineSettled c.line s) :
    replyWith restart c st res s =
      setOut c.line
        (if (s.out c.line).sending.isSome then
          { s.out c.line with replies :=
              (s.out c.line).replies ++ [{ frame := s.replyFrame c st res, restart := restart }] }
        else { s.out c.line with
          sending := some { frame := s.replyFrame c st res, restart := restart }, passedOver := 0 })
        { s with command := { s.command with queue := s.command.queue.tail, requested := false } } := by
  cases hs : (s.out c.line).sending with
  | some x =>
    unfold replyWith kick
    cases hl : c.line <;> rw [hl] at hs <;> simp_all [setOut, State.out]
  | none =>
    obtain ⟨hf, hr, hq⟩ := h hs
    unfold replyWith kick choose sendInserted State.insertedWaits
    cases hl : c.line <;> rw [hl] at hs hf hr hq <;> simp_all [setOut, State.out]

/-- R148: forming a reply touches the command unit, one line's output side and the record queue. -/
theorem replyWith_frame (restart : Bool) (c : CommandFrame) (st : Status) (res : List Byte) (s : State) :
    ∃ o r, replyWith restart c st res s = setOut c.line o { s with
      records := r
      command := { s.command with queue := s.command.queue.tail, requested := false } } := by
  unfold replyWith
  dsimp only
  obtain ⟨o, r, h⟩ := kick_frame c.line (setOut c.line _
    { s with command := { s.command with queue := s.command.queue.tail, requested := false } })
  refine ⟨o, r, h.trans ?_⟩
  cases c.line <;> rfl

/-! ### The close arbiter and the table memory -/

/-- R77, R79: a grant gives the engine the copy, at once into evaluation where the memory is free. -/
theorem grant_cases (c : Fin 16) (s : State) :
    (s.channels[c].takePending = none ∧ grant c s = s)
      ∨ ∃ w u, s.channels[c].takePending = some (w, u)
        ∧ grant c s = { s with
            channels := putAt s.channels c u
            rotation := match s.tables.general.arbiterMode with
              | .rotating => c + 1
              | .fixed => s.rotation
            engine := if s.memOwner = .free then .evaluating c w else .waiting c (some w)
            memOwner := if s.memOwner = .free then .engine else s.memOwner } := by
  unfold grant
  split
  · next h => exact .inl ⟨h, rfl⟩
  · next w u h =>
    refine .inr ⟨w, u, h, ?_⟩
    by_cases hm : s.memOwner = .free <;> cases s.tables.general.arbiterMode <;> simp [hm]

/-- R75: the close arbiter grants an IDLE engine the first requesting channel of its order, or does
nothing. -/
theorem arbitrate_cases (s : State) :
    arbitrate s = s
      ∨ ∃ c, s.engine = .idle ∧ s.nextGrant = some c ∧ s.channels[c].requests = true
        ∧ arbitrate s = grant c s := by
  unfold arbitrate
  split
  · next he =>
    split
    · next c h =>
      exact .inr ⟨c, he, h, by simpa using List.find?_some h, rfl⟩
    · exact .inl rfl
  · exact .inl rfl
  · exact .inl rfl

/-- The close arbiter touches contexts, the rotation point, the engine and the memory's owner alone. -/
theorem arbitrate_frame (s : State) :
    ∃ ch rot e m, arbitrate s = { s with channels := ch, rotation := rot, engine := e, memOwner := m } := by
  obtain h | ⟨c, _, _, _, h⟩ := arbitrate_cases s
  · exact ⟨s.channels, s.rotation, s.engine, s.memOwner, h⟩
  · obtain ⟨_, g⟩ | ⟨w, u, _, g⟩ := grant_cases c s
    · exact ⟨s.channels, s.rotation, s.engine, s.memOwner, h.trans g⟩
    · exact ⟨_, _, _, _, h.trans g⟩

/-- R80, R82: the command side's release frees the memory, gives it to a waiting engine, or, where the
engine's copy is discarded, is the engine's own release. -/
theorem commandRelease_cases (s : State) :
    (∃ c w, s.engine = .waiting c (some w)
        ∧ commandRelease s = { s with engine := .evaluating c w, memOwner := .engine })
      ∨ (∃ c, s.engine = .waiting c none
        ∧ commandRelease s = arbitrate { s with engine := .idle, memOwner := s.commandSideWaits })
      ∨ ((∀ c o, s.engine ≠ .waiting c o) ∧ commandRelease s = { s with memOwner := .free }) := by
  unfold commandRelease
  split
  · next c w h => exact .inl ⟨c, w, h, rfl⟩
  · next c h => exact .inr (.inl ⟨c, h, rfl⟩)
  · next h => exact .inr (.inr ⟨by simp [h], rfl⟩)
  · next h => exact .inr (.inr ⟨by simp [h], rfl⟩)

/-- R82, R148: what begins of the next command before the memory is released: its request, and that only
where the engine waits with a discarded copy. -/
theorem beginNext_cases (s : State) :
    beginNext s = s
      ∨ ∃ ch c rest, s.engine = .waiting ch none ∧ s.command.queue = c :: rest ∧ s.asks c = true
        ∧ beginNext s = { s with command := { s.command with requested := true } } := by
  unfold beginNext
  split
  · next ch c rest he hq =>
    split
    · next ha => exact .inr ⟨ch, c, rest, he, hq, ha, rfl⟩
    · exact .inl rfl
  · exact .inl rfl

/-- R79: a command that asks for the memory is in CONFIGURING or ANALYSING, none of its tests refuses
it, and it is one of the six that need the memory. -/
theorem asks_cases {s : State} {c : CommandFrame} (h : s.asks c = true) :
    s.executes = true ∧ s.opState ≠ .loading ∧ ∃ code, commandCode c.bytes = some code
      ∧ s.memoryRefusal code (commandParams c.bytes) = some none := by
  unfold State.asks at h
  simp only [Bool.and_eq_true, bne_iff_ne, beq_iff_eq, Option.bind_eq_some_iff] at h
  exact ⟨h.1.1, h.1.2, h.2⟩

/-- The command side's release touches what the close arbiter touches. -/
theorem commandRelease_frame (s : State) :
    ∃ ch rot e m,
      commandRelease s = { s with channels := ch, rotation := rot, engine := e, memOwner := m } := by
  obtain ⟨c, w, _, h⟩ | ⟨c, _, h⟩ | ⟨_, h⟩ := commandRelease_cases s
  · exact ⟨s.channels, s.rotation, _, _, h⟩
  · obtain ⟨ch, rot, e, m, g⟩ := arbitrate_frame { s with engine := .idle, memOwner := s.commandSideWaits }
    exact ⟨ch, rot, e, m, h.trans g⟩
  · exact ⟨s.channels, s.rotation, s.engine, _, h⟩

/-! ### Commands of the host computer -/

/-- R148, R155: what a command's event does with the command queue: the oldest command, where it is the
event's own, is executed; otherwise nothing happens. -/
theorem onOldest_cases (p : CommandFrame → Bool) (body : CommandFrame → State → State) (s : State) :
    (∃ c rest, s.command.queue = c :: rest ∧ s.executes = true ∧ p c = true
        ∧ onOldest p body s = body c s)
      ∨ onOldest p body s = s := by
  unfold onOldest
  split
  · exact .inr rfl
  · next c rest h =>
    split
    · next hc =>
      simp only [Bool.and_eq_true] at hc
      exact .inl ⟨c, rest, h, hc.1, hc.2, rfl⟩
    · exact .inr rfl

/-- R149: what the event of a command of the host computer can do: nothing, answer BUSY in LOADING, answer
BAD_PARAM, or follow the command's own rule. -/
theorem command_cases {α : Type} (code : Nat) (parse : List Byte → Option α)
    (body : α → CommandFrame → State → State) (s : State) :
    command code parse body s = s
      ∨ ∃ c rest, s.command.queue = c :: rest ∧ s.executes = true ∧ commandCode c.bytes = some code
        ∧ ((s.opState = .loading ∧ command code parse body s = reply c .busy [] s)
          ∨ (s.opState ≠ .loading ∧ parse (commandParams c.bytes) = none
            ∧ command code parse body s = reply c .badParam [] s)
          ∨ ∃ p, s.opState ≠ .loading ∧ parse (commandParams c.bytes) = some p
            ∧ command code parse body s = body p c s) := by
  unfold command
  obtain ⟨c, rest, hq, he, hc, h⟩ | h := onOldest_cases (CommandFrame.hasCode code)
    (screened parse body) s
  · refine .inr ⟨c, rest, hq, he, by simpa [CommandFrame.hasCode] using hc, ?_⟩
    rw [h]
    unfold screened
    split
    · next hl => exact .inl ⟨hl, rfl⟩
    · next hl =>
      split
      · next hp => exact .inr (.inl ⟨hl, hp, rfl⟩)
      · next p hp => exact .inr (.inr ⟨p, hl, hp, rfl⟩)
  · exact .inl h

/-- R79, R80, R160: what a command that needs the table memory can do: be refused before it asks, do its
work holding the memory, ask and wait, or go on waiting. -/
theorem withMemory_cases (refusal : Option Status) (f : State → State) (c : CommandFrame) (s : State) :
    (∃ st, s.command.requested = false ∧ refusal = some st
        ∧ withMemory refusal f c s = reply c st [] s)
      ∨ (((s.command.requested = true ∧ s.memOwner = .command)
          ∨ (s.command.requested = false ∧ refusal = none ∧ s.memOwner = .free))
        ∧ withMemory refusal f c s = commandRelease (beginNext (f { s with memOwner := .command })))
      ∨ (s.command.requested = false ∧ refusal = none ∧ s.memOwner ≠ .free
        ∧ withMemory refusal f c s = { s with command := { s.command with requested := true } })
      ∨ (s.command.requested = true ∧ s.memOwner ≠ .command ∧ withMemory refusal f c s = s) := by
  unfold withMemory
  split
  · next hr =>
    split
    · next hm => exact .inr (.inl ⟨.inl ⟨hr, hm⟩, rfl⟩)
    · next hm => exact .inr (.inr (.inr ⟨hr, hm, rfl⟩))
  · next hr =>
    have hr : s.command.requested = false := by simpa using hr
    split
    · next _ st => exact .inl ⟨st, hr, rfl, rfl⟩
    · split
      · next hm => exact .inr (.inl ⟨.inr ⟨hr, rfl, hm⟩, rfl⟩)
      · next hm => exact .inr (.inr (.inl ⟨hr, rfl, hm, rfl⟩))

/-! ### Trackers -/

/-- R51: a tracker's record and fault change only what reporting can change. -/
theorem trackerMoved_reports (t : Fin 2) (fault : Option FaultKind) (s : State) :
    Reports s (trackerMoved t fault s) := by
  unfold trackerMoved
  dsimp only
  split
  · exact offerAlarm_reports _ s
  · exact either_keeps (P := Reports s) _ _ (fun _ ts h => h.trans (ties_reports _ ts))
      (fun _ h => h.trans (offerAlarm_reports _ _)) (fun _ h => h.trans (reportFault_reports _ _ _ _)) s
      (.refl s)

end Sys2Proof.Machine
end

