-- ==== Sys2Proof/Laws/Paths.lean ====
section
/-! SUPPORT. What the consumers of a source, a frame taken, an evaluation completed and a table entry
written can change at most: one relation for each, kept by every operation on the way. -/

namespace Sys2Proof.Machine

/-! ### The consumers of a source (R18) -/

/-- What the consumers of a source can change: trackers, contexts, the close arbiter and the engine, the
capture unit, counters, and what reporting changes. -/
def Delivers (s t : State) : Prop :=
  ∃ tr ch rot e m cap k r b f ts, t = { s with
    trackers := tr, channels := ch, rotation := rot, engine := e, memOwner := m, capture := cap
    counters := k, records := r, lineB := b, fault := f, ties := ts }

theorem Delivers.refl (s : State) : Delivers s s :=
  ⟨_, _, _, _, _, _, _, _, _, _, _, rfl⟩

theorem Delivers.trans {s t u : State} (h : Delivers s t) (k : Delivers t u) : Delivers s u := by
  obtain ⟨_, _, _, _, _, _, _, _, _, _, _, rfl⟩ := h
  obtain ⟨_, _, _, _, _, _, _, _, _, _, _, rfl⟩ := k
  exact ⟨_, _, _, _, _, _, _, _, _, _, _, rfl⟩

theorem Reports.delivers {s t : State} (h : Reports s t) : Delivers s t := by
  obtain ⟨_, _, _, _, _, _, rfl⟩ := h
  exact ⟨_, _, _, _, _, _, _, _, _, _, _, rfl⟩

theorem putTrackerAt_delivers (t : Fin 2) (tr : Tracker) (s : State) :
    Delivers s (putTrackerAt t tr s) := ⟨_, _, _, _, _, _, _, _, _, _, _, rfl⟩

theorem arbitrate_delivers (s : State) : Delivers s (arbitrate s) := by
  obtain ⟨_, _, _, _, h⟩ := arbitrate_frame s
  rw [h]
  exact ⟨_, _, _, _, _, _, _, _, _, _, _, rfl⟩

theorem moved_delivers (t : Fin 2) (tr : Tracker) (k : Option FaultKind) (s : State) :
    Delivers s (trackerMoved t k (putTrackerAt t tr s)) :=
  (putTrackerAt_delivers t tr s).trans (trackerMoved_reports t k _).delivers

/-- R45, R46: a measurer's failure. -/
theorem measurerFailed_delivers (t : Fin 2) (r : Role) (s : State) :
    Delivers s (measurerFailed t r s) := by
  unfold measurerFailed
  dsimp only
  split
  · split
    · split <;> exact moved_delivers t _ _ s
    · exact moved_delivers t _ _ s
  · exact moved_delivers t _ _ s
  · exact .refl s

/-- R45, R46, R48: a measurer's valid measurement. -/
theorem measurerSucceeded_delivers (t : Fin 2) (r : Role) (f : Nat) (q : Bool) (s : State) :
    Delivers s (measurerSucceeded t r f q s) := by
  unfold measurerSucceeded
  dsimp only
  split
  all_goals first
    | exact putTrackerAt_delivers t _ s
    | exact .refl s
    | (split <;> first | exact moved_delivers t _ _ s | exact .refl s)

theorem measurerItem_delivers (t : Fin 2) (r : Role) (src : Fin 8) (item : Item) (s : State) :
    Delivers s (measurerItem t r src item s) := by
  unfold measurerItem trackerActs
  split
  · exact .refl s
  · next slot _ =>
    dsimp only
    have h := putTrackerAt_delivers t (s.trackers[t].setMeasurer r
      ((s.trackers[t].measurer r).item s.tables.trackers[t].floor slot item).1) s
    split
    · exact h
    · exact h.trans (measurerSucceeded_delivers t r _ _ _)
    · exact h.trans (measurerFailed_delivers t r _)

theorem either_delivers (f g : State → State) (hf : ∀ s, Delivers s (f s))
    (hg : ∀ s, Delivers s (g s)) (s : State) : Delivers s (either f g s) :=
  either_keeps (P := Delivers s) f g (fun _ ts h => h.trans (ties_reports _ ts).delivers)
    (fun _ h => h.trans (hf _)) (fun _ h => h.trans (hg _)) s (.refl s)

theorem inSomeOrder_delivers {α : Type} (l : List α) (f : α → State → State)
    (hf : ∀ x s, Delivers s (f x s)) (s : State) : Delivers s (inSomeOrder l f s) :=
  inSomeOrder_keeps (P := Delivers s) l f (fun _ ts h => h.trans (ties_reports _ ts).delivers)
    (fun x _ _ h => h.trans (hf x _)) s (.refl s)

theorem trackerSeeks_delivers (t : Fin 2) (src : Fin 8) (s : State) :
    Delivers s (trackerSeeks t src s) := putTrackerAt_delivers t _ s

/-- R42, R43: a loss reaching a tracker. -/
theorem trackerLoses_delivers (t : Fin 2) (src : Fin 8) (s : State) :
    Delivers s (trackerLoses t src s) := by
  unfold trackerLoses
  dsimp only
  have h : Delivers s (onReaders t src (fun m => m.toSeeking.forget) s) := putTrackerAt_delivers t _ s
  repeat' split
  all_goals first
    | exact h
    | exact h.trans (measurerFailed_delivers t _ _)
    | exact (h.trans (measurerFailed_delivers t _ _)).trans (measurerFailed_delivers t _ _)

/-- R66: windows ended touch one channel unit and its counter. -/
theorem endWindows_delivers (c : Fin 16) (s : State) : Delivers s (endWindows c s) :=
  ⟨_, _, _, _, _, _, _, _, _, _, _, rfl⟩

theorem discardCopy_delivers (c : Fin 16) (s : State) : Delivers s (discardCopy c s) := by
  unfold discardCopy
  split
  · split
    · exact ⟨_, _, _, _, _, _, _, _, _, _, _, rfl⟩
    · exact .refl s
  · exact .refl s

theorem endAllWindows_delivers (c : Fin 16) (s : State) : Delivers s (endAllWindows c s) :=
  (endWindows_delivers c s).trans (discardCopy_delivers c _)

/-- R57, R60, R63, R64: a sample set reaching a channel. -/
theorem channelTakes_delivers (c : Fin 16) (ss : SampleSet) (s : State) :
    Delivers s (channelTakes c ss s) := by
  have hm : ∀ m s, Delivers s (reportMissed c m s) := by
    intro m s
    unfold reportMissed
    split
    · exact .refl s
    · exact Delivers.trans (t := onChannelCounters c _ s) ⟨_, _, _, _, _, _, _, _, _, _, _, rfl⟩
        (reportFault_reports _ _ _ _).delivers
  unfold channelTakes
  split
  · dsimp only
    have hu : ∀ u, Delivers s { s with channels := putAt s.channels c u } := fun u =>
      ⟨_, _, _, _, _, _, _, _, _, _, _, rfl⟩
    have h := fun u m => (hu u).trans (hm m _)
    split
    · exact (h _ _).trans (arbitrate_delivers _)
    · exact h _ _
  · exact .refl s

/-- R18: an item of a source reaching one consumer. -/
theorem consume_delivers (src : Fin 8) (item : Item) (who : Consumer) (s : State) :
    Delivers s (consume src item who s) := by
  cases who with
  | measurer t r => exact measurerItem_delivers t r src item s
  | tracker t => exact trackerLoses_delivers t src s
  | channel c =>
    cases item with
    | start => exact .refl s
    | realign => exact endWindows_delivers c s
    | loss => exact endWindows_delivers c s
    | set ss => exact channelTakes_delivers c ss s
  | capture => cases item <;> exact ⟨_, _, _, _, _, _, _, _, _, _, _, rfl⟩

/-- R18, R19: a loss reaching every consumer. -/
theorem deliverLoss_delivers (src : Fin 8) (s : State) : Delivers s (deliverLoss src s) :=
  inSomeOrder_delivers _ _ (fun who s => consume_delivers src .loss who s) s

/-! ### The source monitor (R5 to R21) -/

/-- What the source monitor can change: the sources' records, the last-gap source, the lost-source set,
and what the consumers change. -/
def Monitors (s t : State) : Prop :=
  ∃ src gap lost u, Delivers s u ∧ t = { u with sources := src, lastGap := gap, lostSources := lost }

theorem Delivers.monitors {s t : State} (h : Delivers s t) : Monitors s t :=
  ⟨t.sources, t.lastGap, t.lostSources, t, h, rfl⟩

theorem Monitors.trans {s t u : State} (h : Monitors s t) (k : Monitors t u) : Monitors s u := by
  obtain ⟨_, _, _, _, ⟨_, _, _, _, _, _, _, _, _, _, _, rfl⟩, rfl⟩ := h
  obtain ⟨src, gap, lost, _, ⟨tr, ch, rot, e, m, cap, k, r, b, f, ts, rfl⟩, rfl⟩ := k
  exact ⟨src, gap, lost, { s with
    trackers := tr, channels := ch, rotation := rot, engine := e, memOwner := m, capture := cap
    counters := k, records := r, lineB := b, fault := f, ties := ts },
    ⟨tr, ch, rot, e, m, cap, k, r, b, f, ts, rfl⟩, rfl⟩

theorem onSource_monitors (i : Fin 8) (f : SourceRecord → SourceRecord) (s : State) :
    Monitors s (onSource i f s) := ⟨_, s.lastGap, s.lostSources, s, .refl s, rfl⟩

theorem onSourceCounters_delivers (i : Fin 8) (f : SourceCounters → SourceCounters) (s : State) :
    Delivers s (onSourceCounters i f s) := ⟨_, _, _, _, _, _, _, _, _, _, _, rfl⟩

/-- R19: what the loss of a source changes. -/
theorem loseSource_monitors (src : Fin 8) (s : State) : Monitors s (loseSource src s) := by
  unfold loseSource
  dsimp only
  have hl : ∀ lost (s : State), Monitors s { s with lostSources := lost } := fun lost s =>
    ⟨s.sources, s.lastGap, lost, s, .refl s, rfl⟩
  have h := ((onSource_monitors src (fun r => { r with state := .lost, silence := none }) s).trans
    (onSourceCounters_delivers src (fun k => { k with losses := countUp k.losses 1 }) _).monitors).trans
    (hl (putAt s.lostSources src true) _)
  exact (h.trans (reportFault_reports _ _ _ _).delivers.monitors).trans
    (deliverLoss_delivers src _).monitors

/-! ### Evaluations (R83) -/

/-- R83: what a completion changes: check results, and what the consumers of a source could change. -/
theorem completeEvaluation_frame (c : Fin 16) (w : Window) (s : State) :
    Delivers { s with checks := putAt s.checks c (s.evalInput c w).checksAfter }
      (completeEvaluation c w s) := by
  unfold completeEvaluation
  dsimp only
  have hc : ∀ x s, Delivers s (countEvaluation x s) :=
    fun x s => ⟨_, _, _, _, _, _, _, _, _, _, _, rfl⟩
  have ht : ∀ seq es s, Delivers s (triggerByAlert c seq es s) := by
    intro seq es s
    unfold triggerByAlert
    split
    · split
      · exact ⟨_, _, _, _, _, _, _, _, _, _, _, rfl⟩
      · exact .refl s
    · exact .refl s
  have he : ∀ s, Delivers s (engineRelease s) := fun s =>
    Delivers.trans (t := { s with engine := .idle, memOwner := s.commandSideWaits })
      ⟨_, _, _, _, _, _, _, _, _, _, _, rfl⟩ (arbitrate_delivers _)
  have h := (offerAll_reports (s.evalRecords (s.evalInput c w))
    { s with checks := putAt s.checks c (s.evalInput c w).checksAfter }).delivers.trans
      (hc (s.evalInput c w) _)
  refine Delivers.trans ?_ (he _)
  split
  · exact h.trans (ht _ _ _)
  · exact h

/-! ### A frame, and the triggers it meets (R5 to R21, R141) -/

/-- What a sample frame on line A can change: what the source monitor changes, and, by the triggers that the
frame meets, check results, the command unit and line A's output side. -/
def Meets (s t : State) : Prop :=
  ∃ ck cm la u, Monitors s u ∧ t = { u with checks := ck, command := cm, lineA := la }

theorem Monitors.meets {s t : State} (h : Monitors s t) : Meets s t :=
  ⟨t.checks, t.command, t.lineA, t, h, rfl⟩

theorem Delivers.meets {s t : State} (h : Delivers s t) : Meets s t := h.monitors.meets

theorem Meets.refl (s : State) : Meets s s := (Delivers.refl s).meets

theorem Meets.trans {s t u : State} (h : Meets s t) (k : Meets t u) : Meets s u := by
  obtain ⟨_, _, _, _, ⟨_, _, _, _, ⟨_, _, _, _, _, _, _, _, _, _, _, rfl⟩, rfl⟩, rfl⟩ := h
  obtain ⟨ck, cm, la, _,
    ⟨src, gap, lost, _, ⟨tr, ch, rot, e, m, cap, k, r, b, f, ts, rfl⟩, rfl⟩, rfl⟩ := k
  exact ⟨ck, cm, la, _, ⟨src, gap, lost, { s with
    trackers := tr, channels := ch, rotation := rot, engine := e, memOwner := m, capture := cap
    counters := k, records := r, lineB := b, fault := f, ties := ts },
    ⟨tr, ch, rot, e, m, cap, k, r, b, f, ts, rfl⟩, rfl⟩, rfl⟩

/-- R148: a reply formed. -/
theorem reply_meets (c : CommandFrame) (st : Status) (bytes : List Byte) (s : State) :
    Meets s (reply c st bytes s) := by
  obtain ⟨o, r, h⟩ := replyWith_frame false c st bytes s
  unfold reply
  rw [h]
  cases c.line with
  | a => exact ⟨s.checks, _, o, { s with records := r },
      Delivers.monitors ⟨_, _, _, _, _, _, _, _, _, _, _, rfl⟩, rfl⟩
  | b => exact ⟨s.checks, _, s.lineA, { s with records := r, lineB := o },
      Delivers.monitors ⟨_, _, _, _, _, _, _, _, _, _, _, rfl⟩, rfl⟩

theorem onCapture_delivers (f : CaptureUnit → CaptureUnit) (s : State) : Delivers s (onCapture f s) :=
  ⟨_, _, _, _, _, _, _, _, _, _, _, rfl⟩

/-- R137, R138, R140: TRIGGER CAPTURE. -/
theorem triggerCommand_meets (s : State) : Meets s (triggerCommand s) := by
  unfold triggerCommand
  obtain h | ⟨c, rest, _, _, _, ⟨_, h⟩ | ⟨_, _, h⟩ | ⟨p, _, _, h⟩⟩ := command_cases 0x51 parseNone
    (fun () c s => triggerAnswered c s) s
  · rw [h]; exact .refl s
  · rw [h]; exact reply_meets _ _ _ s
  · rw [h]; exact reply_meets _ _ _ s
  · rw [h]
    unfold triggerAnswered
    split
    · exact reply_meets _ _ _ s
    · exact (onCapture_delivers _ s).meets.trans (reply_meets _ _ _ _)

/-- R83: an evaluation completing. -/
theorem evaluates_meets (s : State) : Meets s (evaluates s) := by
  unfold evaluates
  split
  · next c w _ =>
    exact Meets.trans (t := { s with checks := putAt s.checks c (s.evalInput c w).checksAfter })
      ⟨_, s.command, s.lineA, s, (Delivers.refl s).monitors, rfl⟩
      (completeEvaluation_frame c w s).meets
  · exact .refl s
  · exact .refl s

/-- R137, R141: the triggers a frame meets. -/
theorem takeTriggers_meets (l : List MetTrigger) (s : State) : Meets s (takeTriggers l s) :=
  foldl_keeps (P := Meets s) l takeTrigger
    (fun t _ _ h => h.trans (by cases t; exacts [triggerCommand_meets _, evaluates_meets _])) s
    (.refl s)

/-- R18, R141: a delivery reaching every consumer, and what it meets. -/
theorem deliver_meets (met : State → State) (hm : ∀ s, Meets s (met s)) (src : Fin 8)
    (items : List Item) (s : State) : Meets s (deliver met src items s) :=
  (ties_reports s _).delivers.meets.trans
    (foldl_keeps (P := Meets _) _ (fun x s => consumeMeeting met src x s)
      (fun _ _ _ h => h.trans (by
        unfold consumeMeeting
        split
        · exact (consume_delivers src _ _ _).meets.trans (hm _)
        · exact (consume_delivers src _ _ _).meets)) _ (.refl _))

/-- R11 to R13, R15 to R18, R21, R141: a frame taken. -/
theorem takeFrame_meets (met : State → State) (hm : ∀ s, Meets s (met s)) (src : Fin 8)
    (m : List Byte) (before : List Item) (s : State) : Meets s (takeFrame met src m before s) := by
  unfold takeFrame
  dsimp only
  exact ((onSource_monitors src _ s).trans (onSourceCounters_delivers src _ _).monitors).meets.trans
    (deliver_meets met hm src _ _)

/-- R5, R10 to R15, R20, R21, R141: what the source monitor makes of a frame, and what the frame meets. -/
theorem monitorFrame_meets (expiry : Bool) (met : State → State) (hm : ∀ s, Meets s (met s))
    (m : List Byte) (s : State) : Meets s (monitorFrame expiry met m s) := by
  have hid : ∀ s : State, Meets s (id s) := .refl
  unfold monitorFrame
  split
  · exact .refl s
  · split
    · exact Delivers.meets ⟨_, _, _, _, _, _, _, _, _, _, _, rfl⟩
    · next src _ =>
      split
      · exact ((onSourceCounters_delivers src _ s).trans (reportFault_reports _ _ _ _).delivers).meets
      · unfold ruleFrame
        split
        · unfold ruleRunning
          dsimp only
          split
          · exact takeFrame_meets id hid src m _ s
          · split
            · split
              · exact ((loseSource_monitors src s).trans
                  (onSourceCounters_delivers src _ _).monitors).meets
              · exact (onSourceCounters_delivers src _ s).meets
            · split
              · unfold takeAfterGap
                dsimp only
                refine Meets.trans ?_ (takeFrame_meets id hid src m _ _)
                exact Monitors.meets
                  ⟨_, some src, _, onSourceCounters src _ s, onSourceCounters_delivers src _ s, rfl⟩
              · unfold realignAndTake
                dsimp only
                exact ((onSourceCounters_delivers src _ s).trans
                  (reportFault_reports _ _ _ _).delivers).meets.trans (takeFrame_meets met hm src m _ _)
        · exact .refl s
        · exact takeFrame_meets id hid src m _ s

/-! ### Entry writes (R162, R170) -/

/-- What a taken entry write can change: the tables, the check results, and what the source monitor
changes. -/
def Writes (s t : State) : Prop :=
  ∃ tb ck u, Monitors s u ∧ t = { u with tables := tb, checks := ck }

theorem Monitors.writes {s t : State} (h : Monitors s t) : Writes s t :=
  ⟨t.tables, t.checks, t, h, rfl⟩

theorem Delivers.writes {s t : State} (h : Delivers s t) : Writes s t := h.monitors.writes

theorem Writes.refl (s : State) : Writes s s := (Delivers.refl s).writes

theorem Writes.trans {s t u : State} (h : Writes s t) (k : Writes t u) : Writes s u := by
  obtain ⟨_, _, _, ⟨_, _, _, _, ⟨_, _, _, _, _, _, _, _, _, _, _, rfl⟩, rfl⟩, rfl⟩ := h
  obtain ⟨tb, ck, _, ⟨src, gap, lost, _, ⟨tr, ch, rot, e, m, cap, k, r, b, f, ts, rfl⟩, rfl⟩, rfl⟩ := k
  exact ⟨tb, ck, _, ⟨src, gap, lost, { s with
    trackers := tr, channels := ch, rotation := rot, engine := e, memOwner := m, capture := cap
    counters := k, records := r, lineB := b, fault := f, ties := ts },
    ⟨tr, ch, rot, e, m, cap, k, r, b, f, ts, rfl⟩, rfl⟩, rfl⟩

theorem onTables_writes (f : Tables → Tables) (s : State) : Writes s (onTables f s) :=
  ⟨_, s.checks, s, (Delivers.refl s).monitors, rfl⟩

theorem channelsWhere_writes (p : Fin 16 → Bool) (f : Fin 16 → State → State)
    (hf : ∀ c s, Writes s (f c s)) (s : State) : Writes s (channelsWhere p f s) :=
  foldl_keeps (P := Writes s) _ f (fun c _ _ h => h.trans (hf c _)) s (.refl s)

theorem clearChecks_writes (c : Fin 16) (s : State) : Writes s (clearChecks c s) :=
  ⟨s.tables, _, s, (Delivers.refl s).monitors, rfl⟩

theorem identity_writes (c : Fin 16) (s : State) : Writes s (clearChecks c (endAllWindows c s)) :=
  (endAllWindows_delivers c s).writes.trans (clearChecks_writes c _)

theorem seekOnChannel_delivers (c : Fin 16) (t : Fin 2) (s : State) :
    Delivers s (seekOnChannel c t s) := putTrackerAt_delivers t _ s

theorem requestMode_delivers (t : Fin 2) (mode : RequestedMode) (f : Nat) (s : State) :
    Delivers s (requestMode t mode f s) := by
  unfold requestMode
  dsimp only
  split
  · exact putTrackerAt_delivers t _ s
  · exact moved_delivers t _ _ s
  · exact moved_delivers t _ _ s
  · exact .refl s

theorem changeReferences_delivers (t : Fin 2) (old new : TrackerEntry) (s : State) :
    Delivers s (changeReferences t old new s) := by
  unfold changeReferences
  dsimp only
  have hp := fun tr => putTrackerAt_delivers t tr s
  repeat' split
  all_goals first
    | exact hp _
    | exact (hp _).trans (measurerFailed_delivers t _ _)
    | exact ((hp _).trans (measurerFailed_delivers t _ _)).trans (measurerFailed_delivers t _ _)

/-- R162, R163: every effect of a taken entry write. -/
theorem applyWrite_writes (w : EntryWrite) (s : State) : Writes s (applyWrite w s) := by
  cases w with
  | general e =>
    exact (onTables_writes (fun t => { t with general := e }) s).trans
      (onCapture_delivers (fun u => { u with settings := e.capture }) _).writes
  | band i e => exact onTables_writes (fun t => { t with bands := putAt t.bands i e }) s
  | signature i e => exact onTables_writes (fun t => { t with signatures := putAt t.signatures i e }) s
  | tracker t e =>
    change Writes s (writeTracker t e s)
    unfold writeTracker
    dsimp only
    have h := onTables_writes (fun tb => { tb with trackers := putAt tb.trackers t e }) s
    split
    · exact h
    · exact (h.trans (requestMode_delivers t _ _ _).writes).trans
        (changeReferences_delivers t _ _ _).writes
  | channel c e =>
    change Writes s (writeChannel c e s)
    unfold writeChannel
    dsimp only
    have h := onTables_writes (fun tb => { tb with channels := putAt tb.channels c e }) s
    split
    · exact h
    · split
      · exact ((h.trans (identity_writes c _)).trans (seekOnChannel_delivers c 0 _).writes).trans
          (seekOnChannel_delivers c 1 _).writes
      · exact h.trans (identity_writes c _)
  | group g e =>
    change Writes s (writeGroup g e s)
    unfold writeGroup
    dsimp only
    have h := onTables_writes (fun tb => { tb with groups := putAt tb.groups g e }) s
    have hw : ∀ p s, Writes s (channelsWhere p endAllWindows s) := fun p s =>
      channelsWhere_writes p _ (fun c s => (endAllWindows_delivers c s).writes) s
    have hi : ∀ p s, Writes s (channelsWhere p (fun c s => clearChecks c (endAllWindows c s)) s) :=
      fun p s => channelsWhere_writes p _ identity_writes s
    repeat' split
    all_goals first
      | exact h
      | exact h.trans (hw _ _)
      | exact h.trans (hi _ _)
      | exact (h.trans (hw _ _)).trans (hi _ _)
  | source i e =>
    change Writes s (writeSource i e s)
    unfold writeSource
    dsimp only
    have h := (onTables_writes (fun tb => { tb with sources := putAt tb.sources i e }) s).trans
      (onCapture_delivers (fun u => u.sourceWritten i s.tables.sources[i] e) _).writes
    have hs : ∀ f s, Writes s (onSource i f s) := fun f s => (onSource_monitors i f s).writes
    have hl : ∀ s, Writes s (inSomeOrder (List.finRange 2) (fun t => trackerLoses t i) s) :=
      fun s => (inSomeOrder_delivers _ _ (fun t s => trackerLoses_delivers t i s) s).writes
    have hk : ∀ t s, Writes s (trackerSeeks t i s) := fun t s => (trackerSeeks_delivers t i s).writes
    have hw : ∀ p s, Writes s (channelsWhere p endAllWindows s) := fun p s =>
      channelsWhere_writes p _ (fun c s => (endAllWindows_delivers c s).writes) s
    split
    · exact h.trans (hs _ _)
    · split
      · exact ((h.trans (hs _ _)).trans (hl _)).trans (hw _ _)
      · split
        · exact (((h.trans (hs _ _)).trans (hk 0 _)).trans (hk 1 _)).trans (hw _ _)
        · exact h
  | plan c e =>
    change Writes s (writePlan c e s)
    unfold writePlan
    dsimp only
    have h := onTables_writes (fun tb => { tb with plans := putAt tb.plans c e }) s
    have hk : ∀ f s, Writes s { s with checks := updAt s.checks c f } := fun f s =>
      ⟨s.tables, _, s, (Delivers.refl s).monitors, rfl⟩
    split
    · exact h
    · split
      · exact h.trans (hk _ _)
      · have hc : ∀ ch (s : State), Delivers s { s with channels := ch } := fun ch s =>
          ⟨_, _, _, _, _, _, _, _, _, _, _, rfl⟩
        exact ((h.trans (hk (fun ch => { ch with bins := e.bins.map (keptCheck s.tables.plans[c] ch) })
          _)).trans (hc (updAt s.channels c fun u => { u with binList := e.bins.map PlanBin.k })
          _).writes).trans (endAllWindows_delivers c _).writes

/-- R144, R170: every effect of a restored entry. -/
theorem applyRestored_writes (w : EntryWrite) (s : State) : Writes s (applyRestored w s) := by
  cases w with
  | general e =>
    exact (onTables_writes (fun t => { t with general := e }) s).trans
      (onCapture_delivers (fun u => u.restored e.capture) _).writes
  | source i e => exact applyWrite_writes (.source i e) s
  | channel i e => exact applyWrite_writes (.channel i e) s
  | group i e => exact applyWrite_writes (.group i e) s
  | tracker i e => exact applyWrite_writes (.tracker i e) s
  | plan i e => exact applyWrite_writes (.plan i e) s
  | band i e => exact applyWrite_writes (.band i e) s
  | signature i e => exact applyWrite_writes (.signature i e) s

end Sys2Proof.Machine
end

