-- ==== Sys2Proof/WellFormed.lean ====
section
/-! DEFINITION. The check on a command's operands that their types do not already make: the length
of an arriving frame's payload. Source, tracker, measurer and line operands are in range by type.
The meanings do not rest on this check: they are total on every frame. -/

namespace Sys2Proof

/-- The least payload of an Ethernet frame in bytes (R191: "the Ethernet minimum of 46 bytes"). -/
def minPayload : Nat := 46

/-- The greatest payload of an Ethernet frame in bytes. PRESUMED (log 26): the manual does not give
it; it is Ethernet's own, and no frame the manual lays out comes near it. -/
def maxPayload : Nat := 1500

/-- Whether a frame's payload has a length an Ethernet frame can have. -/
def Frame.wellFormed (f : Frame) : Bool :=
  minPayload ≤ f.payload.length && f.payload.length ≤ maxPayload

/-- Whether a command's operands are ones the lines and timers of the module can present. -/
def Instr.wellFormed : Instr → Bool
  | .lineAFrameArrival f _ => f.wellFormed
  | .lineBFrameArrival f _ => f.wellFormed
  | .silenceTimeout _ _ => true
  | .usabilityTimeout _ _ _ => true
  | .holdTimeout _ _ => true
  | .evaluationComplete _ => true
  | .transmitComplete _ => true
  | .unknownCommand => true
  | .identify => true
  | .readStatus => true
  | .readEntry => true
  | .writeEntry _ => true
  | .readChecks => true
  | .setTracker => true
  | .startAnalysis => true
  | .stopAnalysis => true
  | .restart => true
  | .commandRestart => true
  | .powerOnRestart => true
  | .loadTableCopied => true
  | .loadComplete _ => true
  | .armCapture => true
  | .triggerCapture => true
  | .readCapture => true
  | .releaseCapture => true
  | .disarmCapture => true
  | .storeTable => true
  | .storeProgrammingComplete _ => true
  | .restoreTable => true
  | .restoreCopyComplete _ => true
  | .queryProgress => true
  | .setRuntimeLock => true
  | .clearRuntimeLock => true
  | .writeProtection => true
  | .protectionProgrammingComplete _ => true
  | .freezeProtection => true
  | .readCounters => true
  | .clearCounters => true
  | .clearFaults => true
  | .maintenanceLineChange _ => true
  | .localTimeTick => true
  | .supplyRemoved => true

end Sys2Proof
end

