-- ==== Sys2Proof/Tests/Slice0.lean ====
section
/-! SUPPORT. Tests: the operand check refuses what it should, worked values of the manual, and for every
obligation with hypotheses a concrete state and operands that meet them, for each of its clauses. The
expected values are the manual's own, or are worked by hand from its rules. -/

namespace Sys2Proof.Tests

open Sys2Proof.Machine Sys2Proof.Claims

/-! ### WellFormed -/

/-- A frame with a payload of `n` bytes. -/
def frameOf (n : Nat) : Frame :=
  { dest := 0, src := 0, ftype := 0, payload := List.replicate n 0, fcsAgrees := true }

theorem test_wellFormed_refuses_short_payload_a :
    (Instr.lineAFrameArrival (frameOf 45) { order := [], expiry := false, triggers := [] }).wellFormed
      = false := by decide

theorem test_wellFormed_takes_least_payload_b :
    (Instr.lineBFrameArrival (frameOf 46) []).wellFormed = true := by decide

theorem test_frame_refuses_45 : (frameOf 45).wellFormed = false := by decide

theorem test_frame_refuses_1501 (f : Frame) (h : f.payload.length = 1501) :
    (Instr.lineBFrameArrival f []).wellFormed = false := by
  simp [Instr.wellFormed, Frame.wellFormed, h, maxPayload]

/-! ### Worked values -/

/-- R61's table of entries. -/
theorem test_phase_table_entries :
    cosTable 0 = 32767 ∧ cosTable 512 = 23170 ∧ cosTable 1024 = 0 ∧ cosTable 2048 = -32767
      ∧ cosTable 3072 = 0 ∧ sinTable 0 = 0 ∧ sinTable 512 = 23170 ∧ sinTable 1024 = 32767
      ∧ sinTable 2048 = 0 ∧ sinTable 3072 = -32767 := by decide

/-- 4.3.1: phase indices of bins 120 and 10 in a window of 2,566 sets. -/
theorem test_phase_indices :
    phaseIndex 120 1 2566 = 191 ∧ phaseIndex 120 2 2566 = 383 ∧ phaseIndex 120 22 2566 = 118
      ∧ phaseIndex 10 256 2566 = 4086 ∧ phaseIndex 10 257 2566 = 6 := by decide

/-- R52's table. -/
theorem test_window_lengths :
    windowLength 47000 = 2723 ∧ windowLength 49875 = 2566 ∧ windowLength 50000 = 2560
      ∧ windowLength 53000 = 2415 := by decide

/-- R85's examples. -/
theorem test_means :
    windowMean 4608000000 2560 = 1800000 ∧ windowMean 1279 2560 = 0 ∧ windowMean 1280 2560 = 1
      ∧ windowMean (-1281) 2560 = -1 ∧ windowMean (-1279) 2560 = 0 := by decide

/-- R86's examples of the integer square root. -/
theorem test_isqrt : isqrt 25 = 5 ∧ isqrt 8 = 2 ∧ isqrt 0 = 0 := by decide

/-- R90, section 5.6: magnitudes 9,450 and 27,000 over the reference 1,800,000. -/
theorem test_ratios : binRatio 9450 1800000 = 53 ∧ binRatio 27000 1800000 = 150 := by decide

/-- R17's examples. -/
theorem test_clamped_values :
    clampValue (0x00123456#32).toInt = 1193046 ∧ clampValue (0x00800000#32).toInt = 8388607
      ∧ clampValue (0xFF7FFFFF#32).toInt = -8388608 := by decide

/-- R32: with pulse number 12, bin 120 of a DC channel and bins 110 and 130 of an AC channel are
CHARACTERISTIC; bin 20 of a DC channel and bin 120 of an AC channel are not. -/
theorem test_auto_classes :
    resolveAuto .dcVoltage 12 120 = .characteristic
      ∧ resolveAuto .dcCurrent 12 20 = .noncharacteristic
      ∧ resolveAuto .acCurrent 12 110 = .characteristic
      ∧ resolveAuto .acCurrent 12 130 = .characteristic
      ∧ resolveAuto .acCurrent 12 120 = .noncharacteristic
      ∧ resolveAuto .acCurrent 12 115 = .noncharacteristic := by decide

/-- R98: RISING(4) with the raise count written down to 3 enters ALERT at its next exceeding window;
RISING(2) with it written up to 5 goes on to RISING(3). -/
theorem test_check_states :
    checkStep (.rising 4) 101 100 0 3 3 = .alert ∧ checkStep (.rising 2) 101 100 0 5 3 = .rising 3
      ∧ checkStep (.falling 2) 90 100 10 3 3 = .clear ∧ checkStep .alert 91 100 10 3 3 = .alert := by
  decide

/-- R3: the 33rd frame offered to a full forward queue is dropped. -/
theorem test_forward_queue_full :
    (offerForward .b (frameOf 1) { State.reset with
      lineB := { freshLine with
        forward := List.replicate 32 (frameOf 0), sending := some ⟨frameOf 0, false⟩ } }
      ).counters.forwardDropsAB = 1 := by decide

/-! ### States for the witnesses -/

/-- The module after a load of the factory settings: CONFIGURING, nothing waiting. -/
def base : State := { State.reset with opState := .configuring, loadedTables := 8, memOwner := .free }

/-- A command frame held in the queue: code, parameters, tag 5, from line A. -/
def held (code : Byte) (ps : List Byte) : CommandFrame :=
  { line := .a, src := 7
    bytes := [0x02#8, 0#8, BitVec.ofNat 8 (8 + ps.length), 0#8, 1#8, 0#8, 5#8, code] ++ ps }

/-- A state with one command at the front of its command queue. -/
def asked (code : Byte) (ps : List Byte) (s : State) : State :=
  { s with command := { s.command with queue := [held code ps] } }

/-- A check of `AtFront` that evaluates. -/
def atFrontB (code : Nat) (s : State) (c : CommandFrame) : Bool :=
  s.powered && s.command.restart == .none && s.command.queue.head? == some c
    && commandCode c.bytes == some code
    && (s.lineA.sending.isSome || (s.lineA.forward.isEmpty && s.lineA.replies.isEmpty))
    && (s.lineB.sending.isSome
      || (s.lineB.forward.isEmpty && s.lineB.replies.isEmpty && s.records.isEmpty))

theorem settled_of {s : State}
    (ha : (s.lineA.sending.isSome || (s.lineA.forward.isEmpty && s.lineA.replies.isEmpty)) = true)
    (hb : (s.lineB.sending.isSome
      || (s.lineB.forward.isEmpty && s.lineB.replies.isEmpty && s.records.isEmpty)) = true) :
    LinesSettled s := by
  intro l h
  cases l
  · have h' : s.lineA.sending = none := h
    simp [h'] at ha
    exact ⟨ha.1, ha.2, rfl⟩
  · have h' : s.lineB.sending = none := h
    simp [h'] at hb
    exact ⟨hb.1.1, hb.1.2, hb.2⟩

theorem settledB_of {s : State}
    (h : (s.lineB.sending.isSome
      || (s.lineB.forward.isEmpty && s.lineB.replies.isEmpty && s.records.isEmpty)) = true) :
    LineSettled .b s := by
  intro hi
  have h' : s.lineB.sending = none := hi
  simp [h'] at h
  exact ⟨h.1.1, h.1.2, h.2⟩

theorem atFront_of {code : Nat} {s : State} {c : CommandFrame} (h : atFrontB code s c = true) :
    AtFront code s c := by
  simp only [atFrontB, Bool.and_eq_true, beq_iff_eq] at h
  obtain ⟨⟨⟨⟨⟨h1, h2⟩, h3⟩, h4⟩, h5⟩, h6⟩ := h
  exact ⟨h1, h2, h3, h4, settled_of h5 h6⟩

/-- A check of `Accepts` that evaluates. -/
def acceptsB (code : Nat) (s : State) (c : CommandFrame) : Bool :=
  atFrontB code s c && s.opState != .loading

theorem accepts_of {code : Nat} {s : State} {c : CommandFrame} (h : acceptsB code s c = true) :
    Accepts code s c := by
  simp only [acceptsB, Bool.and_eq_true, bne_iff_ne] at h
  exact ⟨atFront_of h.1, h.2⟩

/-- A check of `HasMemory` that evaluates. -/
def hasMemoryB (s : State) : Bool :=
  s.engine == .idle
    && ((!s.command.requested && s.memOwner == .free && !s.restoring)
      || (s.command.requested && s.memOwner == .command))

theorem hasMemory_of {s : State} (h : hasMemoryB s = true) : HasMemory s := by
  simp [hasMemoryB] at h
  exact ⟨h.1, by simpa [and_assoc] using h.2⟩

/-! ### A state at work, for the invariants -/

/-- Source 0 enabled with two values per set. -/
def busySource : SourceEntry := { factorySource with enabled := true, channelCount := 2 }

/-- Channel 0 enabled on slot 1 of source 0, DC_VOLTAGE, in group 0. -/
def busyChannel : ChannelEntry :=
  { enabled := true, source := 0, slot := 1, kind := .dcVoltage, group := 0 }

/-- A plan row with a checked bin and a WATCH bin. -/
def busyPlan : PlanRow :=
  { factoryPlan with bins := [{ k := 20, limit := 40, cls := .auto },
                              { k := 120, limit := 300, cls := .watch }] }

/-- Tables with one active channel. -/
def busyTables : Tables :=
  { factoryTables with
    sources := factoryTables.sources.set 0 busySource
    channels := factoryTables.channels.set 0 busyChannel
    groups := factoryTables.groups.set 0 { factoryGroup with enabled := true }
    plans := factoryTables.plans.set 0 busyPlan }

/-- A window of 2,560 sets that has taken `n` of them, all 0. -/
def busyWindow (seq n : Nat) : Window :=
  { seq := seq, len := 2560, freq := 50000, trackerState := .free, atLimit := false
    stamp := { second := 0, counter := 0 }, count := n, snapshot := [20, 120]
    sums := [{ k := 10, cosSum := 0, sinSum := 0 }, { k := 20, cosSum := 0, sinSum := 0 },
             { k := 120, cosSum := 0, sinSum := 0 }]
    plain := 0, filled := 0, test := false, degradedAtOpen := true }

/-- A module at work: ANALYSING, one source RUNNING, a tracker in HOLD, a window FILLING, an evaluation
under way, a READ CHECKS waiting for the table memory, a capture armed, a fault held. -/
def busy : State :=
  { base with
    opState := .analysing
    tables := busyTables
    sources := (Vector.replicate 8 freshSource).set 0
      { state := .running, lastPos := some 5, lastValues := Vector.replicate 8 7, silence := some 5 }
    trackers := (Vector.replicate 2 freshTracker).set 0
      { freshTracker with state := .hold, hold := some 10 }
    channels := (Vector.replicate 16 freshChannel).set 0
      { ctx0 := .filling (busyWindow 1 4), ctx1 := .free, seqNext := 2, binList := [20, 120] }
    engine := .evaluating 0 (busyWindow 0 2560)
    memOwner := .engine
    checks := (Vector.replicate 16 freshChecks).set 0
      { freshChecks with bins :=
        [{ k := 20, state := some (.rising 2), lastRatio := some 50
           lastClass := some .noncharacteristic },
         { k := 120, state := none, lastRatio := none, lastClass := none }] }
    capture := { freshCapture with
      state := .armed, perSet := 2
      buffer := [{ stamp := { second := 0, counter := 0 }, test := false
                   values := [{ value := 7, filled := false }, { value := 7, filled := false }] }] }
    command := { queue := [held 0x12#8 [0#8]], requested := true, restart := .none }
    fault := { record := some { kind := .sourceLost, subject := 0, detail := .number 5, time := 0 }
               summary := (Vector.replicate 12 false).set 2 true, more := 3 }
    pending := [.localTimeTick] }

theorem busy_queuesBounded : QueuesBounded busy := by
  refine ⟨?_, by decide, by decide⟩
  intro l
  cases l <;> exact ⟨by decide, by decide⟩

theorem busy_linesSettled : LinesSettled busy := settled_of (by decide) (by decide)

theorem busy_loadingQuiet : LoadingQuiet busy := by
  intro h
  exact absurd h (by decide)

theorem busyTables_legal : busyTables.legal := by
  intro id
  cases id
  · exact ⟨by decide, by decide⟩
  · refine ⟨?_, ?_⟩
    · unfold SourceEntry.legal within; decide
    · unfold sourceIdsDistinct; decide
  · trivial
  · show ∀ i : Fin 4, _
    unfold GroupEntry.legal; decide
  · show ∀ i : Fin 2, _
    unfold TrackerEntry.legal within; decide
  · show ∀ i : Fin 16, _
    unfold PlanRow.legal within; decide
  · show ∀ i : Fin 8, _
    unfold BandEntry.legal; decide
  · show ∀ i : Fin 16, _
    unfold SignatureEntry.legal within; decide

theorem factoryTables_legal : factoryTables.legal := by
  intro id
  cases id
  · exact ⟨by decide, by decide⟩
  · refine ⟨?_, ?_⟩
    · unfold SourceEntry.legal within; decide
    · unfold sourceIdsDistinct; decide
  · trivial
  · show ∀ i : Fin 4, _
    unfold GroupEntry.legal; decide
  · show ∀ i : Fin 2, _
    unfold TrackerEntry.legal within; decide
  · show ∀ i : Fin 16, _
    unfold PlanRow.legal within; decide
  · show ∀ i : Fin 8, _
    unfold BandEntry.legal; decide
  · show ∀ i : Fin 16, _
    unfold SignatureEntry.legal within; decide

theorem busyTables_consistent : busyTables.consistent := by
  refine ⟨by decide, ?_, by decide⟩
  intro i r c h
  exact absurd h (by revert i; cases r <;> simp [busyTables, factoryTables, TrackerEntry.reference, factoryTracker])

theorem busy_tablesLegal : TablesLegal busy :=
  ⟨busyTables_legal, factoryTables_legal, (fun _ h => by cases h),
    fun _ => busyTables_consistent⟩

theorem busy_sourcesLegal : SourcesLegal busy := by
  intro i
  refine ⟨fun _ => ?_, ?_, ?_, ?_⟩ <;> revert i <;> decide

theorem busy_measurersLegal : MeasurersLegal busy := by
  intro t r
  refine ⟨fun h => ?_, ?_, fun _ => ?_⟩
  · exact absurd h (by revert t; cases r <;> decide)
  · revert t; cases r <;> decide
  · revert t; cases r <;> decide

theorem busy_trackersLegal : TrackersLegal busy := by
  unfold TrackersLegal within
  decide

theorem busy_contextsLegal : ContextsLegal busy :=
  ⟨by decide, fun c w h => by cases h⟩

theorem busy_holds (c : Fin 16) (w : Window) (h : busy.holdsWindow c w) :
    c = 0 ∧ (w = busyWindow 1 4 ∨ w = busyWindow 0 2560) := by
  have h0 : ∀ c : Fin 16, c ≠ 0 → busy.channels[c].ctx0 = .free := by decide
  have h1 : ∀ c : Fin 16, busy.channels[c].ctx1 = .free := by decide
  have e0 : busy.channels[(0 : Fin 16)].ctx0 = .filling (busyWindow 1 4) := rfl
  have en : busy.engine = .evaluating 0 (busyWindow 0 2560) := rfl
  unfold State.holdsWindow at h
  rw [h1 c, en] at h
  simp only [reduceCtorEq, false_or, Engine.evaluating.injEq] at h
  by_cases hc : c = 0
  · subst hc
    rw [e0] at h
    simp only [Context.filling.injEq, reduceCtorEq, false_or, true_and] at h
    exact ⟨rfl, h.imp Eq.symm Eq.symm⟩
  · rw [h0 c hc] at h
    simp only [reduceCtorEq, false_or] at h
    exact absurd h.1.symm hc

theorem busyWindow_legal (seq n : Nat) (h : seq < 65536) : (busyWindow seq n).legal := by
  refine ⟨(by decide : 47000 ≤ 50000 ∧ 50000 ≤ 53000), (by decide : 2560 = windowLength 50000), h,
    Nat.zero_le _, by simp [busyWindow], rfl, ?_, ?_⟩
  · exact Nat.zero_le _
  · intro b hb
    fin_cases hb <;> exact ⟨Nat.zero_le _, Nat.zero_le _⟩

theorem busy_windowsLegal : WindowsLegal busy := by
  refine ⟨fun c w h => ?_, fun c w h => ?_, fun c w h => ?_⟩
  · obtain ⟨-, rfl | rfl⟩ := busy_holds c w h
    · exact busyWindow_legal 1 4 (by decide)
    · exact busyWindow_legal 0 2560 (by decide)
  · obtain ⟨rfl, rfl | rfl⟩ := busy_holds c w (by unfold State.holdsWindow; tauto)
    · decide
    · exact absurd h (by decide)
  · obtain ⟨rfl, rfl | rfl⟩ := busy_holds c w (by unfold State.holdsWindow; tauto)
    · exact absurd h (by decide)
    · rfl

theorem busy_snapshotsCurrent : SnapshotsCurrent busy := by
  refine fun _ => ⟨by decide, fun c w h => ?_⟩
  obtain ⟨rfl, rfl | rfl⟩ := busy_holds c w h <;> rfl

theorem busy_needsMemory : (held 0x12#8 [0#8]).needsMemory :=
  Or.inr (Or.inr (Or.inl ⟨by decide, by decide⟩))

theorem busy_memoryLegal : MemoryLegal busy := by
  refine fun _ => ⟨⟨fun _ => ⟨0, busyWindow 0 2560, rfl⟩, fun _ => rfl⟩, fun h => ?_, fun _ => rfl,
    fun h => ?_, fun h => ?_, fun _ => ⟨by decide, by decide, Or.inr rfl, ?_⟩, fun h => ?_⟩
  · exact absurd h (by decide)
  · exact absurd h (by decide)
  · exact absurd h (by decide)
  · exact ⟨_, [], rfl, busy_needsMemory⟩
  · cases h

theorem busy_checksLegal : ChecksLegal busy := by
  intro _ c
  have key : ∀ c : Fin 16, c ≠ 0 → busy.tables.plans[c].bins = [] ∧ busy.checks[c] = freshChecks := by
    decide
  by_cases hc : c = 0
  · subst hc
    refine ⟨?_, trivial⟩
    refine .cons ⟨rfl, by decide, ?_⟩ (.cons ⟨rfl, by decide, ?_⟩ .nil)
    · intro st h
      cases h
      exact ⟨by decide, by decide⟩
    · intro st h
      cases h
  · rw [(key c hc).1, (key c hc).2]
    exact ⟨.nil, trivial⟩

theorem busy_captureLegal : CaptureLegal busy := by
  refine ⟨by decide, by decide, by decide, fun _ => by decide, fun _ => ⟨by decide, by decide⟩, ?_⟩
  exact ⟨rfl, rfl⟩

theorem busy_protectionLegal : ProtectionLegal busy := by
  refine ⟨by decide, by decide, Or.inl rfl, fun _ h => ?_, fun h => ?_⟩
  · exact absurd h (by decide)
  · exact absurd h (by decide)

theorem busy_faultUnitLegal : FaultUnitLegal busy := ⟨by decide, rfl⟩

theorem busy_countersLegal : CountersLegal busy := by
  refine ⟨by decide, by decide, ?_⟩
  decide

/-- The premises of every obligation on an invariant hold together of a module at work, and its step
answers a next state. -/
theorem witness_invariants :
    QueuesBounded busy ∧ LinesSettled busy ∧ LoadingQuiet busy ∧ TablesLegal busy
      ∧ SourcesLegal busy ∧ MeasurersLegal busy ∧ TrackersLegal busy ∧ ContextsLegal busy
      ∧ WindowsLegal busy ∧ SnapshotsCurrent busy ∧ MemoryLegal busy ∧ ChecksLegal busy
      ∧ CaptureLegal busy ∧ ProtectionLegal busy ∧ FaultUnitLegal busy ∧ CountersLegal busy
      ∧ step busy = .next { busy with pending := [], localTime := 1 } :=
  ⟨busy_queuesBounded, busy_linesSettled, busy_loadingQuiet, busy_tablesLegal, busy_sourcesLegal,
    busy_measurersLegal, busy_trackersLegal, busy_contextsLegal, busy_windowsLegal,
    busy_snapshotsCurrent, busy_memoryLegal, busy_checksLegal, busy_captureLegal,
    busy_protectionLegal, busy_faultUnitLegal, busy_countersLegal, rfl⟩

/-! ### Witnesses: the block, arithmetic, records -/

theorem witness_StepRunsTheFront :
    busy.pending = .localTimeTick :: [] ∧ State.reset.pending = [] := ⟨rfl, rfl⟩

theorem witness_EveryRunGoesOn :
    exec .localTimeTick busy = .next { busy with localTime := 1 } := rfl

theorem witness_PhaseTablesAreNearest : (0 : Nat) < 4096 ∧ (4095 : Nat) < 4096 := by decide

theorem witness_MagnitudeFromSums :
    (0 : Nat) < 2415 ∧ { k := 10, cosSum := 0, sinSum := 0 } ∈ (busyWindow 0 2560).sums
      ∧ ((busyWindow 0 2560).sums.map BinSum.k).Nodup := by decide

/-- A window whose mean is 5,000 counts. -/
def goodWindow : Window := { busyWindow 0 2560 with plain := 12800000, degradedAtOpen := false }

theorem witness_MeanReferenceAndRatio :
    2415 ≤ 2415 ∧ -8388608 * (2415 : Int) ≤ -20258488320 ∧ (20258485905 : Int) ≤ 8388607 * 2415
      ∧ (busy.evalInput 0 (busyWindow 0 2560)).noRef = true
      ∧ (busy.evalInput 0 goodWindow).noRef = false := by decide

theorem witness_WindowLengthInRange : 47000 ≤ 47000 ∧ 47000 ≤ 53000 ∧ 53000 ≤ 53000 := by decide

theorem witness_ReceivedValuesAreClamped :
    (0xFF800000#32) = ((0xFF800000#32).setWidth 24).signExtend 32
      ∧ (0x007FFFFF#32) = ((0x007FFFFF#32).setWidth 24).signExtend 32
      ∧ (0xFF7FFFFF#32) ≠ ((0xFF7FFFFF#32).setWidth 24).signExtend 32
      ∧ (0x00800000#32) ≠ ((0x00800000#32).setWidth 24).signExtend 32 := by decide

theorem witness_AlertsNeedConsecutiveWindows :
    ([41, 41].foldl (fun st r => checkStep st r 40 10 2 1) .clear).inAlert = true
      ∧ (∀ r ∈ [41, 41], 40 < r) ∧ [41, 41].length = 2
      ∧ ([30].foldl (fun st r => checkStep st r 40 10 2 1) .alert).inAlert = false
      ∧ ∀ r ∈ [30], r + 10 ≤ 40 := by decide

theorem witness_FirstSignatureGivesTheCode : (busy.evalInput 0 goodWindow).held = false := by decide

/-- `busy` with channel 0 a DC_CURRENT channel. -/
def busyCurrent : State :=
  { busy with tables := { busyTables with
      channels := busyTables.channels.set 0 { busyChannel with kind := .dcCurrent } } }

theorem legal_with_channels {t : Tables} (h : t.legal) (v : Vector ChannelEntry 16) :
    Tables.legal { t with channels := v } := by
  intro id
  cases id
  · exact h .general
  · exact h .sources
  · trivial
  · exact h .groups
  · exact h .trackers
  · exact h .plans
  · exact h .bands
  · exact h .signatures

theorem busyCurrent_tablesLegal : TablesLegal busyCurrent := by
  refine ⟨legal_with_channels busyTables_legal _, factoryTables_legal, (fun _ h => by cases h),
    fun _ => ⟨by decide, ?_, by decide⟩⟩
  intro i r c h
  exact absurd h (by
    revert i; cases r <;> simp [busyCurrent, busyTables, factoryTables, TrackerEntry.reference, factoryTracker])

theorem witness_HeldEvaluationKeepsStates :
    (TablesLegal busy ∧ ChecksLegal busy ∧ TablesLegal busyCurrent ∧ ChecksLegal busyCurrent)
      ∧ (busy.opState ≠ .loading ∧ busyCurrent.opState ≠ .loading
      ∧ (busy.evalInput 0 (busyWindow 0 2560)).held = true
      ∧ (busy.evalInput 0 goodWindow).held = false
      ∧ goodWindow.snapshot = busy.tables.plans[(0 : Fin 16)].bins.map PlanBin.k
      ∧ (busyWindow 0 2560).snapshot = busy.tables.plans[(0 : Fin 16)].bins.map PlanBin.k
      ∧ busy.tables.channels[(0 : Fin 16)].kind ≠ .dcCurrent
      ∧ (busyCurrent.evalInput 0 goodWindow).held = false
      ∧ busyCurrent.tables.channels[(0 : Fin 16)].kind = .dcCurrent) :=
  ⟨⟨busy_tablesLegal, busy_checksLegal, busyCurrent_tablesLegal, fun h => busy_checksLegal h⟩, by decide⟩

/-- An alarm record. -/
def someAlarm : AlarmRecord :=
  { station := 1, streamType := 0x9A4C#16, cause := .trackerState 0 .free 50000, localTime := 0 }

/-- A verdict record. -/
def someVerdict : VerdictRecord := (busy.evalInput 0 goodWindow).verdict 1 0x9A4C#16

/-- Line B busy with a frame. -/
def lineBusy : LineOut := { freshLine with sending := some { frame := frameOf 46, restart := false } }

theorem witness_RecordsAndFaultsAreAdmitted :
    (List.replicate 15 (OutRecord.alarm someAlarm)).length < 16
      ∧ 16 ≤ (List.replicate 16 (OutRecord.alarm someAlarm)).length
      ∧ (∃ v, OutRecord.verdict someVerdict = .verdict v)
      ∧ (∃ a, OutRecord.alarm someAlarm = .alarm a)
      ∧ busy.fault.record.isSome = true
      ∧ ∀ s ∈ [base, { base with lineB := lineBusy }], RoomForAFault s := by
  refine ⟨by decide, by decide, ⟨_, rfl⟩, ⟨_, rfl⟩, by decide, fun s hs => ?_⟩
  fin_cases hs <;> exact ⟨rfl, by decide, settledB_of rfl⟩

/-- `base` with line B busy and the record queue full of one record. -/
def fullOf (r : OutRecord) : State :=
  { base with lineB := lineBusy, records := List.replicate 16 r }

/-- The clauses on a full record queue, of alarms and of verdicts. -/
theorem witness_RecordsAndFaultsAreAdmitted_full :
    (∀ r ∈ [OutRecord.alarm someAlarm, .verdict someVerdict],
        (fullOf r).fault.record = none ∧ LineSettled .b (fullOf r)
          ∧ { fullOf r with fault := busy.fault }.fault.record.isSome = true
          ∧ 16 ≤ (fullOf r).records.length)
      ∧ enqueue (fullOf (.alarm someAlarm)).records (.alarm someAlarm)
        = (some (.alarm someAlarm), (fullOf (.alarm someAlarm)).records)
      ∧ enqueue (fullOf (.verdict someVerdict)).records (.alarm someAlarm)
        = (some (.verdict someVerdict),
          List.replicate 15 (.verdict someVerdict) ++ [.alarm someAlarm])
      ∧ enqueue base.records (.alarm someAlarm) = (none, [.alarm someAlarm]) := by
  refine ⟨fun r h => ?_, rfl, rfl, rfl⟩
  fin_cases h <;> exact ⟨rfl, settledB_of rfl, rfl, Nat.le_refl 16⟩

/-! ### Witnesses: frames and transmitters -/

/-- A frame of kind `kind` whose message is `body` after its kind byte and length field. -/
def streamFrame (kind : Byte) (body : List Byte) (agrees : Bool) : Frame :=
  { dest := 0, src := 7, ftype := 0x9A4C#16
    payload := kind :: 0#8 :: BitVec.ofNat 8 (3 + body.length) :: body
      ++ List.replicate (43 - body.length) 0
    fcsAgrees := agrees }

/-- The output side of a line whose forward queue holds `n` frames. -/
def lineWith (n : Nat) : LineOut := { lineBusy with forward := List.replicate n (frameOf 46) }

/-- A command frame for station 1 whose message has `n` bytes, at least 5. -/
def commandFrame (n : Nat) : Frame := streamFrame 2 ([0#8, 1#8] ++ List.replicate (n - 5) 0) true

/-- A state with `n` commands in the command queue. -/
def queued (n : Nat) (s : State) : State :=
  { s with command := { s.command with queue := List.replicate n (held 1#8 []), requested := false } }

/-- A command frame for a station, given in two bytes, with more bytes after them. -/
def commandTo (station more : List Byte) : Frame := streamFrame 2 (station ++ more) true

/-- A state with no fault held and line B busy. -/
def faultless (s : State) : State := { s with fault := base.fault, lineB := lineBusy, records := [] }

theorem witness_ForeignFramesPassThrough :
    (base.powered = true ∧ (streamFrame 3 [] false).fcsAgrees = false
      ∧ (frameOf 46).fcsAgrees = true ∧ (frameOf 46).ftype ≠ base.streamType
      ∧ (streamFrame 3 [] true).payload.head? ≠ some 0x01#8
      ∧ (streamFrame 3 [] true).payload.head? ≠ some 0x02#8
      ∧ (streamFrame 1 [] true).payload.head? = some 0x01#8)
      ∧ (∀ f ∈ [commandTo [] [], commandTo [0#8] [], commandTo [0#8, 2#8] [0#8]],
          f.payload.head? = some 0x02#8 ∧ commandTarget (message f.payload) ≠ some base.station
            ∧ commandTarget (message f.payload) ≠ some 65535)
      ∧ (base.lineA.forward.length < 32 ∧ (lineWith 31).forward.length < 32
        ∧ 32 ≤ (lineWith 32).forward.length ∧ busy.fault.record.isSome = true)
      ∧ base.fault.record = none
      ∧ ∀ s ∈ [base, { busy with lineB := lineWith 31 }, { busy with lineB := lineWith 32 },
          { busy with lineA := lineWith 32 }, { base with lineB := lineWith 32 },
          { base with lineA := lineWith 32 }], LinesSettled s := by
  refine ⟨by decide, by decide, by decide, rfl, fun s hs => ?_⟩
  fin_cases hs <;> exact settled_of (by decide) (by decide)

/-- The clauses on a broadcast command frame. -/
theorem witness_ForeignFramesPassThrough_broadcast :
    (∀ more ∈ [[], [0#8], [0#8, 5#8], [0#8, 5#8, 2#8], [0#8, 5#8, 1#8]],
        (commandTo [0xFF#8, 0xFF#8] more).ftype = busy.streamType
          ∧ (commandTo [0xFF#8, 0xFF#8] more).payload.head? = some 0x02#8
          ∧ commandTarget (message (commandTo [0xFF#8, 0xFF#8] more).payload) = some 65535)
      ∧ (busy.station ≠ 65535
        ∧ (message (commandTo [0xFF#8, 0xFF#8] [0#8]).payload).length < 7
        ∧ 7 ≤ (message (commandTo [0xFF#8, 0xFF#8] [0#8, 5#8]).payload).length
        ∧ commandCode (message (commandTo [0xFF#8, 0xFF#8] [0#8, 5#8, 2#8]).payload) ≠ some 0x01
        ∧ commandCode (message (commandTo [0xFF#8, 0xFF#8] [0#8, 5#8, 1#8]).payload) = some 0x01
        ∧ placesTaken (queued 3 busy) < 4 ∧ 4 ≤ placesTaken (queued 4 busy)
        ∧ (queued 4 busy).fault.record.isSome = true)
      ∧ LinesSettled (queued 4 busy) ∧ LinesSettled (queued 4 base) ∧ RoomForAFault (queued 4 base)
      ∧ LinesSettled (faultless (queued 4 busy)) ∧ RoomForAFault (faultless (queued 4 busy))
      ∧ (faultless (queued 4 busy)).lineB.sending.isSome = true
      ∧ ∀ l, ((faultless (queued 4 busy)).out (otherLine l)).forward.length < 32 := by
  refine ⟨by decide, by decide, settled_of (by decide) (by decide), settled_of (by decide) (by decide),
    ⟨rfl, by decide, settledB_of rfl⟩, settled_of (by decide) (by decide),
    ⟨rfl, by decide, settledB_of rfl⟩, rfl, fun l => ?_⟩
  cases l <;> decide

theorem witness_CommandsTakeAPlace :
    (busy.powered = true ∧ (commandFrame 7).fcsAgrees = true ∧ (commandFrame 7).ftype = busy.streamType
      ∧ (commandFrame 7).payload.head? = some 0x02#8
      ∧ commandTarget (message (commandFrame 6).payload) = some busy.station
      ∧ commandTarget (message (commandFrame 7).payload) = some busy.station
      ∧ (message (commandFrame 6).payload).length < 7
      ∧ 7 ≤ (message (commandFrame 7).payload).length
      ∧ placesTaken (queued 3 busy) < 4)
      ∧ ∀ s ∈ [queued 4 busy, faultless (queued 4 busy), queued 4 base],
        4 ≤ placesTaken s ∧ TakesFaults s := by
  refine ⟨by decide, fun s hs => ?_⟩
  fin_cases hs
  · exact ⟨by decide, .inl rfl⟩
  · exact ⟨by decide, .inr (settledB_of rfl)⟩
  · exact ⟨by decide, .inr (settledB_of rfl)⟩

/-- A sample frame of source 1, second 0, with one set of zeros of `n` values, at block `b`. -/
def sampleFrame (n b : Nat) : Frame :=
  streamFrame 1 ([0#8] ++ put2 1 ++ put4 0 ++ put2 (4 * b) ++ put1 n ++ put1 0
    ++ List.replicate (16 * n) 0) true

/-- `busy` with source 0 in another state. -/
def sourceIn (st : SourceState) : State :=
  { busy with sources := busy.sources.set 0 { busy.sources[0] with state := st } }

theorem witness_ContinuityRuling :
    (busy.powered = true ∧ busy.opState ≠ .loading ∧ (sampleFrame 2 6).fcsAgrees = true
      ∧ (sampleFrame 2 6).ftype = busy.streamType
      ∧ (sampleFrame 2 6).payload.head? = some 0x01#8
      ∧ sampleSourceId (message (sampleFrame 2 6).payload) = some 1 ∧ busy.sourceOfId 1 = some 0
      ∧ sampleMalformed (message (sampleFrame 1 6).payload) 2 = true)
      ∧ (∀ b ∈ [5, 6, 7, 14, 15], sampleMalformed (message (sampleFrame 2 b).payload) 2 = false
          ∧ blockPosition (message (sampleFrame 2 b).payload) = b)
      ∧ (busy.sources[0].state = .running ∧ busy.sources[0].lastPos = some 5
      ∧ busy.tables.sources[0].gapLimit = 8
      ∧ (sourceIn .await).sources[0].state = .await ∧ (sourceIn .lost).sources[0].state = .lost
      ∧ (faultless busy).fault.record = none ∧ (faultless busy).lineB.forward.length < 32
      ∧ (faultless busy).sources = busy.sources) :=
  ⟨by decide, by decide, by decide⟩

/-- `busy` with the engine IDLE, its memory with `owner`, and channel 0 with the contexts given. -/
def closing (owner : MemOwner) (c0 c1 : Context) : State :=
  { busy with
    engine := .idle, memOwner := owner
    channels := busy.channels.set 0 { busy.channels[0] with ctx0 := c0, ctx1 := c1 } }

/-- The sample sets of the frame at block 6. -/
def blockSix : List SampleSet := frameSets 0 (message (sampleFrame 2 6).payload) busy

theorem reads_busy {c : Fin 16} (h : ReadsSource 0 busy c) : c = 0 := by
  have key : ∀ c : Fin 16, busy.active c = true → c = 0 := by decide
  exact key c h.1

/-- `closing` with channel 1 on the same slot, with its own contexts. -/
def closingTwo (n m : Nat) : State :=
  let s := closing .free .free (.filling (busyWindow 1 n))
  { s with
    tables := { busyTables with channels := busyTables.channels.set 1 busyChannel }
    channels := s.channels.set 1 { freshChannel with ctx0 := .filling (busyWindow 4 m), seqNext := 5 } }

/-- The clauses of `SetsTaken` on windows that stay open and that displace a PENDING one. -/
theorem witness_ContinuityRuling_delivery :
    (ReadsSource 0 busy 0 ∧ busy.engine ≠ .idle ∧ busy.opState = .analysing
        ∧ blockSix.length = 4 ∧ (∀ i : Fin 2, 47000 ≤ busy.trackers[i].freq ∧ busy.trackers[i].freq ≤ 53000)
        ∧ base.opState ≠ .analysing ∧ busy.capture.state = .armed ∧ busy.capture.source = 0)
      ∧ StaysOpen 68 (closing .free (.filling (busyWindow 1 2491)) .free) 0
      ∧ (∀ x, x ≠ 0 → ReadsSource 0 busy x → StaysOpen 4 busy x)
      ∧ ((faultless busy).fault.record = none ∧ (faultless busy).lineB.forward.length < 32
        ∧ (unitTakes 1 { busy.channels[(0 : Fin 16)] with
            ctx0 := .filling (busyWindow 8 2558), ctx1 := .pending (busyWindow 7 2560) }
          ((List.replicate 4 freshTracker).zip blockSix)).2 = [7]) := by
  refine ⟨⟨⟨by decide, by decide⟩, by decide⟩, fun w h => ?_, fun x hx h => absurd (reads_busy h) hx,
    by decide, by decide, rfl⟩
  rcases h with h | h
  · cases h; decide
  · cases h

/-- The clause of `SetsTaken` on windows that close with the engine IDLE: on one channel at either end of the
frame, with the table memory free or not. -/
theorem witness_ContinuityRuling_closing (n : Nat) (owner : MemOwner) (hn : n ∈ [2556, 2559])
    (ho : owner ∈ [MemOwner.free, .command]) :
    let s := closing owner .free (.filling (busyWindow 1 n))
    s.engine = .idle ∧ s.memOwner = owner ∧ (∀ x : Fin 16, s.channels[x].requests = false)
      ∧ ReadsSource 0 s 0 ∧ ClosesWithin blockSix s 0 (busyWindow 1 n)
      ∧ ∀ x, ReadsSource 0 s x → StaysOpen blockSix.length s x ∨ ∃ w, ClosesWithin blockSix s x w := by
  have closes : ClosesWithin blockSix (closing owner .free (.filling (busyWindow 1 n))) 0 (busyWindow 1 n) := by
    refine ⟨.inr ⟨rfl, rfl⟩, ?_⟩
    fin_cases hn <;> fin_cases ho <;> decide
  refine ⟨rfl, rfl, ?_, ⟨rfl, rfl⟩, closes, fun x h => ?_⟩
  · fin_cases hn <;> fin_cases ho <;> decide
  · obtain rfl : x = 0 := reads_busy h
    exact .inr ⟨_, closes⟩

/-- The same clause with windows of two channels that close. -/
theorem witness_ContinuityRuling_closingTwo :
    let s := closingTwo 2556 2558
    s.engine = .idle ∧ s.opState = .analysing ∧ (∀ x : Fin 16, s.channels[x].requests = false)
      ∧ (ReadsSource 0 s 0 ∧ ClosesWithin blockSix s 0 (busyWindow 1 2556))
      ∧ (ReadsSource 0 s 1 ∧ ClosesWithin blockSix s 1 (busyWindow 4 2558))
      ∧ ∀ x, ReadsSource 0 s x → StaysOpen blockSix.length s x ∨ ∃ w, ClosesWithin blockSix s x w := by
  have zero : ClosesWithin blockSix (closingTwo 2556 2558) 0 (busyWindow 1 2556) :=
    ⟨.inr ⟨rfl, rfl⟩, by decide⟩
  have one : ClosesWithin blockSix (closingTwo 2556 2558) 1 (busyWindow 4 2558) :=
    ⟨.inl ⟨rfl, rfl⟩, by decide⟩
  have key : ∀ x : Fin 16, (closingTwo 2556 2558).active x = true → x = 0 ∨ x = 1 := by decide
  refine ⟨rfl, rfl, by decide, ⟨⟨by decide, rfl⟩, zero⟩, ⟨⟨by decide, rfl⟩, one⟩, fun x h => ?_⟩
  obtain rfl | rfl := key x h.1
  · exact .inr ⟨_, zero⟩
  · exact .inr ⟨_, one⟩

/-- The clauses on the forward queue: line B IDLE, with room and full, the fault record empty and held. -/
theorem witness_ContinuityRuling_forwarded :
    (busy.lineB.sending = none ∧ busy.lineB.forward.length < 32
        ∧ (lineWith 31).sending.isSome = true ∧ (lineWith 31).forward.length < 32
        ∧ 32 ≤ (lineWith 32).forward.length
        ∧ ({ faultless busy with lineB := lineWith 32 } : State).fault.record = none)
      ∧ ∀ s ∈ [busy, { busy with lineB := lineWith 31 }, { busy with lineB := lineWith 32 },
          { faultless busy with lineB := lineWith 32 }],
        LineSettled .b s ∧ s.sources = busy.sources ∧ s.opState ≠ .loading := by
  refine ⟨by decide, fun s hs => ?_⟩
  fin_cases hs <;> exact ⟨settledB_of rfl, rfl, by decide⟩

/-- The clauses on frames that the source monitor does not rule on. -/
theorem witness_ContinuityRuling_passed :
    (sampleSourceId (message (streamFrame 1 [0#8] true).payload) = none
        ∧ (streamFrame 1 [0#8] true).payload.head? = some 0x01#8
        ∧ (streamFrame 1 [0#8] true).ftype = busy.streamType
        ∧ sampleSourceId (message (sampleFrame 2 6).payload) = some 1
        ∧ (∀ i : Fin 8, base.tables.sources[i].enabled = true → base.tables.sources[i].sourceId ≠ 1)
        ∧ base.opState ≠ .loading ∧ State.reset.opState = .loading)
      ∧ ∀ s ∈ [base, busy, State.reset], LinesSettled s := by
  refine ⟨by decide, fun s hs => ?_⟩
  fin_cases hs
  · exact settled_of (by decide) (by decide)
  · exact busy_linesSettled
  · exact settled_of (by decide) (by decide)

/-- `goodWindow` with a magnitude of 100 counts in bin 20, the ratio 200 over its mean of 5,000. -/
def loudWindow : Window :=
  { goodWindow with sums := [{ k := 10, cosSum := 0, sinSum := 0 },
                             { k := 20, cosSum := 4194176000, sinSum := 0 },
                             { k := 120, cosSum := 0, sinSum := 0 }] }

/-- `busy` evaluating `loudWindow`, every trigger class of its capture unit set. -/
def loud : State :=
  { busy with
    engine := .evaluating 0 loudWindow
    capture := { busy.capture with
      settings := { busy.capture.settings with
        classes := { characteristic := true, noncharacteristic := true, interference := true } } } }

set_option maxRecDepth 10000 in
theorem loud_causes :
    (loud.evalInput 0 loudWindow).causes = [.binAlert 0 0 20 .noncharacteristic] := by rfl

set_option maxRecDepth 10000 in
theorem loud_fires :
    alertTrigger 0 0 (loud.evalInput 0 loudWindow).alertEntries loud
      = some (.alert 0 (some 20) .noncharacteristic 0) := by rfl

/-- The clauses on a realign, and on what falls between its notice and its sets. -/
theorem witness_ContinuityRuling_realign :
    (5 + 1 + busy.tables.sources[0].gapLimit < blockPosition (message (sampleFrame 2 15).payload)
        ∧ (∀ i : Fin 2, 47000 ≤ busy.trackers[i].freq ∧ busy.trackers[i].freq ≤ 53000)
        ∧ busy.capture.state = .armed ∧ busy.capture.source = 0
        ∧ base.capture.state ≠ .armed ∧ base.capture.state ≠ .post)
      ∧ ((asked 0x51#8 [] busy).capture.state = .armed
        ∧ (asked 0x51#8 [] busy).command.restart = .none
        ∧ (asked 0x51#8 [] busy).command.queue.head? = some (held 0x51#8 [])
        ∧ commandCode (held 0x51#8 []).bytes = some 0x51 ∧ commandParams (held 0x51#8 []).bytes = [])
      ∧ ({ busy with capture := { busy.capture with state := .post } } : State).capture.state = .post
      ∧ loud.engine = .evaluating 0 loudWindow
      ∧ (loud.opState = .analysing ∧ loud.sources = busy.sources ∧ loud.capture.state = .armed)
      ∧ alertTrigger 0 0 (loud.evalInput 0 loudWindow).alertEntries loud
          = some (.alert 0 (some 20) .noncharacteristic 0) :=
  ⟨by decide, by decide, rfl, rfl, by decide, loud_fires⟩

/-- A line that sends, with the queues given. -/
def lineOf (forward : List Frame) (replies : List Reply) (passedOver : Nat) : LineOut :=
  { forward := forward, replies := replies, sending := some ⟨frameOf 46, false⟩,
    passedOver := passedOver }

theorem witness_TransmitterChoice :
    base.powered = true ∧ base.lineA.sending = none
      ∧ (lineOf [] [⟨frameOf 46, true⟩] 0).forward = []
      ∧ (lineOf [] [⟨frameOf 46, true⟩] 0).replies ≠ []
      ∧ 4 ≤ (lineOf [frameOf 46] [⟨frameOf 46, false⟩] 4).passedOver
      ∧ (State.recordsFor { base with records := [.alarm someAlarm] } .b) ≠ []
      ∧ (lineOf [frameOf 46] [⟨frameOf 46, false⟩] 3).passedOver < 4
      ∧ (lineOf [frameOf 46] [⟨frameOf 46, false⟩] 3).forward = frameOf 46 :: []
      ∧ (lineOf [frameOf 46] [] 4).replies = [] ∧ base.recordsFor .b = [] := by decide

/-! ### Witnesses: timers and evaluations -/

theorem witness_SilenceLosesASource :
    LineSettled .b busy ∧ LineSettled .b (faultless busy) ∧ busy.records.length + 3 ≤ 16
      ∧ busy.powered = true ∧ busy.sources[(1 : Fin 8)].state ≠ .running
      ∧ busy.sources[(0 : Fin 8)].state = .running
      ∧ busy.active 0 = true ∧ busy.tables.channels[(0 : Fin 16)].source = 0
      ∧ busy.active 1 = false ∧ busy.capture.state = .armed ∧ busy.capture.source = 0
      ∧ (faultless busy).sources[(0 : Fin 8)].state = .running
      ∧ (faultless busy).records.length + 3 ≤ 16 :=
  ⟨settledB_of rfl, settledB_of rfl, by decide⟩

/-- A usable measurer. -/
def usableMeasurer : Measurer :=
  { freshMeasurer with usable := true, last := some { freq := 54000, valid := true } }

/-- `busy` with tracker 0 replaced. -/
def trackerIn (tr : Tracker) : State := withTracker 0 tr busy

/-- A tracker in a state, with its two measurers. -/
def trackerOf (st : TrackerState) (p q : Measurer) : Tracker :=
  { freshTracker with state := st, primary := p, secondary := q }

theorem witness_TrackerTimersExpire :
    (∀ s, LineSettled .b (faultless s)) ∧ (∀ tr, LineSettled .b (trackerIn tr))
      ∧ busy.powered = true ∧ (busy.trackers[(0 : Fin 2)].measurer .primary).usable = false
      ∧ (let s := trackerIn (trackerOf .followPrimary usableMeasurer freshMeasurer)
         s.trackers[(0 : Fin 2)].state = .followPrimary
           ∧ (s.trackers[(0 : Fin 2)].measurer .primary).usable = true
           ∧ s.trackers[(0 : Fin 2)].secondary.usable = false
           ∧ (faultless s).trackers = s.trackers ∧ s.records.length + 2 ≤ 16
           ∧ (faultless s).records.length + 2 ≤ 16 ∧ (faultless s).fault.record = none
           ∧ s.fault.record.isSome = true)
      ∧ (let s := trackerIn (trackerOf .followPrimary usableMeasurer usableMeasurer)
         (s.trackers[(0 : Fin 2)].measurer .primary).usable = true
           ∧ s.trackers[(0 : Fin 2)].secondary.usable = true
           ∧ s.trackers[(0 : Fin 2)].secondary.last = some { freq := 54000, valid := true })
      ∧ (let s := trackerIn (trackerOf .followSecondary freshMeasurer usableMeasurer)
         s.trackers[(0 : Fin 2)].state = .followSecondary
           ∧ (s.trackers[(0 : Fin 2)].measurer .secondary).usable = true)
      ∧ (let s := trackerIn (trackerOf .free freshMeasurer usableMeasurer)
         s.trackers[(0 : Fin 2)].state = .free
           ∧ (s.trackers[(0 : Fin 2)].measurer .secondary).usable = true)
      ∧ busy.trackers[(0 : Fin 2)].state = .hold ∧ busy.trackers[(1 : Fin 2)].state ≠ .hold :=
  ⟨fun _ => settledB_of rfl, fun _ => settledB_of rfl, by decide⟩

/-- A COUNTING measurer, armed, whose previous sample, of index 2,999, is −1: a sample 0 crosses at the stamp
768,000. Ten crossings from 112,640 there span 655,360, 50,000 mHz; from 39,792 on 728,208, below 45,000. -/
def rising (crossings peak start : Nat) : Measurer :=
  { freshMeasurer with
    state := .counting, armed := true, prev := some (-1), index := 3000, startStamp := start
    crossings := crossings, peak := peak }

theorem witness_MeasurementsSteerTheTracker :
    let valid : Nat → Nat → Prop := fun start peak =>
      let span := 256 * (3000 - 1) + 256 * (-1 : Int).natAbs / ((0 : Int) - -1).toNat - start
      let f := (32768000000 + span / 2) / span
      45000 ≤ f ∧ f ≤ 55000 ∧ 100 ≤ max peak (0 : Int).natAbs
    ((rising 9 100 112640).state ≠ .idle ∧ (rising 9 100 112640).armed = true
      ∧ (rising 9 100 112640).prev = some (-1) ∧ (-1 : Int) < 0 ∧ (0 : Int) ≤ 0
      ∧ (rising 9 100 112640).state = .counting ∧ (rising 8 100 112640).crossings < 9
      ∧ 9 ≤ (rising 9 100 112640).crossings ∧ valid 112640 100
      ∧ ¬ valid 112640 99 ∧ ¬ valid 39792 100
      ∧ ({ rising 0 0 0 with state := .seeking } : Measurer).state = .seeking)
      ∧ (let m : Measurer := { rising 0 0 0 with armed := false }
         m.state ≠ .idle
          ∧ ∀ x0 : Int, ¬ (m.armed = true ∧ m.prev = some x0 ∧ x0 < 0 ∧ (0 : Int) ≤ 5)) := by
  refine ⟨by decide, by decide, fun x0 h => ?_⟩
  exact absurd h.1 (by decide)

/-- The clauses on what a measurement makes of a tracker: one that changes its state, one that does not, and
the loss of a measurer's usability that does and does not. -/
theorem witness_MeasurementsSteerTheTracker_tracker :
    let failed : Role → Bool := fun x => decide (x = .primary)
    let s := trackerIn (trackerOf .hold usableMeasurer freshMeasurer)
    LineSettled .b s ∧ LineSettled .b (faultless s)
      ∧ (trackerActs 0 .primary (.valid 50000 true) s).trackers[(0 : Fin 2)].state ≠ .hold
      ∧ (trackerActs 0 .primary (.valid 50000 false) s).trackers[(0 : Fin 2)].state = .hold
      ∧ s.records.length + 2 ≤ 16 ∧ (faultless s).records.length + 2 ≤ 16
      ∧ failureFault failed s.trackers[(0 : Fin 2)] = none
      ∧ failureFault failed (trackerOf .followPrimary freshMeasurer freshMeasurer) = some .trackerHold
      ∧ failureFault failed (trackerOf .followPrimary freshMeasurer usableMeasurer)
        = some .referenceSwitch :=
  ⟨settledB_of rfl, settledB_of rfl, by decide⟩

/-- `busy` with the command queue empty. -/
def unasked : State := { busy with command := freshCommand }

/-- A state with a RESTORE of PLANS under way. -/
def restoringIn (s : State) : State := { s with store := { s.store with op := .restoring .plans } }

/-- `busy` with a window PENDING on channel 0 alone, and no command. -/
def onePending : State :=
  { unasked with
    channels := busy.channels.set 0 { freshChannel with ctx1 := .pending (busyWindow 1 2560) } }

/-- `onePending` with windows PENDING on channels 3 and 5 as well, the rotation point at 4. -/
def threePending (mode : ArbiterMode) : State :=
  { onePending with
    channels := (onePending.channels.set 3 { freshChannel with ctx0 := .pending (busyWindow 3 2560) }).set 5
      { freshChannel with ctx0 := .filling (busyWindow 6 1), ctx1 := .pending (busyWindow 5 2560) }
    rotation := 4
    tables := { busyTables with general := { busyTables.general with arbiterMode := mode } } }

theorem servedNext_of {s : State} {c : Fin 16}
    (h : s.channels[c].requests = true
      ∧ ∀ x : Fin 16, s.channels[x].requests = true → placeInOrder s c ≤ placeInOrder s x) :
    ServedNext s c := h

theorem witness_EvaluationCompletes :
    (∀ c w, base.engine ≠ .evaluating c w)
      ∧ (∀ s ∈ [busy, unasked, { busy with opState := .configuring }, threePending .rotating],
        s.engine = .evaluating 0 (busyWindow 0 2560))
      ∧ (busy.powered = true ∧ busy.opState = .analysing ∧ busy.command.requested = true
        ∧ unasked.command.requested = false
        ∧ unasked.restoring = false ∧ (∀ c : Fin 16, unasked.channels[c].requests = false)
        ∧ State.restoring (restoringIn unasked) = true
        ∧ ∀ c : Fin 16, onePending.channels[c].requests = true ↔ c = 0)
      ∧ ServedNext onePending 0
      ∧ ServedNext (threePending .fixed) 0 ∧ ServedNext (threePending .rotating) 5 := by
  refine ⟨(by intro c w h; cases h), fun s hs => ?_, by decide, servedNext_of (by decide),
    servedNext_of (by decide), servedNext_of (by decide)⟩
  fin_cases hs <;> rfl

/-- `loud` with line B busy and `n` alarm records queued. -/
def loudWith (n : Nat) : State := { loud with lineB := lineBusy, records := List.replicate n (.alarm someAlarm) }

theorem witness_EvaluationOffersItsRecords :
    let s : State := { busy with lineB := lineBusy, records := List.replicate 15 (.alarm someAlarm) }
    s.engine = .evaluating 0 (busyWindow 0 2560) ∧ (loudWith 14).engine = .evaluating 0 loudWindow
      ∧ (s.powered = true
        ∧ (s.evalInput 0 (busyWindow 0 2560)).causes = []
        ∧ s.tables.plans[(0 : Fin 16)].verdictMode = .changes ∧ s.records.length + 0 ≤ 16)
      ∧ ((loudWith 14).evalInput 0 loudWindow).causes = [.binAlert 0 0 20 .noncharacteristic]
      ∧ ((loudWith 14).powered = true ∧ (loudWith 14).records.length + 2 ≤ 16
        ∧ loud.records.length + 2 ≤ 16 ∧ loud.lineB.sending = none ∧ loud.fault.record.isSome = true)
      ∧ LineSettled .b s ∧ LineSettled .b (loudWith 14) ∧ LineSettled .b loud :=
  ⟨rfl, rfl, by decide, loud_causes, by decide, settledB_of rfl, settledB_of rfl, settledB_of rfl⟩

/-- The clauses on the fault record held, and on what a verdict record carries. -/
theorem witness_EvaluationOffersItsRecords_verdict :
    let s : State := { busy with lineB := lineBusy, records := List.replicate 16 (.alarm someAlarm) }
    s.engine = .evaluating 0 (busyWindow 0 2560) ∧ s.fault.record.isSome = true
      ∧ s.lineB.sending.isSome = true ∧ TablesLegal busy ∧ ChecksLegal busy ∧ busy.opState ≠ .loading
      ∧ (busyWindow 0 2560).snapshot = busy.tables.plans[(0 : Fin 16)].bins.map PlanBin.k :=
  ⟨rfl, rfl, rfl, busy_tablesLegal, busy_checksLegal, by decide, rfl⟩

/-- The clause on a drop that fills the fault record: of the alarm and the verdict of one completion, the first
or the second meets the full queue. -/
theorem witness_EvaluationOffersItsRecords_drop :
    ∀ n ∈ [15, 16],
      let s : State := { loudWith n with fault := base.fault }
      LineSettled .b s ∧ s.fault.record = none ∧ s.engine = .evaluating 0 loudWindow
        ∧ (s.evalInput 0 loudWindow).causes = [.binAlert 0 0 20 .noncharacteristic]
        ∧ (∃ cause, (joined (List.replicate (16 - n) cause) s).records.length = 16)
        ∧ s.tables.plans[(0 : Fin 16)].verdictMode = .changes := by
  intro n hn
  refine ⟨settledB_of rfl, rfl, rfl, loud_causes, ⟨.alarm someAlarm, ?_⟩, ?_⟩
  · fin_cases hn <;> rfl
  · fin_cases hn <;> decide

/-- A channel unit with the contexts given. -/
def unitOf (c0 c1 : Context) : ChannelUnit := { freshChannel with ctx0 := c0, ctx1 := c1 }

theorem witness_ChannelUnitTakesASet :
    (unitOf .free .free).ctx0 = .free ∧ (unitOf .free .free).ctx1.isFilling = false
      ∧ 1 < ((unitOf .free .free).opened freshTracker { second := 0, counter := 0 }).len
      ∧ (unitOf .free (.pending (busyWindow 0 2560))).ctx1.isFilling = false
      ∧ (unitOf (.pending (busyWindow 0 2560)) .free).ctx0 = .pending (busyWindow 0 2560)
      ∧ (unitOf (.pending (busyWindow 0 2560)) .free).ctx1 = .free
      ∧ (unitOf (.filling (busyWindow 0 2558)) .free).ctx1.isFilling = false
      ∧ (busyWindow 0 2558).count + 1 < (busyWindow 0 2558).len
      ∧ (busyWindow 0 2559).count + 1 = (busyWindow 0 2559).len
      ∧ (unitOf (.filling (busyWindow 1 2559)) (.pending (busyWindow 0 2560))).ctx1
          = .pending (busyWindow 0 2560)
      ∧ (∀ c ∈ [Context.free, .pending (busyWindow 0 2560)],
          (unitOf c (.filling (busyWindow 1 2558))).ctx0.isFilling = false
            ∧ (unitOf c (.filling (busyWindow 1 2559))).ctx1 = .filling (busyWindow 1 2559)
            ∧ (unitOf c (.filling (busyWindow 1 2559))).ctx0 = c) := by decide

/-! ### Witnesses: the commands of the host computer -/

/-- `base` in ANALYSING. -/
def analysing : State := { base with opState := .analysing }

theorem witness_CommandsAreScreened :
    codeOf .readStatus = some 0x02
      ∧ (asked 0x40#8 [] base).command.queue.head? = some (held 0x40#8 [])
      ∧ commandCode (held 0x40#8 []).bytes ≠ some 0x02
      ∧ AtFront 0x02 (asked 0x02#8 [] State.reset) (held 0x02#8 [])
      ∧ (asked 0x02#8 [] State.reset).opState = .loading ∧ Instr.readStatus ≠ .identify
      ∧ Accepts 0x02 (asked 0x02#8 [0#8] base) (held 0x02#8 [0#8])
      ∧ decodes .readStatus (commandParams (held 0x02#8 [0#8]).bytes) = false
      ∧ LinesSettled (asked 0x77#8 [] base)
      ∧ (∀ i, codeOf i ≠ none → codeOf i ≠ commandCode (held 0x77#8 []).bytes)
      ∧ codeOf .readStatus = commandCode (held 0x02#8 []).bytes := by
  refine ⟨rfl, rfl, by decide, atFront_of (by decide), rfl, by decide, accepts_of (by decide),
    by decide, settled_of (by decide) (by decide), ?_, by decide⟩
  have h : commandCode (held 0x77#8 []).bytes = some 0x77 := by decide
  rw [h]
  intro i _
  cases i <;> simp [codeOf]

theorem witness_ReportsAndClears :
    AtFront 0x01 (asked 0x01#8 [] State.reset) (held 0x01#8 [])
      ∧ commandParams (held 0x01#8 []).bytes = []
      ∧ Accepts 0x02 (asked 0x02#8 [] busy) (held 0x02#8 [])
      ∧ Accepts 0x32 (asked 0x32#8 [] busy) (held 0x32#8 [])
      ∧ Accepts 0x40 (asked 0x40#8 [] busy) (held 0x40#8 [])
      ∧ Accepts 0x41 (asked 0x41#8 [] busy) (held 0x41#8 [])
      ∧ Accepts 0x42 (asked 0x42#8 [] busy) (held 0x42#8 [])
      ∧ commandParams (held 0x42#8 []).bytes = [] :=
  ⟨atFront_of (by decide), by decide, accepts_of (by decide), accepts_of (by decide),
    accepts_of (by decide), accepts_of (by decide), accepts_of (by decide), by decide⟩

/-- `busy` with no command, its engine IDLE and the table memory free. -/
def resting : State := { unasked with engine := .idle, memOwner := .free }

theorem witness_ReadingEntriesAndChecks :
    Accepts 0x10 (asked 0x10#8 [7#8, 15#8] base) (held 0x10#8 [7#8, 15#8])
      ∧ (entryContent base.tables 7 15).isSome = true ∧ HasMemory (asked 0x10#8 [7#8, 15#8] base)
      ∧ (entryContent base.tables 7 16) = none ∧ (entryContent base.tables 8 0) = none
      ∧ commandParams (held 0x10#8 [7#8, 15#8]).bytes = [7#8, 15#8]
      ∧ Accepts 0x10 (asked 0x10#8 [0#8, 0#8] (restoringIn base)) (held 0x10#8 [0#8, 0#8])
      ∧ (restoringIn base).restoring = true ∧ (restoringIn base).command.requested = false
      ∧ Accepts 0x12 (asked 0x12#8 [15#8] base) (held 0x12#8 [15#8])
      ∧ (15#8).toNat = (15 : Fin 16).val ∧ HasMemory (asked 0x12#8 [15#8] base)
      ∧ Accepts 0x12 (asked 0x12#8 [15#8] (restoringIn base)) (held 0x12#8 [15#8])
      ∧ Accepts 0x12 (asked 0x12#8 [16#8] base) (held 0x12#8 [16#8]) ∧ 16 ≤ (16#8).toNat
      ∧ Accepts 0x12 (asked 0x12#8 [0#8] resting) (held 0x12#8 [0#8])
      ∧ HasMemory (asked 0x12#8 [0#8] resting)
      ∧ TablesLegal (asked 0x12#8 [0#8] resting) ∧ ChecksLegal (asked 0x12#8 [0#8] resting) :=
  ⟨accepts_of (by decide), by decide, hasMemory_of (by decide), by decide, by decide, by decide,
    accepts_of (by decide), by decide, by decide, accepts_of (by decide), by decide,
    hasMemory_of (by decide), accepts_of (by decide), accepts_of (by decide), by decide,
    accepts_of (by decide), hasMemory_of (by decide),
    ⟨busyTables_legal, factoryTables_legal, (fun _ h => by cases h), fun _ => busyTables_consistent⟩,
    fun h => busy_checksLegal h⟩

/-- `busy` with its command granted the memory, the engine waiting with its copy or without. -/
def granted (copy : Option Window) : State :=
  { busy with engine := .waiting 0 copy, memOwner := .command }

/-- WRITE ENTRY parameters: a BANDS entry 7 of weight `w`, edges 1 and `hi` Hz. -/
def bandWrite (hi w : Nat) : List Byte := [6#8, 7#8, 1#8] ++ put2 1 ++ put2 hi ++ put2 w

/-- WRITE ENTRY parameters: CHANNELS entry 0 disabled, on slot 1 of source 0. -/
def channelWrite : List Byte := [2#8, 0#8, 0#8, 0#8, 1#8, 2#8, 0#8]

/-- `granted` with a command of its own and what follows it in the command queue. -/
def grantedTo (c : CommandFrame) (rest : List CommandFrame) (copy : Option Window) : State :=
  { granted copy with command := { queue := c :: rest, requested := true, restart := .none } }

theorem witness_TableMemoryIsHandedOver :
    codeOf .readChecks = some 0x12 ∧ Accepts 0x12 busy (held 0x12#8 [0#8])
      ∧ (held 0x12#8 [0#8]).needsMemory ∧ busy.memOwner = .engine ∧ busy.command.requested = true
      ∧ Accepts 0x12 (asked 0x12#8 [0#8] unasked) (held 0x12#8 [0#8])
      ∧ unasked.memOwner = .engine ∧ unasked.command.requested = false ∧ unasked.restoring = false
      ∧ Accepts 0x30 (asked 0x30#8 [7#8] unasked) (held 0x30#8 [7#8])
      ∧ (held 0x30#8 [7#8]).needsMemory ∧ unasked.store.op = .idle
      ∧ unasked.protection.freeze = false ∧ unasked.inForce.mode = .opened
      ∧ tableOf? (7#8).toNat = some .signatures ∧ unasked.inForce.locks[TableId.signatures.num] = false
      ∧ Accepts 0x12 (granted (some (busyWindow 0 2560))) (held 0x12#8 [0#8])
      ∧ (granted (some (busyWindow 0 2560))).engine = .waiting 0 (some (busyWindow 0 2560))
      ∧ (granted (some (busyWindow 0 2560))).memOwner = .command
      ∧ (granted (some (busyWindow 0 2560))).command.requested = true :=
  ⟨rfl, accepts_of (by decide), busy_needsMemory, rfl, rfl, accepts_of (by decide), rfl, rfl,
    by decide, accepts_of (by decide),
    Or.inr (Or.inr (Or.inr (Or.inr (Or.inr ⟨by decide, by decide⟩)))), rfl, rfl, by decide, rfl, by decide,
    accepts_of (by decide), rfl, rfl, rfl⟩

/-- The clauses on a WRITE ENTRY that held the memory: of BANDS, which leaves the waiting copy, and of
CHANNELS, which discards it; and on READ CHECKS whose engine's copy is gone; each alone and with a command
behind it that asks at once. -/
theorem witness_TableMemoryIsHandedOver_writes :
    let copy := some (busyWindow 0 2560)
    let b := held 0x11#8 (bandWrite 6400 1001)
    let c := held 0x11#8 channelWrite
    let d := held 0x12#8 [0#8]
    (Accepts 0x11 (grantedTo b [] copy) b
        ∧ (∃ w e clamped, parseWrite (commandParams b.bytes) = some w
          ∧ (grantedTo b [] copy).permitted w = true
          ∧ judge (grantedTo b [] copy) w = .ok (e, clamped)
          ∧ (applyWrite e { grantedTo b [] copy with ties := [] }).engine = .waiting 0 copy))
      ∧ (∀ rest ∈ [[], [d]], Accepts 0x11 (grantedTo c rest copy) c
        ∧ (grantedTo c rest copy).command.queue = c :: rest
        ∧ (grantedTo c rest copy).memOwner = .command ∧ (grantedTo c rest copy).restoring = false
        ∧ ∃ w e clamped, parseWrite (commandParams c.bytes) = some w
          ∧ (grantedTo c rest copy).permitted w = true
          ∧ judge (grantedTo c rest copy) w = .ok (e, clamped)
          ∧ (applyWrite e { grantedTo c rest copy with ties := [] }).engine = .waiting 0 none
          ∧ ∀ x : Fin 16,
            (applyWrite e { grantedTo c rest copy with ties := [] }).channels[x].requests = false)
      ∧ (∀ rest ∈ [[], [d]], Accepts 0x12 (grantedTo d rest none) d
        ∧ (grantedTo d rest none).command.queue = d :: rest
        ∧ (grantedTo d rest none).engine = .waiting 0 none
        ∧ (grantedTo d rest none).restoring = false
        ∧ ∀ x : Fin 16, (grantedTo d rest none).channels[x].requests = false)
      ∧ AsksAtOnce d := by
  refine ⟨⟨accepts_of (by decide), _, _, _, rfl, by decide, rfl, by decide⟩, fun rest h => ?_,
    fun rest h => ?_, Or.inr (Or.inl ⟨by decide, by decide⟩)⟩
  rotate_left
  · fin_cases h <;> exact ⟨accepts_of (by decide), rfl, rfl, by decide, by decide⟩
  fin_cases h <;> exact ⟨accepts_of (by decide), rfl, rfl, by decide, _, _, _, rfl, by decide, rfl, by decide,
    by decide⟩

/-- `base` with the runtime lock of BANDS set. -/
def lockedBase : State :=
  { base with protection := { base.protection with runtime := base.protection.runtime.set 6 true } }

/-- `base` with groups 0 and 1 in the guard range. -/
def guardedBase : State :=
  { base with store := { factoryStore with
      copy0 := { factoryStore.copy0 with content := { factoryProtection with first := 0, last := 1
                                                                             complement := false } } } }

theorem witness_WriteEntryReplacesAnEntry :
    let c := held 0x11#8 (bandWrite 6400 1001)
    let w : RawWrite := .band 7 { enabled := true, low := 1, high := 6400, weight := 1001 }
    let bad : RawWrite := .band 7 { enabled := true, low := 1, high := 6401, weight := 0 }
    Accepts 0x11 (asked 0x11#8 (bandWrite 6400 1001) base) c
      ∧ HasMemory (asked 0x11#8 (bandWrite 6400 1001) base)
      ∧ parseWrite (commandParams c.bytes) = some w
      ∧ ¬ Forbidden (asked 0x11#8 (bandWrite 6400 1001) base) w
      ∧ judge base w = .ok (.band 7 { enabled := true, low := 1, high := 6400, weight := 1000 }, true)
      ∧ Forbidden lockedBase w ∧ Accepts 0x11 (asked 0x11#8 (bandWrite 6400 1001) lockedBase) c
      ∧ HasMemory (asked 0x11#8 (bandWrite 6400 1001) lockedBase)
      ∧ parseWrite (bandWrite 6401 0) = some bad ∧ judge base bad = .error .badParam
      ∧ ¬ Forbidden base bad
      ∧ (∀ row, Forbidden guardedBase (.plan 0 row))
      ∧ Guards guardedBase.inForce 1 ∧ ¬ Guards guardedBase.inForce 2 ∧ ¬ Guards guardedBase.inForce 4 := by
  refine ⟨accepts_of (by decide), hasMemory_of (by decide), by decide, ?_, by decide, Or.inl (by decide),
    accepts_of (by decide), hasMemory_of (by decide), by decide, by decide, ?_, ?_, ?_, ?_, ?_⟩
  · simp only [Forbidden, tableNumber]; decide
  · simp only [Forbidden, tableNumber]; decide
  · intro row
    refine Or.inr (Or.inr ?_)
    show Guards guardedBase.inForce _
    unfold Guards; decide
  · unfold Guards; decide
  · unfold Guards; decide
  · unfold Guards; decide

/-- A state with its capture unit ARMED. -/
def captureArmed (s : State) : State := { s with capture := { s.capture with state := .armed } }

/-- GENERAL content with a station number and a pre-trigger count. -/
def rawGeneral (station pre : Nat) : RawGeneral :=
  { station := station, streamType := 0, autoStart := true, arbiter := 1, source := 7, preTrigger := pre
    classes := 7, autoRearm := true }

/-- SOURCES content of a source id and a gap limit. -/
def rawSource (id gap : Nat) : RawSource :=
  { enabled := true, sourceId := id, channelCount := 8, fill := 1, gapLimit := gap, silenceTimeout := 1 }

/-- CHANNELS content of a kind on slot 0. -/
def rawChannel (kind : Nat) : RawChannel :=
  { enabled := true, source := 7, slot := 0, kind := kind, group := 3 }

/-- GROUPS content of a pulse number and a fill limit. -/
def rawGroup (pulse fill : Nat) : RawGroup :=
  { enabled := true, pulse := pulse, tracker := 1, dcFloor := 16777215, acFloor := 0, fillLimit := fill
    interferenceLimit := 0, interferenceHysteresis := 0 }

/-- TRACKERS content of two references and a hold time. -/
def rawTracker (p q hold : Nat) : RawTracker :=
  { primary := p, secondary := q, floor := 8388608, holdTime := hold, mode := 1, fixedFrequency := 53000 }

/-- PLANS content of one bin and a raise count. -/
def rawPlan (k raise : Nat) : RawPlan :=
  { hysteresis := 0, raiseCount := raise, clearCount := 1, verdictMode := 2, bins := [⟨k, 0, 3⟩] }

/-- SIGNATURES content of a bin set and a condition code. -/
def rawSignature (ks : List Nat) (code : Nat) : RawSignature :=
  { enabled := true, kind := 3, bins := ks, code := code }

/-- The clauses on content, one of each table at the edges of its ranges: refused, kept as it is, clamped. -/
theorem witness_WriteEntryReplacesAnEntry_content :
    (∀ w ∈ [.general (rawGeneral 65535 0), .source 0 (rawSource 0 1), .channel 0 (rawChannel 4),
        .group 3 (rawGroup 7 0), .tracker 1 (rawTracker 255 0 1), .plan 15 (rawPlan 1201 1),
        .band 7 { enabled := true, low := 2, high := 1, weight := 0 }, .signature 15 (rawSignature [1, 1] 1)],
        BadContent base w)
      ∧ (∀ w ∈ [.general (rawGeneral 65534 4095), .source 0 (rawSource 65534 16), .channel 0 (rawChannel 3),
        .group 3 (rawGroup 24 2723), .tracker 1 (rawTracker 0 15 600), .plan 15 (rawPlan 1200 15),
        .band 7 { enabled := true, low := 6400, high := 6400, weight := 1000 },
        .signature 15 (rawSignature [1200, 1] 255)],
        ¬ BadContent base w ∧ ¬ HeldByCapture base w ∧ ¬ IsClamped w)
      ∧ (∀ w ∈ [.general (rawGeneral 65534 4096), .source 0 (rawSource 65534 17),
        .group 3 (rawGroup 24 2724), .tracker 1 (rawTracker 0 15 601), .plan 15 (rawPlan 1200 16),
        .band 7 { enabled := true, low := 6400, high := 6400, weight := 1001 }], IsClamped w)
      ∧ HeldByCapture (captureArmed base) (.general (rawGeneral 65534 4095))
      ∧ ¬ BadContent (captureArmed base) (.general (rawGeneral 65534 4095)) := by
  refine ⟨fun w h => ?_, fun w h => ?_, fun w h => ?_, ?_, ?_⟩
  · fin_cases h <;> simp only [BadContent] <;> decide
  · fin_cases h <;> simp only [BadContent, HeldByCapture, IsClamped] <;> decide
  · fin_cases h <;> simp only [IsClamped] <;> decide
  · simp only [HeldByCapture]; decide
  · simp only [BadContent]; decide

/-- The clause on a RESTORE copy that waits for or holds the memory. -/
theorem witness_WriteEntryReplacesAnEntry_busy :
    Accepts 0x11 (asked 0x11#8 (bandWrite 6400 1001) (restoringIn base)) (held 0x11#8 (bandWrite 6400 1001))
      ∧ (parseWrite (commandParams (held 0x11#8 (bandWrite 6400 1001)).bytes)).isSome = true
      ∧ (restoringIn base).command.requested = false ∧ (restoringIn base).restoring = true :=
  ⟨accepts_of (by decide), by decide, rfl, by decide⟩

/-- `busy` with tracker 0 following a usable primary that reads AC channel 1, on slot 0 of source 0. -/
def following : State :=
  { trackerIn (trackerOf .followPrimary usableMeasurer freshMeasurer) with
    tables := { busyTables with
      channels := busyTables.channels.set 1
        { enabled := true, source := 0, slot := 0, kind := .acVoltage, group := 0 }
      trackers := busyTables.trackers.set 0 { factoryTracker with primary := some 1 } } }

theorem witness_WritesThatEndWindows :
    (busy.tables.sources[(1 : Fin 8)].enabled = false ∧ busySource.enabled = true)
      ∧ (busy.tables.sources[(0 : Fin 8)].enabled = true
        ∧ busy.tables.sources[(0 : Fin 8)].channelCount ≠ factorySource.channelCount
        ∧ busy.tables.sources[(0 : Fin 8)].sourceId = busySource.sourceId
        ∧ busy.tables.sources[(0 : Fin 8)].channelCount = busySource.channelCount
        ∧ factorySource.enabled = false ∧ busy.tables.sources[(1 : Fin 8)].enabled = factorySource.enabled)
      ∧ (following.tables.sources[(0 : Fin 8)].enabled = true
        ∧ failureFault
            (fun r => (following.referenceSlot 0 r 0).isSome
              && (following.trackers[(0 : Fin 2)].measurer r).usable)
            following.trackers[(0 : Fin 2)] = some .trackerHold)
      ∧ busy.tables.channels[(0 : Fin 16)] ≠ factoryChannel
      ∧ (granted (some (busyWindow 0 2560))).engine = .waiting 0 (some (busyWindow 0 2560))
      ∧ (TablesLegal busy ∧ ChecksLegal busy ∧ busy.opState ≠ .loading) :=
  ⟨by decide, by decide, by decide, by decide, rfl, busy_tablesLegal, busy_checksLegal, by decide⟩

theorem witness_EntryContentRoundTrip :
    TablesLegal busy ∧ busy.opState ≠ .loading
      ∧ entryContent busy.tables (5#8).toNat (0#8).toNat = some (encodePlan busyPlan)
      ∧ entryContent busy.tables (7#8).toNat (15#8).toNat = some (encodeSignature factorySignature) :=
  ⟨busy_tablesLegal, by decide, by decide, by decide⟩

/-- SET TRACKER parameters: tracker, mode, fixed frequency. -/
def trackerWrite (i mode f : Nat) : List Byte := put1 i ++ put1 mode ++ put4 f

/-- `base` with the runtime lock of TRACKERS set. -/
def lockedTrackers : State :=
  { base with protection := { base.protection with runtime := base.protection.runtime.set 4 true } }

theorem witness_SetTrackerRequestsAMode :
    (∀ f ∈ [46999, 47000, 53000, 53001], ∀ mode ∈ [0, 1, 2],
        parseSetTracker (commandParams (held 0x13#8 (trackerWrite 1 mode f)).bytes)
          = some ((1 : Fin 2).val, mode, f))
      ∧ Accepts 0x13 (asked 0x13#8 (trackerWrite 1 1 53000) base) (held 0x13#8 (trackerWrite 1 1 53000))
      ∧ HasMemory (asked 0x13#8 (trackerWrite 1 1 53000) base)
      ∧ ¬ (base.protection.runtime[4] = true ∨ base.inForce.locks[4] = true)
      ∧ Accepts 0x13 (asked 0x13#8 (trackerWrite 1 1 53000) lockedTrackers)
          (held 0x13#8 (trackerWrite 1 1 53000))
      ∧ HasMemory (asked 0x13#8 (trackerWrite 1 1 53000) lockedTrackers)
      ∧ lockedTrackers.protection.runtime[4] = true
      ∧ following.tables.trackers[(0 : Fin 2)] ≠ factoryTracker
      ∧ failureFault (fun r => following.tables.trackers[(0 : Fin 2)].reference r
          != factoryTracker.reference r) following.trackers[(0 : Fin 2)] = some .trackerHold
      ∧ (modeRequested .fixed 53000 10 base.trackers[(1 : Fin 2)]).state
        ≠ base.trackers[(1 : Fin 2)].state
      ∧ (modeRequested .auto 53000 10 base.trackers[(1 : Fin 2)]).state = base.trackers[(1 : Fin 2)].state
      ∧ (∀ s ∈ [base, following, faultless following], s.records.length + 2 ≤ 16)
      ∧ ∀ s ∈ [base, following, faultless following], LineSettled .b s := by
  refine ⟨by decide, accepts_of (by decide), hasMemory_of (by decide), by decide, accepts_of (by decide),
    hasMemory_of (by decide), by decide, by decide, by decide, by decide, by decide, by decide,
    fun s hs => ?_⟩
  fin_cases hs <;> exact settledB_of rfl

/-- The clauses on a tracker that does not exist, and on a RESTORE under way. -/
theorem witness_SetTrackerRequestsAMode_refused :
    (∀ i ∈ [0, 1, 2], ∀ s ∈ [base, restoringIn base],
        Accepts 0x13 (asked 0x13#8 (trackerWrite i 1 53000) s) (held 0x13#8 (trackerWrite i 1 53000))
          ∧ parseSetTracker (commandParams (held 0x13#8 (trackerWrite i 1 53000)).bytes) = some (i, 1, 53000)
          ∧ s.command.requested = false)
      ∧ (restoringIn base).restoring = true := by
  refine ⟨fun i hi s hs => ?_, by decide⟩
  fin_cases hi <;> fin_cases hs <;> exact ⟨accepts_of (by decide), by decide, rfl⟩

theorem witness_AnalysisStartsAndStops :
    commandParams (held 0x20#8 []).bytes = [] ∧ commandParams (held 0x21#8 []).bytes = []
      ∧ Accepts 0x20 (asked 0x20#8 [] base) (held 0x20#8 []) ∧ base.opState = .configuring
      ∧ HasMemory (asked 0x20#8 [] base)
      ∧ Accepts 0x20 (asked 0x20#8 [] analysing) (held 0x20#8 []) ∧ analysing.opState = .analysing
      ∧ analysing.command.requested = false
      ∧ Accepts 0x20 (asked 0x20#8 [] (restoringIn base)) (held 0x20#8 [])
      ∧ (restoringIn base).restoring = true
      ∧ Accepts 0x21 (asked 0x21#8 [] analysing) (held 0x21#8 [])
      ∧ Accepts 0x21 (asked 0x21#8 [] base) (held 0x21#8 []) :=
  ⟨by decide, by decide, accepts_of (by decide), rfl, hasMemory_of (by decide), accepts_of (by decide),
    rfl, rfl, accepts_of (by decide), by decide, accepts_of (by decide), accepts_of (by decide)⟩

/-- `busy` with a RESTART come some way. -/
def restartAt (p : RestartPhase) : State :=
  { busy with command := { busy.command with restart := p } }

theorem witness_RestartHoldsTheCommands :
    Accepts 0x22 (asked 0x22#8 [] base) (held 0x22#8 []) ∧ commandParams (held 0x22#8 []).bytes = []
      ∧ (restartAt .replied).command.restart ≠ .none ∧ (restartAt .replied).command.restart ≠ .due
      ∧ codeOf .identify ≠ none :=
  ⟨accepts_of (by decide), by decide, by decide, by decide, by decide⟩

theorem witness_TheTwoRestarts :
    (restartAt .due).powered = true ∧ (restartAt .due).command.restart = .due := ⟨rfl, rfl⟩

/-- `State.reset` with some tables loaded and the image of a table invalid. -/
def loadingAt (n : Nat) (ok : Bool) : State :=
  { State.reset with
    loadedTables := n, fault := busy.fault
    store := { factoryStore with valid := factoryStore.valid.set 7 ok } }

theorem witness_LoadCopiesTheNextTable :
    TakesFaults (loadingAt 7 false) ∧ TakesFaults (faultless (loadingAt 7 false))
      ∧ base.powered = true ∧ base.opState ≠ .loading ∧ (loadingAt 8 true).loadedTables = 8
      ∧ (loadingAt 7 true).opState = .loading ∧ (loadingAt 0 true).loadedTables = TableId.general.num.val
      ∧ (loadingAt 0 true).store.valid[TableId.general.num] = true
      ∧ (loadingAt 7 true).loadedTables = TableId.signatures.num.val
      ∧ (loadingAt 7 true).store.valid[TableId.signatures.num] = true
      ∧ (loadingAt 7 false).store.valid[TableId.signatures.num] = false
      ∧ (faultless (loadingAt 7 false)).fault.record = none :=
  ⟨.inl rfl, .inr (settledB_of rfl), by decide⟩

theorem witness_LoadCompletes :
    ((loadingAt 8 true).powered = true ∧ (loadingAt 8 true).opState = .loading
      ∧ (loadingAt 8 true).loadedTables = 8
      ∧ ¬ ((loadingAt 7 true).opState = .loading ∧ (loadingAt 7 true).loadedTables = 8)
      ∧ (∀ i : Fin 2, (repair factoryTables).trackers[i].mode = .auto)
      ∧ (repair busyTables).sources[(0 : Fin 8)].enabled = true
      ∧ (repair busyTables).sources[(1 : Fin 8)].enabled = false
      ∧ (faultless (loadingAt 8 true)).loadedTables = 8
      ∧ (faultless (loadingAt 8 true)).opState = .loading
      ∧ (loadingAt 8 true).records.length + 2 ≤ 16
      ∧ (faultless (loadingAt 8 true)).records.length + 2 ≤ 16)
      ∧ LineSettled .b (loadingAt 8 true) ∧ LineSettled .b (faultless (loadingAt 8 true)) :=
  ⟨by decide, settledB_of rfl, settledB_of rfl⟩

/-- Tables that need repair: channel 0 enabled on a slot that its source does not have, tracker 0 with a primary
that is not AC_VOLTAGE, tracker 1 with a secondary equal to its primary, channel 1 AC_CURRENT with bin 10. -/
def spoiltTables : Tables :=
  { busyTables with
    channels := (busyTables.channels.set 0 { busyChannel with slot := 2 }).set 1
      { busyChannel with enabled := false, kind := .acCurrent }
    trackers := (busyTables.trackers.set 0 { factoryTracker with primary := some 0, secondary := some 2 }).set 1
      { factoryTracker with primary := some 2, secondary := some 2 }
    plans := busyTables.plans.set 1 { busyPlan with bins := [{ k := 10, limit := 40, cls := .auto }] } }

theorem witness_RepairMakesConsistent :
    busyTables.legal ∧ busyTables.consistent
      ∧ (spoiltTables.channels[(0 : Fin 16)].enabled = true
        ∧ spoiltTables.sources[(0 : Fin 8)].channelCount ≤ spoiltTables.channels[(0 : Fin 16)].slot.val
        ∧ spoiltTables.channels[(0 : Fin 16)].kind = .dcVoltage
        ∧ spoiltTables.channels[(1 : Fin 16)].kind = .acCurrent
        ∧ spoiltTables.channels[(2 : Fin 16)].kind = .acVoltage)
      ∧ ((repair spoiltTables).channels[(0 : Fin 16)].enabled = false
        ∧ (repair spoiltTables).trackers[(0 : Fin 2)].primary = none
        ∧ (repair spoiltTables).trackers[(0 : Fin 2)].secondary = none
        ∧ (repair spoiltTables).trackers[(1 : Fin 2)].primary = some 2
        ∧ (repair spoiltTables).trackers[(1 : Fin 2)].secondary = none
        ∧ (repair spoiltTables).plans[(1 : Fin 16)].bins = []
        ∧ repairedCount spoiltTables (repair spoiltTables) = 4) :=
  ⟨busyTables_legal, busyTables_consistent, by decide, by decide⟩

/-! ### Witnesses: capture -/

/-- A sample set of two values. -/
def someSet : SampleSet :=
  { stamp := { second := 0, counter := 0 }, test := false
    values := [{ value := 7, filled := false }, { value := 8, filled := true }] }

/-- A capture header with a total. -/
def someHeader (total : Option Nat) : CaptureHeader :=
  { source := 0, perSet := 2, cause := .command 5, stamp := none, time := 0, preActual := 1
    total := total, truncated := total.isSome }

/-- `base` with the capture unit in a state. -/
def captureIn (st : CaptureState) : State :=
  { base with capture := { freshCapture with
      state := st, perSet := 2
      buffer := if st = .off then [] else [someSet, someSet]
      header := if st = .held then some (someHeader (some 2))
        else if st = .post then some (someHeader none) else none } }

theorem witness_CaptureCommands :
    commandParams (held 0x50#8 []).bytes = [] ∧ commandParams (held 0x51#8 []).bytes = []
      ∧ Accepts 0x50 (asked 0x50#8 [] (captureIn .off)) (held 0x50#8 [])
      ∧ (captureIn .off).capture.state = .off
      ∧ Accepts 0x50 (asked 0x50#8 [] (captureIn .armed)) (held 0x50#8 [])
      ∧ (captureIn .armed).capture.state ≠ .off
      ∧ Accepts 0x53 (asked 0x53#8 [] (captureIn .held)) (held 0x53#8 [])
      ∧ (captureIn .held).capture.state = .held
      ∧ Accepts 0x53 (asked 0x53#8 [] (captureIn .post)) (held 0x53#8 [])
      ∧ (captureIn .post).capture.state ≠ .held
      ∧ Accepts 0x54 (asked 0x54#8 [] (captureIn .post)) (held 0x54#8 [])
      ∧ Accepts 0x51 (asked 0x51#8 [] (captureIn .off)) (held 0x51#8 [])
      ∧ Accepts 0x51 (asked 0x51#8 [] (captureIn .armed)) (held 0x51#8 [])
      ∧ (captureIn .armed).capture.state = .armed
      ∧ Accepts 0x51 (asked 0x51#8 [] (captureIn .post)) (held 0x51#8 [])
      ∧ (captureIn .post).capture.state = .post
      ∧ Accepts 0x51 (asked 0x51#8 [] (captureIn .held)) (held 0x51#8 []) :=
  ⟨by decide, by decide, accepts_of (by decide), rfl, accepts_of (by decide), by decide,
    accepts_of (by decide), rfl, accepts_of (by decide), by decide, accepts_of (by decide),
    accepts_of (by decide), accepts_of (by decide), rfl, accepts_of (by decide), rfl,
    accepts_of (by decide)⟩

theorem witness_CaptureIsRead :
    (∀ n ∈ [0, 1, 2, 3, 32, 33], commandParams (held 0x52#8 [0#8, 0#8, BitVec.ofNat 8 n]).bytes
        = [0#8, 0#8, BitVec.ofNat 8 n])
      ∧ Accepts 0x52 (asked 0x52#8 [0#8, 0#8, 2#8] (captureIn .held)) (held 0x52#8 [0#8, 0#8, 2#8])
      ∧ (captureIn .held).capture.header = some (someHeader (some 2))
      ∧ (someHeader (some 2)).total = some 2
      ∧ (32 < (33#8).toNat ∧ 2 < 0 + (3#8).toNat ∧ (0#8).toNat < 1)
      ∧ (1 ≤ (2#8).toNat ∧ (2#8).toNat ≤ 32 ∧ 0 + (2#8).toNat ≤ 2)
      ∧ Accepts 0x52 (asked 0x52#8 [0#8, 0#8, 2#8] (captureIn .post)) (held 0x52#8 [0#8, 0#8, 2#8])
      ∧ (captureIn .post).capture.state ≠ .held ∧ CaptureLegal (captureIn .held) :=
  ⟨by decide, accepts_of (by decide), rfl, rfl, by decide, by decide, accepts_of (by decide), by decide,
    by decide, by decide, by decide, fun _ => rfl, (fun h => absurd h (by decide)),
    someHeader (some 2), rfl, rfl, rfl, rfl, by decide, by decide⟩

theorem witness_CaptureKeepsTheLatestSets :
    (captureIn .armed).capture.state = .armed ∧ (captureIn .armed).capture.buffer.length ≤ 4096
      ∧ (captureIn .post).capture.state = .post ∧ 2 + (List.replicate 4093 someSet).length < 4096
      ∧ (captureIn .post).capture.buffer.length < 4096
      ∧ (captureIn .post).capture.header = some (someHeader none)
      ∧ 4096 ≤ 2 + (List.replicate 4094 someSet).length :=
  ⟨rfl, by decide, rfl, by rw [List.length_replicate]; decide, by decide, rfl,
    by rw [List.length_replicate]⟩

/-! ### Witnesses: the settings store and protection -/

/-- A state with KEYED mode in force and the maintenance line open or closed. -/
def keyed (closed : Bool) : State :=
  { base with
    maintenanceClosed := closed
    store := { factoryStore with
      copy0 := { factoryStore.copy0 with content := { factoryProtection with mode := .keyed } } } }

/-- `base` with the freeze flag set. -/
def frozen : State := { base with protection := { base.protection with freeze := true } }

/-- `base` with the store unit engaged. -/
def storing : State :=
  { base with
    fault := busy.fault
    store := { factoryStore with
      op := .storing (factoryTables.image .bands), valid := factoryStore.valid.set 6 false } }

theorem witness_StoringATable :
    commandParams (held 0x30#8 [7#8]).bytes = [7#8] ∧ tableOf? (7#8).toNat = some .signatures
      ∧ Accepts 0x30 (asked 0x30#8 [7#8] base) (held 0x30#8 [7#8])
      ∧ base.store.op = .idle ∧ base.inForce.locks[TableId.signatures.num] = false
      ∧ base.protection.freeze = false ∧ base.inForce.mode = .opened
      ∧ HasMemory (asked 0x30#8 [7#8] base)
      ∧ Accepts 0x30 (asked 0x30#8 [7#8] storing) (held 0x30#8 [7#8])
      ∧ storing.command.requested = false ∧ storing.store.op ≠ .idle
      ∧ Accepts 0x30 (asked 0x30#8 [7#8] frozen) (held 0x30#8 [7#8])
      ∧ frozen.protection.freeze = true
      ∧ Accepts 0x30 (asked 0x30#8 [7#8] (keyed false)) (held 0x30#8 [7#8])
      ∧ (keyed false).inForce.mode = .keyed ∧ (keyed false).maintenanceClosed = false
      ∧ storing.powered = true ∧ storing.store.op = .storing (factoryTables.image .bands)
      ∧ storing.fault.record.isSome = true :=
  ⟨by decide, rfl, accepts_of (by decide), rfl, by decide, rfl, by decide, hasMemory_of (by decide),
    accepts_of (by decide), rfl, by decide, accepts_of (by decide), rfl, accepts_of (by decide),
    by decide, rfl, rfl, rfl, by decide⟩

/-- The clauses on a table that does not exist, and on a failure that finds the fault record empty. -/
theorem witness_StoringATable_refused :
    commandParams (held 0x30#8 [8#8]).bytes = [8#8] ∧ 8 ≤ (8#8).toNat
      ∧ Accepts 0x30 (asked 0x30#8 [8#8] storing) (held 0x30#8 [8#8]) ∧ storing.command.requested = false
      ∧ TakesFaults storing ∧ TakesFaults (faultless storing) ∧ (faultless storing).fault.record = none
      ∧ (faultless storing).store.op = .storing (factoryTables.image .bands) :=
  ⟨by decide, by decide, accepts_of (by decide), rfl, .inl rfl,
    .inr (settledB_of rfl), rfl, rfl⟩

/-- The clause on a table that does not exist. -/
theorem witness_RestoringATable_refused :
    commandParams (held 0x31#8 [8#8]).bytes = [8#8] ∧ 8 ≤ (8#8).toNat
      ∧ Accepts 0x31 (asked 0x31#8 [8#8] storing) (held 0x31#8 [8#8]) :=
  ⟨by decide, by decide, accepts_of (by decide)⟩

/-- A RESTORE copy that owns the table memory. -/
def copying : State := { restoringIn base with memOwner := .store }

theorem witness_RestoringATable :
    commandParams (held 0x31#8 [7#8]).bytes = [7#8] ∧ tableOf? (7#8).toNat = some .signatures
      ∧ Accepts 0x31 (asked 0x31#8 [7#8] base) (held 0x31#8 [7#8]) ∧ base.store.op = .idle
      ∧ base.store.valid[TableId.signatures.num] = true
      ∧ Accepts 0x31 (asked 0x31#8 [7#8] { base with store := (loadingAt 0 false).store })
          (held 0x31#8 [7#8])
      ∧ (loadingAt 0 false).store.valid[TableId.signatures.num] = false
      ∧ Accepts 0x31 (asked 0x31#8 [7#8] storing) (held 0x31#8 [7#8]) ∧ storing.store.op ≠ .idle
      ∧ copying.powered = true ∧ copying.store.op = .restoring .plans ∧ copying.memOwner = .store
      ∧ copying.engine = .idle ∧ (restoringIn base).memOwner ≠ .store
      ∧ (∀ c : Fin 16, copying.channels[c].requests = false)
      ∧ (∀ c, copying.engine ≠ .waiting c none)
      ∧ ({ copying with engine := .waiting 0 (some (busyWindow 0 2560)) } : State).engine
          = .waiting 0 (some (busyWindow 0 2560)) :=
  ⟨by decide, rfl, accepts_of (by decide), rfl, by decide, accepts_of (by decide), by decide,
    accepts_of (by decide), by decide, rfl, rfl, rfl, rfl, by decide, by decide, (fun _ h => by cases h),
    rfl⟩

/-- WRITE PROTECTION parameters: KEYED, every lock, groups 0 to 3, complement, default set. -/
def protectionWrite : List Byte := [1#8, 0xFF#8, 0#8, 3#8, 1#8, 1#8]

/-- A record being programmed into copy 1. -/
def protecting : State :=
  { base with
    fault := busy.fault
    store := { factoryStore with
      copy1 := { content := { factoryProtection with mode := .keyed }, generation := 1, valid := false }
      op := .storingProtection } }

/-- Both copies valid, copy 0 in force across the wrap of the generation. -/
def bothValid : State :=
  { base with store := { factoryStore with
      copy0 := { content := factoryProtection, generation := 0, valid := true }
      copy1 := { content := factoryProtection, generation := 255, valid := true } } }

theorem protection_of {s : State}
    (h : s.store.copy0.generation < 256 ∧ s.store.copy1.generation < 256
      ∧ (s.store.copy0.valid = true ∨ s.store.copy1.valid = true)
      ∧ (s.store.copy0.valid = true → s.store.copy1.valid = true →
        s.store.copy1.generation = (s.store.copy0.generation + 1) % 256
          ∨ s.store.copy0.generation = (s.store.copy1.generation + 1) % 256)
      ∧ (s.store.op = .storingProtection →
        (s.store.copy0.valid = true ∧ s.store.copy1.valid = false
            ∧ s.store.copy1.generation = (s.store.copy0.generation + 1) % 256)
          ∨ (s.store.copy1.valid = true ∧ s.store.copy0.valid = false
            ∧ s.store.copy0.generation = (s.store.copy1.generation + 1) % 256))) :
    ProtectionLegal s := h

theorem witness_WritingProtection :
    (∃ r p, parseProtection (commandParams (held 0x3A#8 protectionWrite).bytes) = some r
        ∧ r.typed = some p)
      ∧ Accepts 0x3A (asked 0x3A#8 protectionWrite base) (held 0x3A#8 protectionWrite)
      ∧ ProtectionLegal (asked 0x3A#8 protectionWrite base) ∧ base.store.op = .idle
      ∧ base.protection.freeze = false ∧ base.inForce.mode = .opened
      ∧ Accepts 0x3A (asked 0x3A#8 protectionWrite bothValid) (held 0x3A#8 protectionWrite)
      ∧ ProtectionLegal (asked 0x3A#8 protectionWrite bothValid)
      ∧ Accepts 0x3A (asked 0x3A#8 protectionWrite frozen) (held 0x3A#8 protectionWrite)
      ∧ ProtectionLegal (asked 0x3A#8 protectionWrite frozen) ∧ frozen.protection.freeze = true
      ∧ Accepts 0x3A (asked 0x3A#8 protectionWrite storing) (held 0x3A#8 protectionWrite)
      ∧ ProtectionLegal (asked 0x3A#8 protectionWrite storing) ∧ storing.store.op ≠ .idle
      ∧ protecting.powered = true ∧ ProtectionLegal protecting
      ∧ protecting.store.op = .storingProtection ∧ protecting.fault.record.isSome = true :=
  ⟨⟨_, _, rfl, rfl⟩, accepts_of (by decide), protection_of (by decide), rfl, rfl, by decide,
    accepts_of (by decide), protection_of (by decide), accepts_of (by decide),
    protection_of (by decide), rfl, accepts_of (by decide), protection_of (by decide), by decide, rfl,
    protection_of (by decide), rfl, by decide⟩

/-- WRITE PROTECTION parameters whose last group is 4. -/
def badGroup : List Byte := [1#8, 0#8, 0#8, 4#8, 0#8, 0#8]

/-- The clauses on a record out of range, and on a failure that finds the fault record empty. -/
theorem witness_WritingProtection_refused :
    (∃ r, parseProtection (commandParams (held 0x3A#8 badGroup).bytes) = some r ∧ r.typed = none)
      ∧ Accepts 0x3A (asked 0x3A#8 badGroup storing) (held 0x3A#8 badGroup)
      ∧ ProtectionLegal (faultless protecting) ∧ (faultless protecting).powered = true
      ∧ (faultless protecting).store.op = .storingProtection
      ∧ TakesFaults protecting ∧ TakesFaults (faultless protecting)
      ∧ (faultless protecting).fault.record = none :=
  ⟨⟨_, rfl, rfl⟩, accepts_of (by decide), protection_of (by decide), rfl, rfl, .inl rfl,
    .inr (settledB_of rfl), rfl⟩

theorem witness_RuntimeLocksAndFreeze :
    commandParams (held 0x38#8 [8#8]).bytes = [8#8] ∧ 8 ≤ (8#8).toNat
      ∧ Accepts 0x38 (asked 0x38#8 [8#8] base) (held 0x38#8 [8#8])
      ∧ Accepts 0x39 (asked 0x39#8 [8#8] base) (held 0x39#8 [8#8])
      ∧ (7#8).toNat = (7 : Fin 8).val
      ∧ Accepts 0x38 (asked 0x38#8 [7#8] (keyed false)) (held 0x38#8 [7#8])
      ∧ Accepts 0x39 (asked 0x39#8 [7#8] (keyed true)) (held 0x39#8 [7#8])
      ∧ ¬ ((keyed true).protection.freeze = true
        ∨ ((keyed true).inForce.mode = .keyed ∧ (keyed true).maintenanceClosed = false))
      ∧ Accepts 0x39 (asked 0x39#8 [7#8] (keyed false)) (held 0x39#8 [7#8])
      ∧ (keyed false).inForce.mode = .keyed ∧ (keyed false).maintenanceClosed = false
      ∧ Accepts 0x39 (asked 0x39#8 [7#8] frozen) (held 0x39#8 [7#8]) ∧ frozen.protection.freeze = true
      ∧ Accepts 0x3B (asked 0x3B#8 [] base) (held 0x3B#8 [])
      ∧ commandParams (held 0x3B#8 []).bytes = [] :=
  ⟨by decide, by decide, accepts_of (by decide), accepts_of (by decide), by decide,
    accepts_of (by decide), accepts_of (by decide), by decide, accepts_of (by decide), by decide, rfl,
    accepts_of (by decide), rfl, accepts_of (by decide), by decide⟩

theorem witness_TickAndMaintenanceLine :
    base.powered = true
      ∧ ({ base with localTime := 0xFFFFFFFF#32 } : State).localTime.toNat = 4294967295 := by decide

/-! ### One step of some commands -/

/-- One field of the state a command leaves, `none` where it stops. -/
def field {α : Type} (i : Instr) (s : State) (f : State → α) : Option α :=
  match exec i s with
  | .next t => some (f t)
  | .fault _ => none
  | .refused _ => none

/-- R50: SET TRACKER with FIXED at 53,000 mHz, and the bytes of its result: state FIXED (4), 0000CF08h. -/
theorem test_set_tracker_fixed :
    field .setTracker (asked 0x13#8 (trackerWrite 1 1 53000) base)
      (fun s => (s.trackers[1].state, s.trackers[1].freq, s.memOwner)) = some (.fixed, 53000, .free) := by
  decide

/-- R162, R103: a weight of 1,001 is clamped to 1,000, and the reply's status is ADJUSTED (01h). -/
theorem test_write_band_adjusted :
    field (.writeEntry []) (asked 0x11#8 (bandWrite 6400 1001) base)
      (fun s => (s.tables.bands[7].weight, s.lineA.sending.map fun r => r.frame.payload.getD 8 0))
        = some (1000, some 1#8) := by
  decide

/-- R138: a trigger in ARMED with two sets held and a pre-trigger count of 3,072: POST, pre_actual 2. -/
theorem test_trigger_capture :
    field .triggerCapture (asked 0x51#8 [] (captureIn .armed))
      (fun s => (s.capture.state, s.lineA.sending.map fun r => (r.frame.payload.drop 8).take 4))
        = some (.post, some [0#8, 2#8, 0#8, 2#8]) := by
  decide

/-- `base` with source 0 RUNNING at block 5, and a capture of it ARMED with two sets. -/
def listening : State :=
  { captureIn .armed with
    tables := { factoryTables with sources := factoryTables.sources.set 0 busySource }
    sources := busy.sources }

/-- R141: a trigger taken after the notice of a realign and before the four sets of its block: POST, pre_actual
0, and the four sets held; the command has been answered. -/
theorem test_trigger_at_notice :
    field (.lineAFrameArrival (sampleFrame 2 15) { order := [], expiry := false, triggers := [.command] })
      (asked 0x51#8 [] listening)
      (fun s => (s.capture.state, s.capture.buffer.length, s.command.queue.length,
        s.lineA.sending.map fun r => (r.frame.payload.drop 8).take 4))
        = some (.post, 4, 0, some [0#8, 2#8, 0#8, 0#8]) := by
  decide

/-- R20: a stale frame in the instant of the silence timer's expiry, the expiry taken first: the source is LOST
and the frame is counted as stale. -/
theorem test_stale_after_expiry :
    field (.lineAFrameArrival (sampleFrame 2 5) { order := [], expiry := true, triggers := [] }) listening
      (fun s => (s.sources[0].state, s.counters.sources[0].losses, s.counters.sources[0].stale,
        s.capture.buffer.length)) = some (.lost, 1, 1, 0) := by
  decide

/-- R186: from 4,294,967,295 local time goes to 0. -/
theorem test_local_time_wraps :
    field .localTimeTick { base with localTime := 0xFFFFFFFF#32 } State.localTime = some 0#32 := by
  decide

/-- R168, R169: STORE TABLE of BANDS marks its image invalid; the completion marks it valid. -/
theorem test_store_completes :
    field .storeTable (asked 0x30#8 [6#8] base) (fun s => s.store.valid[6]) = some false
      ∧ field (.storeProgrammingComplete true) storing
        (fun s => (s.store.valid[6], s.store.op == .idle)) = some (true, true) := by
  decide

end Sys2Proof.Tests
end

namespace Sys2Proof.Machine
open Sys2Proof.Claims

/-! ## Lines, queues and places (R3, R123, R127, R128, R129, R147) -/

theorem out_a (s : State) : s.out .a = s.lineA := rfl
theorem out_b (s : State) : s.out .b = s.lineB := rfl

/-- The depths of the queues and the settled lines of O3, as one invariant. -/
def Orderly (s : State) : Prop := QueuesBounded s ∧ LinesSettled s

/-- The queues of a state: both lines, the records, and the commands not yet answered. -/
def SameQueues (s t : State) : Prop :=
  t.lineA = s.lineA ∧ t.lineB = s.lineB ∧ t.records = s.records
    ∧ t.command.queue = s.command.queue

theorem SameQueues.out {s t : State} (h : SameQueues s t) (l : Line) : t.out l = s.out l := by
  obtain ⟨ha, hb, _, _⟩ := h
  cases l with
  | a => exact ha
  | b => exact hb

theorem SameQueues.lineSettled {s t : State} (h : SameQueues s t) {l : Line}
    (hs : LineSettled l s) : LineSettled l t := by
  have hr : t.recordsFor l = s.recordsFor l := by
    cases l with
    | a => rfl
    | b => exact h.2.2.1
  unfold LineSettled
  rw [h.out l, hr]
  exact hs

theorem SameQueues.bounded {s t : State} (h : SameQueues s t) (hs : QueuesBounded s) :
    QueuesBounded t := by
  obtain ⟨ha, hb, hr, hq⟩ := h
  obtain ⟨hl, hn, hp⟩ := hs
  refine ⟨fun l => ?_, by rw [hr]; exact hn, by rw [ha, hb, hq]; exact hp⟩
  rw [SameQueues.out ⟨ha, hb, hr, hq⟩ l]
  exact hl l

/-- What touches no queue keeps the queues in order. -/
theorem SameQueues.orderly {s t : State} (h : SameQueues s t) (hs : Orderly s) : Orderly t :=
  ⟨h.bounded hs.1, fun l => h.lineSettled (hs.2 l)⟩

theorem lineSettled_of_sending {l : Line} {s : State} {r : Reply} (h : (s.out l).sending = some r) :
    LineSettled l s := fun hn => by rw [h] at hn; cases hn

/-- The output side of the other line and, where it feeds on them, the records decide whether that line
is settled. -/
theorem LineSettled.congr {l : Line} {s t : State} (ho : t.out l = s.out l)
    (hr : t.recordsFor l = s.recordsFor l) (h : LineSettled l s) : LineSettled l t := by
  unfold LineSettled
  rw [ho, hr]
  exact h

/-- R129: the choice of one line leaves the other line, and what waits for it, alone. -/
theorem choose_other {l m : Line} (hm : m ≠ l) (s : State) :
    (choose l s).out m = s.out m ∧ (choose l s).recordsFor m = s.recordsFor m := by
  obtain ⟨_, _, _, e⟩ | ⟨r, rs, _, hq, e⟩ | ⟨_, _, _, e⟩ | ⟨_, _, _, e⟩ := choose_cases l s
  all_goals rw [e, setOut_other _ hm]
  all_goals cases l <;> cases m <;> first | exact absurd rfl hm | skip
  all_goals first | exact ⟨rfl, rfl⟩ | cases hq

/-- R128: after the choice of a line nothing waits for it while it is IDLE. -/
theorem choose_settled (l : Line) (s : State) : LineSettled l (choose l s) := by
  obtain ⟨_, _, _, e⟩ | ⟨_, _, _, _, e⟩ | ⟨_, _, _, e⟩ | ⟨hf, hr, hq, e⟩ := choose_cases l s
  all_goals rw [e]
  iterate 3 exact lineSettled_of_sending (by rw [setOut_out])
  intro _
  rw [setOut_out]
  refine ⟨hf, hr, ?_⟩
  cases l with
  | a => rfl
  | b => exact hq

/-- R128: after a frame has joined a queue of a line nothing waits for it while it is IDLE. -/
theorem kick_settled (l : Line) (s : State) : LineSettled l (kick l s) := by
  obtain ⟨hs, e⟩ | ⟨_, e⟩ := kick_cases l s
  · obtain ⟨r, hr⟩ := Option.isSome_iff_exists.mp hs
    rw [e]
    exact lineSettled_of_sending hr
  · rw [e]
    exact choose_settled l s

/-- R129: a choice takes from the queues of its line and puts nothing into them. -/
theorem choose_bounded (l : Line) {s : State} (h : QueuesBounded s) : QueuesBounded (choose l s) := by
  have hpass := fun m => choose_passedOver l m s fun m => (h.1 m).2
  obtain ⟨hl, hn, hp⟩ := h
  have ha := (hl .a).1
  have hb := (hl .b).1
  simp only [out_a, out_b] at ha hb
  obtain ⟨r, rs, hr, e⟩ | ⟨r, rs, hr, hq, e⟩ | ⟨f, fs, hf, e⟩ | ⟨hf, hr, hq, e⟩ := choose_cases l s
  all_goals
    rw [e] at hpass ⊢
    refine ⟨fun m => ⟨?_, hpass m⟩, ?_, ?_⟩
  all_goals
    cases l <;> simp_all [setOut, State.out, State.recordsFor] <;> first | omega | (cases m <;> simp <;> omega)

/-- R128, R129: the arbiter's choice on line `l` puts the queues in order where the other line is. -/
theorem choose_orderly {l : Line} {s : State} (h : QueuesBounded s)
    (ho : ∀ m, m ≠ l → LineSettled m s) : Orderly (choose l s) := by
  refine ⟨choose_bounded l h, fun m => ?_⟩
  by_cases hm : m = l
  · rw [hm]
    exact choose_settled l s
  · obtain ⟨h1, h2⟩ := choose_other hm s
    exact (ho m hm).congr h1 h2

theorem kick_orderly {l : Line} {s : State} (h : QueuesBounded s)
    (ho : ∀ m, m ≠ l → LineSettled m s) : Orderly (kick l s) := by
  obtain ⟨hs, e⟩ | ⟨_, e⟩ := kick_cases l s
  · rw [e]
    refine ⟨h, fun m => ?_⟩
    by_cases hm : m = l
    · obtain ⟨r, hr⟩ := Option.isSome_iff_exists.mp hs
      rw [hm]
      exact lineSettled_of_sending hr
    · exact ho m hm
  · rw [e]
    exact choose_orderly h ho

end Sys2Proof.Machine

namespace Sys2Proof.Machine
open Sys2Proof.Claims

/-! ### What each queue operation does to the order of the queues -/

theorem offer_orderly (r : OutRecord) {s : State} (h : Orderly s) :
    Orderly (kick .b { s with records := (enqueue s.records r).2 }) := by
  obtain ⟨⟨hl, hn, hp⟩, hs⟩ := h
  refine kick_orderly ⟨fun l => ?_, enqueue_length _ _ hn, hp⟩ fun m hm => ?_
  · cases l with
    | a => exact hl .a
    | b => exact hl .b
  · cases m with
    | a => exact (hs .a).congr rfl rfl
    | b => exact absurd rfl hm

theorem offerForward_joins_orderly (l : Line) (f : Frame) {s : State} (h : Orderly s)
    (hf : (s.out l).forward.length < 32) :
    Orderly (kick l (setOut l { s.out l with forward := (s.out l).forward ++ [f] } s)) := by
  obtain ⟨⟨hl, hn, hp⟩, hs⟩ := h
  refine kick_orderly ⟨fun m => ?_, by simpa using hn, ?_⟩ fun m hm => ?_
  · by_cases hm : m = l
    · rw [hm, setOut_out]
      exact ⟨by simpa using hf, (hl l).2⟩
    · rw [setOut_other s hm]
      exact hl m
  · cases l <;> simpa [setOut, State.out] using hp
  · refine (hs m).congr (setOut_other s hm _) ?_
    cases l <;> cases m <;> rfl

/-- R127, R148: a reply takes the place of the command it answers. -/
theorem replyWith_orderly (restart : Bool) (c : CommandFrame) (st : Status) (res : List Byte)
    {s : State} (h : Orderly s) (hq : s.command.queue ≠ []) :
    Orderly (replyWith restart c st res s) := by
  obtain ⟨⟨hl, hn, hp⟩, hs⟩ := h
  obtain ⟨d, rest, hq⟩ := List.exists_cons_of_ne_nil hq
  have ha := hl .a
  have hb := hl .b
  rw [hq, List.length_cons] at hp
  unfold replyWith
  dsimp only
  generalize c.line = l
  refine kick_orderly ⟨fun m => ?_, by simpa using hn, ?_⟩ fun m hm => ?_
  · cases l <;> cases m <;> assumption
  · cases l <;> simp [setOut, State.out, hq] <;> omega
  · refine (hs m).congr ?_ ?_ <;> cases l <;> cases m <;> first | rfl | exact absurd rfl hm

/-! ### What reporting does (R123, R124, R126, R180, R181), one small change after another -/

/-- The fields that neither reporting nor replying touches, nor the consumers of a source: a step has
changed trackers, channels, the close arbiter, the engine, the capture unit, check results, the
channels' counters and the coincidences alone. -/
def Within (s t : State) : Prop :=
  ∃ tr ch rot e m cap ck kc ts, t = { s with
    trackers := tr, channels := ch, rotation := rot, engine := e, memOwner := m, capture := cap
    checks := ck, counters := { s.counters with channels := kc }, ties := ts }

theorem Within.refl (s : State) : Within s s := ⟨_, _, _, _, _, _, _, _, _, rfl⟩

/-- What is said to the outside: a series of small changes, each to the record queue, the drop counters of
the record queue or the fault unit, or, where `answering` allows it, a reply to the oldest command, with
`quiet` changes in between. -/
inductive Talks (quiet : State → State → Prop) (answering : Prop) : State → State → Prop
  | refl (s : State) : Talks quiet answering s s
  | quietly {s t u : State} : Talks quiet answering s t → quiet t u → Talks quiet answering s u
  | offered {s t : State} (r : OutRecord) : Talks quiet answering s t →
      Talks quiet answering s (kick .b { t with records := (enqueue t.records r).2 })
  | dropCounted {s t : State} (d : OutRecord) : Talks quiet answering s t →
      Talks quiet answering s (countDrop d t)
  | noted {s t : State} (k : FaultKind) : k ≠ .forwardDropped → Talks quiet answering s t →
      Talks quiet answering s (noteFault k t)
  | filled {s t : State} (k : FaultKind) (n : Nat) (d : FaultDetail) : k ≠ .forwardDropped →
      t.fault.record = none → Talks quiet answering s t → Talks quiet answering s (fillFault k n d t)
  | answered {s t : State} (c : CommandFrame) (st : Status) (res : List Byte) : answering →
      t.command.queue ≠ [] → Talks quiet answering s t → Talks quiet answering s (reply c st res t)

variable {Q Q' : State → State → Prop} {a b : Prop} {s t u : State}

theorem Talks.trans (h : Talks Q a s t) (k : Talks Q a t u) : Talks Q a s u := by
  induction k with
  | refl => exact h
  | quietly _ hw ih => exact ih.quietly hw
  | offered r _ ih => exact ih.offered r
  | dropCounted d _ ih => exact ih.dropCounted d
  | noted k hk _ ih => exact ih.noted k hk
  | filled k n d hk hn _ ih => exact ih.filled k n d hk hn
  | answered c st res ha hq _ ih => exact ih.answered c st res ha hq

theorem Talks.mono (hQ : ∀ s t, Q s t → Q' s t) (hab : a → b) (h : Talks Q a s t) :
    Talks Q' b s t := by
  induction h with
  | refl => exact .refl _
  | quietly _ hw ih => exact ih.quietly (hQ _ _ hw)
  | offered r _ ih => exact ih.offered r
  | dropCounted d _ ih => exact ih.dropCounted d
  | noted k hk _ ih => exact ih.noted k hk
  | filled k n d hk hn _ ih => exact ih.filled k n d hk hn
  | answered c st res ha hq _ ih => exact ih.answered c st res (hab ha) hq

theorem Talks.of_quiet (h : Q s t) : Talks Q a s t := (Talks.refl s).quietly h

/-- What each operation of a series says, all of them together say. -/
theorem foldl_talks {α : Type} (l : List α) (f : α → State → State)
    (hf : ∀ x ∈ l, ∀ s, Talks Q a s (f x s)) (s : State) :
    Talks Q a s (l.foldl (fun s x => f x s) s) :=
  foldl_keeps (P := Talks Q a s) l f (fun x hx _ h => h.trans (hf x hx _)) s (.refl s)

theorem Within.talks (h : Within s t) : Talks Within a s t := .of_quiet h

theorem Within.sameQueues (h : Within s t) : SameQueues s t := by
  obtain ⟨_, _, _, _, _, _, _, _, _, rfl⟩ := h
  exact ⟨rfl, rfl, rfl, rfl⟩

/-- O3 along a series of reports and replies. -/
theorem Talks.orderly (hQ : ∀ s t, Q s t → SameQueues s t) (h : Talks Q a s t) (hs : Orderly s) :
    Orderly t := by
  induction h with
  | refl => exact hs
  | quietly _ hw ih => exact (hQ _ _ hw).orderly ih
  | offered r _ ih => exact offer_orderly r ih
  | @dropCounted t d _ ih => exact SameQueues.orderly (by cases d <;> exact ⟨rfl, rfl, rfl, rfl⟩) ih
  | noted k _ _ ih => exact SameQueues.orderly (s := _) ⟨rfl, rfl, rfl, rfl⟩ ih
  | filled k n d _ _ _ ih => exact SameQueues.orderly (s := _) ⟨rfl, rfl, rfl, rfl⟩ ih
  | answered c st res _ hq _ ih => exact replyWith_orderly false c st res ih hq

/-! #### Faults and records reported -/

theorem offerWhileHeld_talks (r : OutRecord) (s : State) : Talks Q a s (offerWhileHeld r s) := by
  unfold offerWhileHeld
  dsimp only
  have h : Talks Q a s _ := (Talks.refl s).offered r
  split
  · exact h
  · exact (h.dropCounted _).noted .recordDropped (by simp)

theorem reportFault_talks {k : FaultKind} (hk : k ≠ .forwardDropped) (n : Nat) (d : FaultDetail)
    (s : State) : Talks Q a s (reportFault k n d s) := by
  unfold reportFault
  split
  · exact (Talks.refl s).noted k hk
  · next hn => exact ((Talks.refl s).filled k n d hk hn).trans (offerWhileHeld_talks _ _)

theorem offerRecord_talks (r : OutRecord) (s : State) : Talks Q a s (offerRecord r s) := by
  unfold offerRecord
  dsimp only
  have h : Talks Q a s _ := (Talks.refl s).offered r
  split
  · exact h
  · exact (h.dropCounted _).trans (reportFault_talks (by simp) _ _ _)

theorem ties_within (s : State) (ts : Ties) : Within s { s with ties := ts } :=
  ⟨_, _, _, _, _, _, _, _, _, rfl⟩

theorem either_talks (f g : State → State) (hf : ∀ s, Talks Within a s (f s)) (hg : ∀ s, Talks Within a s (g s))
    (s : State) : Talks Within a s (either f g s) :=
  either_keeps (P := Talks Within a s) f g (fun _ ts h => h.quietly (ties_within _ ts))
    (fun _ h => h.trans (hf _)) (fun _ h => h.trans (hg _)) s (.refl s)

theorem inSomeOrder_talks {α : Type} (l : List α) (f : α → State → State)
    (hf : ∀ x s, Talks Within a s (f x s)) (s : State) : Talks Within a s (inSomeOrder l f s) :=
  inSomeOrder_keeps (P := Talks Within a s) l f (fun _ ts h => h.quietly (ties_within _ ts))
    (fun x _ _ h => h.trans (hf x _)) s (.refl s)

/-- The faults that a tracker's change of state reports. -/
theorem trackerMoved_talks (t : Fin 2) {k : Option FaultKind} (hk : k ≠ some .forwardDropped)
    (s : State) : Talks Within a s (trackerMoved t k s) := by
  unfold trackerMoved
  dsimp only
  split
  · exact offerRecord_talks _ s
  · exact either_talks _ _ (fun _ => offerRecord_talks _ _)
      (fun _ => reportFault_talks (by simpa using hk) _ _ _) s

theorem offerAllHeld_talks (rs : List OutRecord) (s : State) : Talks Within a s (offerAllHeld rs s) :=
  foldl_talks rs offerWhileHeld (fun r _ => offerWhileHeld_talks r) s

theorem offerAll_talks (rs : List OutRecord) (s : State) : Talks Within a s (offerAll rs s) := by
  induction rs generalizing s with
  | nil => exact .refl s
  | cons r rs ih =>
    unfold offerAll
    split
    · exact offerAllHeld_talks _ s
    · exact (offerRecord_talks r s).trans (ih _)
    · next d hn _ =>
      dsimp only
      have hk : ∀ q, (kick .b { s with records := q }).fault = s.fault := fun q => by
        obtain ⟨o, r, h⟩ := kick_frame .b { s with records := q }
        simp [h]
      have hc : ∀ s, (countDrop d s).fault = s.fault := by simp
      have h : Talks Within a s _ := (((Talks.refl s).offered r).dropCounted d).filled .recordDropped
        d.subject d.detail (by simp) (by rw [hc, hk, hn])
      split
      · exact h.trans (offerAllHeld_talks _ _)
      · exact (h.quietly (ties_within _ _)).trans (offerAllHeld_talks _ _)

end Sys2Proof.Machine

namespace Sys2Proof.Machine
open Sys2Proof.Claims

variable {a : Prop}

/-! #### What the consumers of a source say (R18) -/

theorem putTrackerAt_within (t : Fin 2) (tr : Tracker) (s : State) :
    Within s (putTrackerAt t tr s) := ⟨_, _, _, _, _, _, _, _, _, rfl⟩

theorem moved_talks (t : Fin 2) (tr : Tracker) {k : Option FaultKind} (hk : k ≠ some .forwardDropped)
    (s : State) : Talks Within a s (trackerMoved t k (putTrackerAt t tr s)) :=
  (putTrackerAt_within t tr s).talks.trans (trackerMoved_talks t hk _)

theorem measurerFailed_talks (t : Fin 2) (r : Role) (s : State) :
    Talks Within a s (measurerFailed t r s) := by
  unfold measurerFailed
  dsimp only
  split
  · split
    · split <;> exact moved_talks t _ (by simp) s
    · exact moved_talks t _ (by simp) s
  · exact moved_talks t _ (by simp) s
  · exact .refl s

theorem measurerSucceeded_talks (t : Fin 2) (r : Role) (f : Nat) (q : Bool) (s : State) :
    Talks Within a s (measurerSucceeded t r f q s) := by
  have hp : ∀ tr, Talks Within a s (putTrackerAt t tr s) := fun tr => (putTrackerAt_within t tr s).talks
  have hm : ∀ (b : Bool) tr,
      Talks Within a s (if b then trackerMoved t none (putTrackerAt t tr s) else s) := fun b tr => by
    split
    · exact moved_talks t _ (by simp) s
    · exact .refl s
  unfold measurerSucceeded
  dsimp only
  split
  · exact hp _
  · exact hp _
  · exact hm q _
  · exact hm q _
  · exact hm q _
  · exact .refl s
  · exact .refl s

theorem measurerItem_talks (t : Fin 2) (r : Role) (src : Fin 8) (item : Item) (s : State) :
    Talks Within a s (measurerItem t r src item s) := by
  unfold measurerItem trackerActs
  split
  · exact .refl s
  · next slot _ =>
    dsimp only
    have h := fun tr => (putTrackerAt_within t tr s).talks (a := a)
    split
    · exact h _
    · exact (h _).trans (measurerSucceeded_talks t r _ _ _)
    · exact (h _).trans (measurerFailed_talks t r _)

theorem trackerLoses_talks (t : Fin 2) (src : Fin 8) (s : State) :
    Talks Within a s (trackerLoses t src s) := by
  unfold trackerLoses
  dsimp only
  have hf : ∀ (b : Bool) r (s : State), Talks Within a s (if b then measurerFailed t r s else s) := by
    intro b r s
    split
    · exact measurerFailed_talks t r s
    · exact .refl s
  exact ((putTrackerAt_within t _ s).talks.trans (hf _ _ _)).trans (hf _ _ _)

theorem endWindows_within (c : Fin 16) (s : State) : Within s (endWindows c s) :=
  ⟨_, _, _, _, _, _, _, _, _, rfl⟩

theorem discardCopy_within (c : Fin 16) (s : State) : Within s (discardCopy c s) := by
  unfold discardCopy
  split
  · split
    · exact ⟨_, _, _, _, _, _, _, _, _, rfl⟩
    · exact .refl s
  · exact .refl s

theorem endAllWindows_talks (c : Fin 16) (s : State) : Talks Within a s (endAllWindows c s) :=
  (endWindows_within c s).talks.quietly (discardCopy_within c _)

theorem arbitrate_within (s : State) : Within s (arbitrate s) := by
  obtain ⟨_, _, _, _, h⟩ := arbitrate_frame s
  rw [h]
  exact ⟨_, _, _, _, _, _, _, _, _, rfl⟩

theorem reportMissed_talks (c : Fin 16) (m : Option Nat) (s : State) :
    Talks Within a s (reportMissed c m s) := by
  unfold reportMissed
  split
  · exact .refl s
  · exact (Within.talks ⟨_, _, _, _, _, _, _, _, _, rfl⟩).trans (reportFault_talks (by simp) _ _ _)

theorem channelTakes_talks (c : Fin 16) (ss : SampleSet) (s : State) :
    Talks Within a s (channelTakes c ss s) := by
  unfold channelTakes
  split
  · dsimp only
    have hu : ∀ u, Talks Within a s { s with channels := putAt s.channels c u } := fun u =>
      Within.talks ⟨_, _, _, _, _, _, _, _, _, rfl⟩
    have h := fun u m => (hu u).trans (reportMissed_talks c m _)
    split
    · exact (h _ _).quietly (arbitrate_within _)
    · exact h _ _
  · exact .refl s

theorem onCapture_within (f : CaptureUnit → CaptureUnit) (s : State) : Within s (onCapture f s) :=
  ⟨_, _, _, _, _, _, _, _, _, rfl⟩

/-- R18: what an item of a source makes one consumer say. -/
theorem consume_talks (src : Fin 8) (item : Item) (who : Consumer) (s : State) :
    Talks Within a s (consume src item who s) := by
  cases who with
  | measurer t r => exact measurerItem_talks t r src item s
  | tracker t => exact trackerLoses_talks t src s
  | channel c =>
    cases item with
    | start => exact .refl s
    | realign => exact (endWindows_within c s).talks
    | loss => exact (endWindows_within c s).talks
    | set ss => exact channelTakes_talks c ss s
  | capture => exact (onCapture_within (fun u => u.item item) s).talks

theorem deliverLoss_talks (src : Fin 8) (s : State) : Talks Within a s (deliverLoss src s) :=
  inSomeOrder_talks _ _ (fun who s => consume_talks src .loss who s) s

/-! #### Evaluations and the triggers a frame meets (R83, R137, R141) -/

theorem completeEvaluation_talks (c : Fin 16) (w : Window) (s : State) :
    Talks Within a s (completeEvaluation c w s) := by
  unfold completeEvaluation
  dsimp only
  have ht : ∀ seq es (s : State), Within s (triggerByAlert c seq es s) := by
    intro seq es s
    unfold triggerByAlert
    split
    · split
      · exact onCapture_within _ s
      · exact .refl s
    · exact .refl s
  have he : ∀ s : State, Talks Within a s (engineRelease s) := fun s =>
    (Within.talks ⟨_, _, _, _, _, _, _, _, _, rfl⟩).quietly (arbitrate_within _)
  refine Talks.trans ?_ (he _)
  have hc : ∀ x s, Within s (countEvaluation x s) := fun x s => ⟨_, _, _, _, _, _, _, _, _, rfl⟩
  have hk : Talks Within a s { s with checks := putAt s.checks c (s.evalInput c w).checksAfter } :=
    Within.talks ⟨_, _, _, _, _, _, _, _, _, rfl⟩
  have h := (hk.trans (offerAll_talks (s.evalRecords (s.evalInput c w)) _)).quietly
    (hc (s.evalInput c w) _)
  split
  · exact h.quietly (ht _ _ _)
  · exact h

theorem evaluates_talks (s : State) : Talks Within a s (evaluates s) := by
  unfold evaluates
  split
  · exact completeEvaluation_talks _ _ s
  · exact .refl s
  · exact .refl s

theorem triggerAnswered_talks (c : CommandFrame) {s : State} (hq : s.command.queue ≠ []) :
    Talks Within True s (triggerAnswered c s) := by
  unfold triggerAnswered
  split
  · exact (Talks.refl s).answered c _ _ trivial hq
  · exact ((onCapture_within _ s).talks).answered c _ _ trivial hq

/-- R149: a command of the host computer says what its own rule says, or is refused. -/
theorem command_talks {α : Type} (code : Nat) (parse : List Byte → Option α)
    (body : α → CommandFrame → State → State) (s : State)
    (hb : ∀ p c rest, s.command.queue = c :: rest → s.opState ≠ .loading → Talks Within True s (body p c s)) :
    Talks Within True s (command code parse body s) := by
  obtain h | ⟨c, rest, hq, _, _, ⟨_, h⟩ | ⟨_, _, h⟩ | ⟨p, hl, _, h⟩⟩ := command_cases code parse body s
  · rw [h]; exact .refl s
  · rw [h]; exact (Talks.refl s).answered c _ _ trivial (by simp [hq])
  · rw [h]; exact (Talks.refl s).answered c _ _ trivial (by simp [hq])
  · rw [h]; exact hb p c rest hq hl

theorem triggerCommand_talks (s : State) : Talks Within True s (triggerCommand s) :=
  command_talks _ _ _ s fun () c _ hq _ => triggerAnswered_talks c (by simp [hq])

/-- R137, R141: the triggers that a frame meets answer commands only where it meets some. -/
theorem takeTriggers_talks (l : List MetTrigger) (s : State) :
    Talks Within (l ≠ []) s (takeTriggers l s) :=
  foldl_talks l takeTrigger (fun t ht s' => by
    have hl : l ≠ [] := List.ne_nil_of_mem ht
    cases t with
    | command => exact (triggerCommand_talks s').mono (fun _ _ h => h) fun _ => hl
    | evaluation => exact evaluates_talks s') s

theorem deliver_talks (met : State → State) (hm : ∀ s, Talks Within a s (met s)) (src : Fin 8)
    (items : List Item) (s : State) : Talks Within a s (deliver met src items s) :=
  (ties_within s _).talks.trans
    (foldl_talks _ (fun x s => consumeMeeting met src x s) (fun _ _ s => by
      unfold consumeMeeting
      split
      · exact (consume_talks src _ _ _).trans (hm _)
      · exact consume_talks src _ _ _) _)

end Sys2Proof.Machine

namespace Sys2Proof.Machine
open Sys2Proof.Claims

variable {Q : State → State → Prop} {a : Prop}

/-! #### The source monitor and the writes of table entries -/

/-- The fields that reporting and replying touch, and the local time they read, are as they were. -/
structure Beside (s t : State) : Prop where
  lineA : t.lineA = s.lineA
  lineB : t.lineB = s.lineB
  records : t.records = s.records
  command : t.command = s.command
  fault : t.fault = s.fault
  localTime : t.localTime = s.localTime
  dropsAB : t.counters.forwardDropsAB = s.counters.forwardDropsAB
  dropsBA : t.counters.forwardDropsBA = s.counters.forwardDropsBA

theorem Beside.sameQueues {s t : State} (h : Beside s t) : SameQueues s t :=
  ⟨h.lineA, h.lineB, h.records, by rw [h.command]⟩

theorem Within.beside {s t : State} (h : Within s t) : Beside s t := by
  obtain ⟨_, _, _, _, _, _, _, _, _, rfl⟩ := h
  exact ⟨rfl, rfl, rfl, rfl, rfl, rfl, rfl, rfl⟩

theorem Talks.beside {s t : State} (h : Talks Within a s t) : Talks Beside a s t :=
  h.mono (fun _ _ h => h.beside) id

theorem Talks.orderly_beside {s t : State} (h : Talks Beside a s t) (hs : Orderly s) : Orderly t :=
  h.orderly (fun _ _ h => h.sameQueues) hs

theorem onSource_beside (i : Fin 8) (f : SourceRecord → SourceRecord) (s : State) :
    Beside s (onSource i f s) := ⟨rfl, rfl, rfl, rfl, rfl, rfl, rfl, rfl⟩

theorem onSourceCounters_beside (i : Fin 8) (f : SourceCounters → SourceCounters) (s : State) :
    Beside s (onSourceCounters i f s) := ⟨rfl, rfl, rfl, rfl, rfl, rfl, rfl, rfl⟩

/-- R19: what the loss of a source says. -/
theorem loseSource_talks (src : Fin 8) (s : State) : Talks Beside a s (loseSource src s) := by
  unfold loseSource
  dsimp only
  have hl : ∀ lost (s : State), Beside s { s with lostSources := lost } := fun _ _ =>
    ⟨rfl, rfl, rfl, rfl, rfl, rfl, rfl, rfl⟩
  have h := ((Talks.of_quiet (onSource_beside src (fun r => { r with state := .lost, silence := none })
    s)).quietly (onSourceCounters_beside src (fun k => { k with losses := countUp k.losses 1 }) _)).quietly
      (hl (putAt s.lostSources src true) _) (answering := a)
  exact (h.trans (reportFault_talks (by simp) _ _ _)).trans (deliverLoss_talks src _).beside

/-- R11 to R18: what a frame taken says. -/
theorem takeFrame_talks (met : State → State) (hm : ∀ s, Talks Within a s (met s)) (src : Fin 8)
    (m : List Byte) (before : List Item) (s : State) :
    Talks Beside a s (takeFrame met src m before s) := by
  unfold takeFrame
  dsimp only
  exact ((Talks.of_quiet (onSource_beside src _ s)).quietly (onSourceCounters_beside src _ _)).trans
    (deliver_talks met hm src _ _).beside

theorem rejectMalformed_talks (src : Fin 8) (m : List Byte) (s : State) :
    Talks Beside a s (rejectMalformed src m s) :=
  (Talks.of_quiet (onSourceCounters_beside src _ s)).trans (reportFault_talks (by simp) _ _ _)

/-- R5, R10 to R15, R20, R21: what the source monitor says of a frame. -/
theorem monitorFrame_talks (expiry : Bool) (met : State → State)
    (hm : ∀ s, Talks Within a s (met s)) (m : List Byte) (s : State) :
    Talks Beside a s (monitorFrame expiry met m s) := by
  have hid : ∀ s, Talks Within a s (id s) := .refl
  have hc : ∀ src f s, Talks Beside a s (onSourceCounters src f s) := fun src f s =>
    .of_quiet (onSourceCounters_beside src f s)
  unfold monitorFrame
  split
  · exact .refl s
  · split
    · exact .of_quiet ⟨rfl, rfl, rfl, rfl, rfl, rfl, rfl, rfl⟩
    · next src _ =>
      split
      · exact rejectMalformed_talks src m s
      · unfold ruleFrame
        split
        · unfold ruleRunning
          dsimp only
          split
          · exact takeFrame_talks id hid src m _ s
          · split
            · split
              · exact (loseSource_talks src s).trans (hc src _ _)
              · exact hc src _ s
            · split
              · have hg : ∀ g (s : State), Beside s { s with lastGap := g } := fun _ _ =>
                  ⟨rfl, rfl, rfl, rfl, rfl, rfl, rfl, rfl⟩
                exact ((hc src _ s).quietly (hg (some src) _)).trans (takeFrame_talks id hid src m _ _)
              · exact ((hc src _ s).trans (reportFault_talks (by simp) _ _ _)).trans
                  (takeFrame_talks met hm src m _ _)
        · exact .refl s
        · exact takeFrame_talks id hid src m _ s

theorem channelsWhere_talks (p : Fin 16 → Bool) (f : Fin 16 → State → State)
    (hf : ∀ c s, Talks Q a s (f c s)) (s : State) : Talks Q a s (channelsWhere p f s) :=
  foldl_talks _ f (fun c _ => hf c) s

theorem clearChecks_within (c : Fin 16) (s : State) : Within s (clearChecks c s) :=
  ⟨_, _, _, _, _, _, _, _, _, rfl⟩

theorem identity_talks (c : Fin 16) (s : State) :
    Talks Within a s (clearChecks c (endAllWindows c s)) :=
  (endAllWindows_talks c s).quietly (clearChecks_within c _)

theorem requestMode_talks (t : Fin 2) (mode : RequestedMode) (f : Nat) (s : State) :
    Talks Within a s (requestMode t mode f s) := by
  unfold requestMode
  dsimp only
  split
  · exact (putTrackerAt_within t _ s).talks
  · exact moved_talks t _ (by simp) s
  · exact moved_talks t _ (by simp) s
  · exact .refl s

theorem changeReferences_talks (t : Fin 2) (old new : TrackerEntry) (s : State) :
    Talks Within a s (changeReferences t old new s) := by
  have hf : ∀ r s, Talks Within a s
      (if old.reference r = new.reference r then s else measurerFailed t r s) := by
    intro r s
    split
    · exact .refl s
    · exact measurerFailed_talks t r s
  exact ((putTrackerAt_within t _ s).talks.trans (hf _ _)).trans (hf _ _)

/-- What the write of a SOURCES entry makes of the source's record (R8, R31, R34). -/
def sourceChange (old new : SourceEntry) : SourceRecord → SourceRecord :=
  if !old.enabled && new.enabled then awaitSource
  else if old.enabled && !new.enabled then offSource
  else if new.enabled && (old.sourceId != new.sourceId || old.channelCount != new.channelCount) then
    awaitSource
  else id

/-- The entry a taken write names replaced, and the record of a source whose entry it is changed with it;
what follows of the write's effects is the work of the consumers. -/
def entryReplaced (w : EntryWrite) (s : State) : State :=
  { s with
    tables := replaced s.tables w
    sources := match w with
      | .source i e => updAt s.sources i (sourceChange s.tables.sources[i] e)
      | _ => s.sources }

theorem entryReplaced_beside (w : EntryWrite) (s : State) : Beside s (entryReplaced w s) :=
  ⟨rfl, rfl, rfl, rfl, rfl, rfl, rfl, rfl⟩

theorem writeSource_talks (i : Fin 8) (e : SourceEntry) (s : State) :
    Talks Within a (entryReplaced (.source i e) s) (writeSource i e s) := by
  have hw : ∀ p s, Talks Within a s (channelsWhere p endAllWindows s) := fun p s =>
    channelsWhere_talks p _ endAllWindows_talks s
  have hb : entryReplaced (.source i e) s = onSource i (sourceChange s.tables.sources[i] e)
      (onTables (fun t => { t with sources := putAt t.sources i e }) s) := rfl
  have hc := onCapture_within (fun u => u.sourceWritten i s.tables.sources[i] e)
    (entryReplaced (.source i e) s)
  rw [hb] at hc ⊢
  unfold sourceChange at hc ⊢
  unfold writeSource
  dsimp only
  split
  · next h1 => rw [if_pos h1] at hc; exact .of_quiet hc
  · next h1 =>
    rw [if_neg h1] at hc
    split
    · next h2 =>
      rw [if_pos h2] at hc
      exact ((Talks.of_quiet hc).trans
        (inSomeOrder_talks _ _ (fun t s => trackerLoses_talks t i s) _)).trans (hw _ _)
    · next h2 =>
      rw [if_neg h2] at hc
      split
      · next h3 =>
        rw [if_pos h3] at hc
        exact (((Talks.of_quiet hc).quietly (putTrackerAt_within 0 _ _)).quietly
          (putTrackerAt_within 1 _ _)).trans (hw _ _)
      · next h3 =>
        rw [if_neg h3] at hc
        have hid : ∀ s : State, onSource i id s = s := fun s => by simp [onSource, updAt]
        rw [hid] at hc ⊢
        exact .of_quiet hc

theorem writeChannel_talks (c : Fin 16) (e : ChannelEntry) (s : State) :
    Talks Within a (entryReplaced (.channel c e) s) (writeChannel c e s) := by
  unfold writeChannel
  dsimp only
  split
  · exact .refl _
  · split
    · exact ((identity_talks c _).quietly (putTrackerAt_within 0 _ _)).quietly (putTrackerAt_within 1 _ _)
    · exact identity_talks c _

theorem writeGroup_talks (g : Fin 4) (e : GroupEntry) (s : State) :
    Talks Within a (entryReplaced (.group g e) s) (writeGroup g e s) := by
  have hw : ∀ (b : Bool) p s, Talks Within a s (if b then channelsWhere p endAllWindows s else s) := by
    intro b p s
    split
    · exact channelsWhere_talks p _ endAllWindows_talks s
    · exact .refl s
  have hi : ∀ (b : Bool) p s, Talks Within a s
      (if b then channelsWhere p (fun c s => clearChecks c (endAllWindows c s)) s else s) := by
    intro b p s
    split
    · exact channelsWhere_talks p _ identity_talks s
    · exact .refl s
  exact (hw _ _ _).trans (hi _ _ _)

theorem writePlan_talks (c : Fin 16) (e : PlanRow) (s : State) :
    Talks Within a (entryReplaced (.plan c e) s) (writePlan c e s) := by
  unfold writePlan
  dsimp only
  split
  · exact .refl _
  · split
    · exact .of_quiet ⟨_, _, _, _, _, _, _, _, _, rfl⟩
    · exact (Talks.of_quiet ⟨_, _, _, _, _, _, _, _, _, rfl⟩).trans (endAllWindows_talks c _)

theorem writeTracker_talks (t : Fin 2) (e : TrackerEntry) (s : State) :
    Talks Within a (entryReplaced (.tracker t e) s) (writeTracker t e s) := by
  unfold writeTracker
  dsimp only
  split
  · exact .refl _
  · exact (requestMode_talks t _ _ _).trans (changeReferences_talks t _ _ _)

/-- R162, R163: what the effects of a taken entry write say, once the entry is replaced. -/
theorem applyWrite_talks (w : EntryWrite) (s : State) :
    Talks Within a (entryReplaced w s) (applyWrite w s) := by
  cases w with
  | general e => exact (onCapture_within (fun u => { u with settings := e.capture }) _).talks
  | source i e => exact writeSource_talks i e s
  | channel c e => exact writeChannel_talks c e s
  | group g e => exact writeGroup_talks g e s
  | tracker t e => exact writeTracker_talks t e s
  | plan c e => exact writePlan_talks c e s
  | band i e => exact .refl _
  | signature i e => exact .refl _

/-- R144, R170: what the effects of a restored entry say, once the entry is replaced. -/
theorem applyRestored_talks (w : EntryWrite) (s : State) :
    Talks Within a (entryReplaced w s) (applyRestored w s) := by
  cases w with
  | general e => exact (onCapture_within (fun u => u.restored e.capture) _).talks
  | source i e => exact applyWrite_talks (.source i e) s
  | channel c e => exact applyWrite_talks (.channel c e) s
  | group g e => exact applyWrite_talks (.group g e) s
  | tracker t e => exact applyWrite_talks (.tracker t e) s
  | plan c e => exact applyWrite_talks (.plan c e) s
  | band i e => exact applyWrite_talks (.band i e) s
  | signature i e => exact applyWrite_talks (.signature i e) s

theorem applyWrite_orderly (w : EntryWrite) {s : State} (h : Orderly s) : Orderly (applyWrite w s) :=
  (applyWrite_talks (a := False) w s).beside.orderly_beside
    ((entryReplaced_beside w s).sameQueues.orderly h)

theorem applyRestored_orderly (w : EntryWrite) {s : State} (h : Orderly s) :
    Orderly (applyRestored w s) :=
  (applyRestored_talks (a := False) w s).beside.orderly_beside
    ((entryReplaced_beside w s).sameQueues.orderly h)

end Sys2Proof.Machine

namespace Sys2Proof.Machine
open Sys2Proof.Claims

variable {a : Prop}

/-! ### What the consumers of a source, reports and replies never touch -/

structure Apart (s t : State) : Prop where
  powered : t.powered = s.powered
  localTime : t.localTime = s.localTime
  opState : t.opState = s.opState
  loadedTables : t.loadedTables = s.loadedTables
  bootStation : t.bootStation = s.bootStation
  bootStreamType : t.bootStreamType = s.bootStreamType
  tables : t.tables = s.tables
  sources : t.sources = s.sources
  lastGap : t.lastGap = s.lastGap
  lostSources : t.lostSources = s.lostSources
  store : t.store = s.store
  protection : t.protection = s.protection
  sourceCounters : t.counters.sources = s.counters.sources

theorem Apart.refl (s : State) : Apart s s :=
  ⟨rfl, rfl, rfl, rfl, rfl, rfl, rfl, rfl, rfl, rfl, rfl, rfl, rfl⟩

theorem Apart.trans {s t u : State} (h : Apart s t) (k : Apart t u) : Apart s u where
  powered := k.powered.trans h.powered
  localTime := k.localTime.trans h.localTime
  opState := k.opState.trans h.opState
  loadedTables := k.loadedTables.trans h.loadedTables
  bootStation := k.bootStation.trans h.bootStation
  bootStreamType := k.bootStreamType.trans h.bootStreamType
  tables := k.tables.trans h.tables
  sources := k.sources.trans h.sources
  lastGap := k.lastGap.trans h.lastGap
  lostSources := k.lostSources.trans h.lostSources
  store := k.store.trans h.store
  protection := k.protection.trans h.protection
  sourceCounters := k.sourceCounters.trans h.sourceCounters

theorem Apart.station {s t : State} (h : Apart s t) : t.station = s.station := by
  unfold State.station State.beforeGeneral
  rw [h.opState, h.loadedTables, h.bootStation, h.tables]

theorem Apart.streamType {s t : State} (h : Apart s t) : t.streamType = s.streamType := by
  unfold State.streamType State.beforeGeneral
  rw [h.opState, h.loadedTables, h.bootStreamType, h.tables]

theorem Within.apart {s t : State} (h : Within s t) : Apart s t := by
  obtain ⟨_, _, _, _, _, _, _, _, _, rfl⟩ := h
  exact ⟨rfl, rfl, rfl, rfl, rfl, rfl, rfl, rfl, rfl, rfl, rfl, rfl, rfl⟩

/-- The output sides and the record queue stand apart from these fields. -/
theorem setOut_apart (l : Line) (o : LineOut) (q : List OutRecord) (cu : CommandUnit) (s : State) :
    Apart s (setOut l o { s with records := q, command := cu }) := by
  cases l <;> exact ⟨rfl, rfl, rfl, rfl, rfl, rfl, rfl, rfl, rfl, rfl, rfl, rfl, rfl⟩

theorem kick_apart (l : Line) (s : State) : Apart s (kick l s) := by
  obtain ⟨o, r, h⟩ := kick_frame l s
  rw [h]
  exact setOut_apart l o r s.command s

theorem replyWith_apart (restart : Bool) (c : CommandFrame) (st : Status) (res : List Byte)
    (s : State) : Apart s (replyWith restart c st res s) := by
  obtain ⟨o, r, h⟩ := replyWith_frame restart c st res s
  rw [h]
  exact setOut_apart c.line o r _ s

theorem Reports.apart {s t : State} (h : Reports s t) : Apart s t := by
  obtain ⟨_, _, _, _, _, _, rfl⟩ := h
  exact ⟨rfl, rfl, rfl, rfl, rfl, rfl, rfl, rfl, rfl, rfl, rfl, rfl, rfl⟩

theorem Talks.apart_of {Q : State → State → Prop} (hQ : ∀ s t, Q s t → Apart s t) {s t : State}
    (h : Talks Q a s t) : Apart s t := by
  induction h with
  | refl => exact .refl s
  | quietly _ hw ih => exact ih.trans (hQ _ _ hw)
  | offered r _ ih => exact ih.trans ((setOut_apart .b _ _ _ _).trans (kick_apart .b _))
  | dropCounted d _ ih => exact ih.trans (countDrop_reports d _).apart
  | noted k _ _ ih => exact ih.trans (noteFault_reports k _).apart
  | filled k n d _ _ _ ih => exact ih.trans (fillFault_reports k n d _).apart
  | answered c st res _ _ _ ih => exact ih.trans (replyWith_apart false c st res _)

theorem Talks.apart {s t : State} (h : Talks Within a s t) : Apart s t :=
  h.apart_of fun _ _ h => h.apart

end Sys2Proof.Machine

namespace Sys2Proof.Machine
open Sys2Proof.Claims

variable {a : Prop}

/-! ### What most events keep -/

/-- R16, R17, R19: what a source's record keeps by itself, whatever its table entry is. -/
structure SourceRecord.Sound (r : SourceRecord) : Prop where
  silence : r.silence.isSome = true ↔ r.state = .running
  position : r.state = .running → r.lastPos.isSome = true
  values : ∀ j : Fin 8, -8388608 ≤ r.lastValues[j] ∧ r.lastValues[j] ≤ 8388607

/-- A source's record changes as the source monitor changes it: a source that is OFF stays OFF, and no
other becomes OFF. -/
def RecordMoves (r r' : SourceRecord) : Prop :=
  (r'.state = .off ↔ r.state = .off) ∧ (r.Sound → r'.Sound)

theorem RecordMoves.refl (r : SourceRecord) : RecordMoves r r := ⟨.rfl, id⟩

theorem RecordMoves.of_on {r r' : SourceRecord} (h : r.state ≠ .off) (h' : r'.state ≠ .off)
    (hs : r.Sound → r'.Sound) : RecordMoves r r' := ⟨iff_of_false h' h, hs⟩

theorem RecordMoves.trans {r r' r'' : SourceRecord} (h : RecordMoves r r') (k : RecordMoves r' r'') :
    RecordMoves r r'' := ⟨k.1.trans h.1, k.2 ∘ h.2⟩

/-- What every event keeps but those that write tables, images or the store unit's buffer, change the
operating state or restart the module. -/
structure Holds (s t : State) : Prop where
  tables : t.tables = s.tables
  opState : t.opState = s.opState
  images : t.store.images = s.store.images
  buffer : ∀ b, t.store.op = .storing b → s.store.op = .storing b
  sources : ∀ i : Fin 8, RecordMoves s.sources[i] t.sources[i]
  orderly : Orderly s → Orderly t

/-- What such an event keeps, what LOADING holds still included. -/
structure Keeps (s t : State) : Prop extends Holds s t where
  quiet : LoadingQuiet s → LoadingQuiet t

theorem Holds.refl (s : State) : Holds s s := ⟨rfl, rfl, rfl, fun _ => id, fun _ => .refl _, id⟩

theorem Holds.trans {s t u : State} (h : Holds s t) (k : Holds t u) : Holds s u where
  tables := k.tables.trans h.tables
  opState := k.opState.trans h.opState
  images := k.images.trans h.images
  buffer b := h.buffer b ∘ k.buffer b
  sources i := (h.sources i).trans (k.sources i)
  orderly := k.orderly ∘ h.orderly

theorem Keeps.refl (s : State) : Keeps s s := ⟨.refl s, id⟩

theorem Keeps.trans {s t u : State} (h : Keeps s t) (k : Keeps t u) : Keeps s u :=
  ⟨h.toHolds.trans k.toHolds, k.quiet ∘ h.quiet⟩

/-- Where nothing is held still, or LOADING does not hold it, an event that holds the rest keeps all. -/
theorem Holds.keeps {s t : State} (h : Holds s t) (hn : s.opState = .loading → ¬ LoadingQuiet s) :
    Keeps s t := ⟨h, fun hq hl => absurd hq (hn (h.opState ▸ hl))⟩

theorem Holds.keeps_outside {s t : State} (h : Holds s t) (hl : s.opState ≠ .loading) : Keeps s t :=
  h.keeps fun h => absurd h hl

/-- The fields that LOADING holds still are as they were. -/
structure Still (s t : State) : Prop where
  tables : t.tables = s.tables
  opState : t.opState = s.opState
  loadedTables : t.loadedTables = s.loadedTables
  memOwner : t.memOwner = s.memOwner
  engine : t.engine = s.engine
  images : t.store.images = s.store.images
  storeOp : t.store.op = s.store.op ∨ t.store.op = .idle
  requested : t.command.requested = true → s.command.requested = true
  capture : t.capture = s.capture
  sources : t.sources = s.sources
  trackers : t.trackers = s.trackers
  channels : t.channels = s.channels

theorem Still.loadingQuiet {s t : State} (h : Still s t) (hs : LoadingQuiet s) : LoadingQuiet t := by
  intro hl
  obtain ⟨hn, hm, he, ho, hr, hc, hsrc, htr, hch⟩ := hs (h.opState ▸ hl)
  refine ⟨h.loadedTables ▸ hn, h.memOwner ▸ hm, h.engine ▸ he, ?_, ?_, h.capture ▸ hc,
    h.sources ▸ hsrc, h.trackers ▸ htr, h.channels ▸ hch⟩
  · obtain e | e := h.storeOp
    · rw [e, ho]
    · exact e
  · cases hq : t.command.requested with
    | false => rfl
    | true => rw [h.requested hq] at hr; cases hr

theorem Still.keeps {s t : State} (h : Still s t) (ho : Orderly s → Orderly t) : Keeps s t where
  tables := h.tables
  opState := h.opState
  images := h.images
  buffer b hb := by
    obtain e | e := h.storeOp
    · rw [← e, hb]
    · rw [e] at hb; cases hb
  sources i := by rw [h.sources]; exact .refl _
  orderly := ho
  quiet := h.loadingQuiet

theorem Reports.still {s t : State} (h : Reports s t) : Still s t := by
  obtain ⟨_, _, _, _, _, _, rfl⟩ := h
  exact ⟨rfl, rfl, rfl, rfl, rfl, rfl, .inl rfl, id, rfl, rfl, rfl, rfl⟩

theorem setOut_still (l : Line) (o : LineOut) (q : List OutRecord) {cu : CommandUnit} {s : State}
    (hr : cu.requested = true → s.command.requested = true) :
    Still s (setOut l o { s with records := q, command := cu }) := by
  cases l <;> exact ⟨rfl, rfl, rfl, rfl, rfl, rfl, .inl rfl, hr, rfl, rfl, rfl, rfl⟩

theorem replyWith_still (restart : Bool) (c : CommandFrame) (st : Status) (res : List Byte)
    (s : State) : Still s (replyWith restart c st res s) := by
  obtain ⟨o, r, h⟩ := replyWith_frame restart c st res s
  rw [h]
  exact setOut_still c.line o r (by simp)

theorem replyWith_keeps (restart : Bool) (c : CommandFrame) (st : Status) (res : List Byte)
    {s : State} (hq : s.command.queue ≠ []) : Keeps s (replyWith restart c st res s) :=
  (replyWith_still restart c st res s).keeps fun h => replyWith_orderly restart c st res h hq

theorem ties_keeps (s : State) (ts : Ties) : Keeps s { s with ties := ts } :=
  (ties_reports s ts).still.keeps (SameQueues.orderly ⟨rfl, rfl, rfl, rfl⟩)

theorem reportFault_orderly {k : FaultKind} (n : Nat) (d : FaultDetail) {s : State} (h : Orderly s) :
    Orderly (reportFault k n d s) := by
  have hn : ∀ k (s : State), SameQueues s (noteFault k s) := fun _ _ => ⟨rfl, rfl, rfl, rfl⟩
  unfold reportFault
  split
  · exact (hn _ s).orderly h
  · exact (offerWhileHeld_talks (Q := SameQueues) (a := False) _ _).orderly (fun _ _ h => h)
      (SameQueues.orderly (s := s) ⟨rfl, rfl, rfl, rfl⟩ h)

theorem reportFault_keeps (k : FaultKind) (n : Nat) (d : FaultDetail) (s : State) :
    Keeps s (reportFault k n d s) :=
  (reportFault_reports k n d s).still.keeps (reportFault_orderly n d)

theorem Holds.of_apart {s t : State} (h : Apart s t) (ho : Orderly s → Orderly t) : Holds s t where
  tables := h.tables
  opState := h.opState
  images := by rw [h.store]
  buffer b hb := by rw [← h.store, hb]
  sources i := by rw [h.sources]; exact .refl _
  orderly := ho

theorem Talks.holds {s t : State} (h : Talks Within a s t) : Holds s t :=
  .of_apart h.apart h.beside.orderly_beside

/-! #### Frames (R1, R2, R146) -/

theorem offerForward_keeps (l : Line) (f : Frame) (s : State) : Keeps s (offerForward l f s) := by
  obtain ⟨hf, e⟩ | ⟨_, e⟩ := offerForward_cases l f s
  · rw [e]
    refine Still.keeps (t := kick l _) ?_ (fun h => offerForward_joins_orderly l f h hf)
    obtain ⟨o, r, h⟩ := kick_frame l (setOut l { s.out l with forward := (s.out l).forward ++ [f] } s)
    rw [h]
    cases l <;> exact ⟨rfl, rfl, rfl, rfl, rfl, rfl, .inl rfl, id, rfl, rfl, rfl, rfl⟩
  · rw [e]
    refine Keeps.trans (Still.keeps (t := countForwardDrop l s) ?_ ?_) (reportFault_keeps _ _ _ _)
    · cases l <;> exact ⟨rfl, rfl, rfl, rfl, rfl, rfl, .inl rfl, id, rfl, rfl, rfl, rfl⟩
    · exact SameQueues.orderly (by cases l <;> exact ⟨rfl, rfl, rfl, rfl⟩)

theorem counters_keeps (k : Counters) (s : State) : Keeps s { s with counters := k } :=
  Still.keeps ⟨rfl, rfl, rfl, rfl, rfl, rfl, .inl rfl, id, rfl, rfl, rfl, rfl⟩
    (SameQueues.orderly ⟨rfl, rfl, rfl, rfl⟩)

theorem offerCommand_keeps (c : CommandFrame) (s : State) : Keeps s (offerCommand c s) := by
  unfold offerCommand
  split
  · next h =>
    refine Still.keeps ⟨rfl, rfl, rfl, rfl, rfl, rfl, .inl rfl, id, rfl, rfl, rfl, rfl⟩ fun ho => ?_
    obtain ⟨⟨hl, hn, _⟩, hs⟩ := ho
    refine ⟨⟨fun l => by cases l; exacts [hl .a, hl .b], hn, ?_⟩, fun l => ?_⟩
    · simp only [State.placesHeld, Config.commandPlaces] at h
      simp only [List.length_append, List.length_singleton]
      omega
    · exact (hs l).congr (by cases l <;> rfl) (by cases l <;> rfl)
  · exact (counters_keeps _ s).trans (reportFault_keeps _ _ _ _)

theorem giveCommand_keeps (l : Line) (f : Frame) (s : State) : Keeps s (giveCommand l f s) := by
  unfold giveCommand
  dsimp only
  split
  · exact counters_keeps _ s
  · exact offerCommand_keeps _ s

theorem giveBroadcast_keeps (l : Line) (f : Frame) (s : State) : Keeps s (giveBroadcast l f s) := by
  unfold giveBroadcast
  dsimp only
  split
  · exact giveCommand_keeps l f s
  · exact .refl s

theorem keeps_either (f g : State → State) (hf : ∀ s, Keeps s (f s)) (hg : ∀ s, Keeps s (g s))
    (s : State) : Keeps s (either f g s) :=
  either_keeps (P := Keeps s) f g (fun _ ts h => h.trans (ties_keeps _ ts))
    (fun _ h => h.trans (hf _)) (fun _ h => h.trans (hg _)) s (.refl s)

theorem sortLineB_keeps (f : Frame) (s : State) : Keeps s (sortLineB f s) := by
  unfold sortLineB
  split
  · exact giveCommand_keeps .b f s
  · exact keeps_either _ _ (offerForward_keeps .a f) (giveBroadcast_keeps .b f) s
  · exact offerForward_keeps .a f s
  · exact offerForward_keeps .a f s

/-! #### The source monitor -/

theorem clampValue_bounds (v : Int) : -8388608 ≤ clampValue v ∧ clampValue v ≤ 8388607 := by
  unfold clampValue
  split
  · omega
  · split <;> omega

/-- R16, R17: last values stay 24-bit counts. -/
theorem lastValuesAfter_bounds (e : SourceEntry) {last : Vector Int 8} (m : List Byte)
    (h : ∀ j : Fin 8, -8388608 ≤ last[j] ∧ last[j] ≤ 8388607) (j : Fin 8) :
    -8388608 ≤ (lastValuesAfter e last m)[j] ∧ (lastValuesAfter e last m)[j] ≤ 8388607 := by
  unfold lastValuesAfter
  simp only [Fin.getElem_fin, Vector.getElem_ofFn]
  split
  · exact clampValue_bounds _
  · exact h j

theorem recordMoves_onSource {src : Fin 8} {f : SourceRecord → SourceRecord} {s : State}
    (h : RecordMoves s.sources[src] (f s.sources[src])) (i : Fin 8) :
    RecordMoves s.sources[i] (onSource src f s).sources[i] := by
  rw [onSource_sources, updAt_get]
  split
  · next hi => rw [hi]; exact h
  · exact .refl _

theorem onSource_holds {src : Fin 8} {f : SourceRecord → SourceRecord} {s : State}
    (h : RecordMoves s.sources[src] (f s.sources[src])) : Holds s (onSource src f s) where
  tables := rfl
  opState := rfl
  images := rfl
  buffer _ := id
  sources := recordMoves_onSource h
  orderly := (onSource_beside src f s).sameQueues.orderly

theorem takeFrame_holds (met : State → State) (hm : ∀ s, Talks Within a s (met s)) (src : Fin 8)
    (m : List Byte) (before : List Item) {s : State} (hs : s.sources[src].state ≠ .off) :
    Holds s (takeFrame met src m before s) := by
  unfold takeFrame
  dsimp only
  refine (onSource_holds (src := src) (.of_on hs (by simp) fun h => ⟨by simp, fun _ => rfl, ?_⟩)).trans
    ((counters_keeps _ _).toHolds.trans (deliver_talks met hm src _ _).holds)
  exact lastValuesAfter_bounds _ m h.values

/-- R19: a source just LOST, before anything is said of it: its record, its loss counter, the lost-source
set. -/
def markLost (src : Fin 8) (s : State) : State :=
  { onSourceCounters src (fun k => { k with losses := countUp k.losses 1 })
      (onSource src (fun r => { r with state := .lost, silence := none }) s) with
    lostSources := putAt s.lostSources src true }

/-- R19: the detail of SOURCE_LOST: the last block position, absent if there is none. -/
def SourceRecord.lossDetail (r : SourceRecord) : FaultDetail :=
  match r.lastPos with
  | some p => .number p
  | none => .absent

theorem markLost_holds (src : Fin 8) {s : State} (hs : s.sources[src].state ≠ .off) :
    Holds s (markLost src s) where
  tables := rfl
  opState := rfl
  images := rfl
  buffer _ := id
  sources := recordMoves_onSource (f := fun r => { r with state := .lost, silence := none })
    (.of_on hs (by simp) fun h => ⟨by simp, by simp, h.values⟩)
  orderly := SameQueues.orderly ⟨rfl, rfl, rfl, rfl⟩

theorem loseSource_holds (src : Fin 8) {s : State} (hs : s.sources[src].state ≠ .off) :
    Holds s (loseSource src s) :=
  ((markLost_holds src hs).trans
    (reportFault_keeps .sourceLost src.val s.sources[src].lossDetail _).toHolds).trans
    (deliverLoss_talks (a := False) src _).holds

/-- R5 to R21: the source monitor, and the triggers that a frame meets. -/
theorem monitorFrame_keeps (expiry : Bool) (met : State → State)
    (hm : ∀ s, Talks Within a s (met s)) (m : List Byte) (s : State) :
    Keeps s (monitorFrame expiry met m s) := by
  have hid : ∀ s, Talks Within False s (id s) := .refl
  have hc : ∀ src f s, Holds s (onSourceCounters src f s) := fun _ _ s => (counters_keeps _ s).toHolds
  unfold monitorFrame
  split
  · exact .refl s
  · next hl =>
    split
    · exact counters_keeps _ s
    · next src _ =>
      refine Holds.keeps_outside ?_ hl
      split
      · exact (hc src _ s).trans (reportFault_keeps _ _ _ _).toHolds
      · unfold ruleFrame
        split
        · next q hr _ =>
          have hs : s.sources[src].state ≠ .off := by rw [hr]; simp
          unfold ruleRunning
          dsimp only
          split
          · exact takeFrame_holds id hid src m _ hs
          · split
            · split
              · exact (loseSource_holds src hs).trans (hc src _ _)
              · exact hc src _ s
            · split
              · have hg : ∀ g (s : State), Holds s { s with lastGap := g } := fun _ _ =>
                  ⟨rfl, rfl, rfl, fun _ => id, fun _ => .refl _, SameQueues.orderly ⟨rfl, rfl, rfl, rfl⟩⟩
                exact ((hc src _ s).trans (hg (some src) _)).trans (takeFrame_holds id hid src m _ hs)
              · have hk := (hc src (fun k => { k with realigns := countUp k.realigns 1 }) s).trans
                  (reportFault_keeps .sourceRealign src.val (.number (blockPosition m)) _).toHolds
                exact hk.trans (takeFrame_holds met hm src m _
                  (fun h => hs ((hk.sources src).1.mp h)))
        · exact .refl s
        · next hoff _ => exact takeFrame_holds id hid src m _ hoff

theorem sortLineA_keeps (expiry : Bool) (met : State → State) (hm : ∀ s, Talks Within a s (met s))
    (f : Frame) (s : State) : Keeps s (sortLineA expiry met f s) := by
  unfold sortLineA
  split
  · exact keeps_either _ _ (offerForward_keeps .b f) (monitorFrame_keeps expiry met hm _) s
  · exact giveCommand_keeps .a f s
  · exact keeps_either _ _ (offerForward_keeps .b f) (giveBroadcast_keeps .a f) s
  · exact offerForward_keeps .b f s

end Sys2Proof.Machine

namespace Sys2Proof.Machine
open Sys2Proof.Claims

/-! ### Commands of the host computer -/

theorem command_keeps {α : Type} (code : Nat) (parse : List Byte → Option α)
    (body : α → CommandFrame → State → State) (s : State)
    (hb : ∀ p c, s.command.queue ≠ [] → s.opState ≠ .loading → Keeps s (body p c s)) :
    Keeps s (command code parse body s) := by
  obtain h | ⟨c, rest, hq, _, _, ⟨_, h⟩ | ⟨_, _, h⟩ | ⟨p, hl, _, h⟩⟩ := command_cases code parse body s
  · rw [h]; exact .refl s
  · rw [h]; exact replyWith_keeps false c _ _ (by simp [hq])
  · rw [h]; exact replyWith_keeps false c _ _ (by simp [hq])
  · rw [h]; exact hb p c (by simp [hq]) hl

/-- A change of contexts, rotation point, engine and the memory's owner, and of the mark that the oldest
command has requested the memory. -/
theorem handover_holds (ch : Vector ChannelUnit 16) (rot : Fin 16) (e : Engine) (m : MemOwner)
    (b : Bool) (s : State) : Holds s { s with
      channels := ch, rotation := rot, engine := e, memOwner := m
      command := { s.command with requested := b } } :=
  .of_apart ⟨rfl, rfl, rfl, rfl, rfl, rfl, rfl, rfl, rfl, rfl, rfl, rfl, rfl⟩
    (SameQueues.orderly ⟨rfl, rfl, rfl, rfl⟩)

theorem memOwner_holds (m : MemOwner) (s : State) : Holds s { s with memOwner := m } :=
  handover_holds s.channels s.rotation s.engine m s.command.requested s

theorem requested_holds (b : Bool) (s : State) :
    Holds s { s with command := { s.command with requested := b } } :=
  handover_holds s.channels s.rotation s.engine s.memOwner b s

theorem commandRelease_holds (s : State) : Holds s (commandRelease s) := by
  obtain ⟨ch, rot, e, m, h⟩ := commandRelease_frame s
  rw [h]
  exact handover_holds ch rot e m s.command.requested s

theorem beginNext_holds (s : State) : Holds s (beginNext s) := by
  obtain h | ⟨_, _, _, _, _, _, h⟩ := beginNext_cases s
  · rw [h]; exact .refl s
  · rw [h]; exact requested_holds true s

/-- R79, R80: outside LOADING, a command that needs the table memory keeps what most events keep, but for
what it does while it holds the memory. -/
theorem withMemory_keeps_or (refusal : Option Status) (f : State → State) (c : CommandFrame) {s : State}
    (hq : s.command.queue ≠ []) (hl : s.opState ≠ .loading)
    (hf : (f { s with memOwner := .command }).opState ≠ .loading) :
    Keeps s (withMemory refusal f c s)
      ∨ Keeps (f { s with memOwner := .command }) (withMemory refusal f c s) := by
  obtain ⟨_, _, _, h⟩ | ⟨_, h⟩ | ⟨_, _, _, h⟩ | ⟨_, _, h⟩ := withMemory_cases refusal f c s
  · rw [h]; exact .inl (replyWith_keeps false c _ _ hq)
  · rw [h]
    exact .inr (((beginNext_holds _).trans (commandRelease_holds _)).keeps_outside hf)
  · rw [h]; exact .inl ((requested_holds true s).keeps_outside hl)
  · rw [h]; exact .inl (.refl s)

theorem withMemory_keeps (refusal : Option Status) (f : State → State) (c : CommandFrame) {s : State}
    (hq : s.command.queue ≠ []) (hl : s.opState ≠ .loading)
    (hf : Keeps { s with memOwner := .command } (f { s with memOwner := .command })) :
    Keeps s (withMemory refusal f c s) := by
  have hk := ((memOwner_holds .command s).keeps_outside hl).trans hf
  obtain h | h := withMemory_keeps_or refusal f c hq hl (by rw [hk.opState]; exact hl)
  · exact h
  · exact hk.trans h

theorem onOldest_keeps (p : CommandFrame → Bool) (body : CommandFrame → State → State) (s : State)
    (hb : ∀ c, s.command.queue ≠ [] → Keeps s (body c s)) : Keeps s (onOldest p body s) := by
  obtain ⟨c, rest, hq, _, _, h⟩ | h := onOldest_cases p body s
  · rw [h]; exact hb c (by simp [hq])
  · rw [h]; exact .refl s

theorem answered_keeps {s u : State} (c : CommandFrame) (st : Status) (res : List Byte)
    (h : Keeps s u) (hq : u.command.queue ≠ []) : Keeps s (reply c st res u) :=
  h.trans (replyWith_keeps false c st res hq)

theorem whilePowered_keeps (f : State → State) (s : State) (h : Keeps s (f s)) :
    Keeps s (whilePowered f s) := by
  unfold whilePowered
  split
  · exact h
  · exact .refl s

theorem withTies_keeps (ties : Ties) (f : State → State) (s : State)
    (h : Keeps { s with ties := ties } (f { s with ties := ties })) : Keeps s (withTies ties f s) :=
  ((ties_keeps s ties).trans h).trans (ties_keeps _ [])

theorem protection_keeps (p : ProtectionLogic) (s : State) : Keeps s { s with protection := p } :=
  Still.keeps ⟨rfl, rfl, rfl, rfl, rfl, rfl, .inl rfl, id, rfl, rfl, rfl, rfl⟩
    (SameQueues.orderly ⟨rfl, rfl, rfl, rfl⟩)

theorem onCapture_keeps_outside (f : CaptureUnit → CaptureUnit) {s : State}
    (hl : s.opState ≠ .loading) : Keeps s (onCapture f s) :=
  (Talks.of_quiet (onCapture_within f s) : Talks Within False s _).holds.keeps_outside hl

/-- R166: the store unit takes up another operation, its images and its buffer as they were. -/
theorem onStore_holds {f : SettingsStore → SettingsStore} {s : State}
    (hi : (f s.store).images = s.store.images)
    (ho : ∀ b, (f s.store).op = .storing b → s.store.op = .storing b) : Holds s (onStore f s) :=
  ⟨rfl, rfl, hi, ho, fun _ => .refl _, SameQueues.orderly ⟨rfl, rfl, rfl, rfl⟩⟩

/-! ### What a step can do to the tables, the store, the sources and the operating state -/

/-- What an event does: it keeps what most events keep, or it is one of the few that write the tables, the
images or the buffer, change the operating state or restart the module. Around that change `u` and `t` keep
what most events keep. -/
inductive Effect (s : State) : State → Prop
  | keeps {t : State} : Keeps s t → Effect s t
  | wrote {u t : State} (params : List Byte) (raw : RawWrite) (w : EntryWrite) (clamped : Bool) :
      s.opState ≠ .loading → Keeps s u → parseWrite params = some raw →
      judge u raw = .ok (w, clamped) → Keeps (applyWrite w u) t → Effect s t
  | requested {u t : State} (i : Fin 2) (m : RequestedMode) (f : Nat) :
      s.opState ≠ .loading → Keeps s u → 47000 ≤ f → f ≤ 53000 →
      Keeps (writeRequest i m f u) t → Effect s t
  | analysis {u t : State} (o : OpState) :
      s.opState ≠ .loading → o ≠ .loading → Keeps s u → Keeps { u with opState := o } t → Effect s t
  | storing {u t : State} (id : TableId) :
      s.opState ≠ .loading → Keeps s u → Keeps (beginStoring id u) t → Effect s t
  | programmed (img : TableImage) (f : SettingsStore → SettingsStore) :
      s.store.op = .storing img → (f s.store).images = s.store.images.setImage img →
      (f s.store).op = .idle → Effect s (onStore f s)
  | restored (id : TableId) (ts : Ties) : s.store.op = .restoring id →
      Effect s { restoreCompletes id { s with ties := ts } with ties := [] }
  | copied {t : State} (id : TableId) : s.opState = .loading → tableOf? s.loadedTables = some id →
      Keeps { s with tables := s.tables.setImage (s.loadImage id)
                     loadedTables := s.loadedTables + 1 } t → Effect s t
  | loaded {t : State} (ts : Ties) : s.opState = .loading → s.loadedTables = 8 →
      Keeps (takeUpSettings { s with ties := ts }) t → Effect s t
  | restartedByPower : Effect s (restartByPower s)
  | restartedByCommand : Effect s (restartByCommand s)

end Sys2Proof.Machine

namespace Sys2Proof.Machine
open Sys2Proof.Claims

theorem LoadingQuiet.storeOp {s : State} (h : LoadingQuiet s) (hl : s.opState = .loading) :
    s.store.op = .idle := by
  obtain ⟨_, _, _, ho, _⟩ := h hl
  exact ho

theorem LoadingQuiet.source {s : State} (h : LoadingQuiet s) (hl : s.opState = .loading) (i : Fin 8) :
    s.sources[i].state = .off := by
  obtain ⟨_, _, _, _, _, _, hs, _⟩ := h hl
  exact hs i

theorem LoadingQuiet.engine {s : State} (h : LoadingQuiet s) (hl : s.opState = .loading) :
    s.engine = .idle := by
  obtain ⟨_, _, he, _⟩ := h hl
  exact he

theorem LoadingQuiet.tracker {s : State} (h : LoadingQuiet s) (hl : s.opState = .loading) (i : Fin 2) :
    s.trackers[i] = freshTracker := by
  obtain ⟨_, _, _, _, _, _, _, ht, _⟩ := h hl
  rw [ht]
  simp

/-! #### Events of the module -/

theorem withTies_holds (ties : Ties) (f : State → State) (s : State)
    (h : Holds { s with ties := ties } (f { s with ties := ties })) : Holds s (withTies ties f s) :=
  ((ties_keeps s ties).toHolds.trans h).trans (ties_keeps _ []).toHolds

theorem execLineAFrameArrival_keeps (f : Frame) (meeting : Meeting) (s : State) :
    Keeps s (whilePowered (fun s =>
      if f.fcsAgrees then withTies meeting.order
        (sortLineA meeting.expiry (takeTriggers meeting.triggers) f) s else s) s) := by
  refine whilePowered_keeps _ s ?_
  split
  · exact withTies_keeps _ _ s (sortLineA_keeps _ _ (takeTriggers_talks _) f _)
  · exact .refl s

theorem execLineBFrameArrival_keeps (f : Frame) (ties : Ties) (s : State) :
    Keeps s (whilePowered (fun s => if f.fcsAgrees then withTies ties (sortLineB f) s else s) s) := by
  refine whilePowered_keeps _ s ?_
  split
  · exact withTies_keeps _ _ s (sortLineB_keeps f _)
  · exact .refl s

theorem execSilenceTimeout_keeps (src : Fin 8) (ties : Ties) (s : State) :
    Keeps s (whilePowered (fun s =>
      if s.sources[src].state = .running then withTies ties (loseSource src) s else s) s) := by
  refine whilePowered_keeps _ s ?_
  split
  · next hr =>
    refine Holds.keeps ?_ fun hl hq => ?_
    · exact withTies_holds ties _ s (loseSource_holds src (s := { s with ties := ties })
        (by intro h; cases hr.symm.trans h))
    · cases hr.symm.trans (hq.source hl src)
  · exact .refl s

theorem execUsabilityTimeout_keeps (t : Fin 2) (r : Role) (ties : Ties) (s : State) :
    Keeps s (whilePowered (fun s =>
      if (s.trackers[t].measurer r).usable then withTies ties (usabilityExpires t r) s else s) s) := by
  refine whilePowered_keeps _ s ?_
  split
  · next hu =>
    refine Holds.keeps ?_ fun hl hq => ?_
    · exact withTies_holds ties _ s ((putTrackerAt_within t _ _).talks.trans
        (measurerFailed_talks (a := False) t r _)).holds
    · rw [hq.tracker hl t] at hu
      cases r <;> cases hu
  · exact .refl s

theorem execHoldTimeout_keeps (t : Fin 2) (ties : Ties) (s : State) :
    Keeps s (whilePowered (fun s =>
      if s.trackers[t].state = .hold then withTies ties (holdExpires t) s else s) s) := by
  refine whilePowered_keeps _ s ?_
  split
  · next hu =>
    refine Holds.keeps ?_ fun hl hq => ?_
    · exact withTies_holds ties _ s (moved_talks (a := False) t _ (by simp) _).holds
    · rw [hq.tracker hl t] at hu
      cases hu
  · exact .refl s

theorem execEvaluationComplete_keeps (ties : Ties) (s : State) :
    Keeps s (whilePowered (fun s =>
      match s.engine with
      | .evaluating c w => withTies ties (completeEvaluation c w) s
      | .waiting _ _ => s
      | .idle => s) s) := by
  refine whilePowered_keeps _ s ?_
  split
  · next c w he =>
    refine Holds.keeps ?_ fun hl hq => ?_
    · exact withTies_holds ties _ s (completeEvaluation_talks (a := False) c w _).holds
    · rw [hq.engine hl] at he
      cases he
  · exact .refl s
  · exact .refl s

theorem completeFrame_keeps (l : Line) (r : Reply) (s : State) : Keeps s (completeFrame l r s) := by
  have hc : ∀ s : State, Keeps s
      (choose l (setOut l { s.out l with sending := none } s)) := fun s => by
    refine Still.keeps ?_ fun ho => ?_
    · obtain ⟨_, _, _, e⟩ | ⟨_, rs, _, _, e⟩ | ⟨_, _, _, e⟩ | ⟨_, _, _, e⟩ :=
        choose_cases l (setOut l { s.out l with sending := none } s)
      all_goals
        rw [e]
        cases l <;> exact ⟨rfl, rfl, rfl, rfl, rfl, rfl, .inl rfl, id, rfl, rfl, rfl, rfl⟩
    · obtain ⟨⟨hl, hn, hp⟩, hs⟩ := ho
      refine choose_orderly ⟨fun m => ?_, by simpa using hn, ?_⟩ fun m hm => ?_
      · cases l <;> cases m
        exacts [hl .a, hl .b, hl .a, hl .b]
      · cases l <;> exact hp
      · refine (hs m).congr (setOut_other s hm _) ?_
        cases l <;> cases m <;> rfl
  unfold completeFrame
  split
  · refine Keeps.trans (t := { s with command := { s.command with restart := .due } }) ?_ ?_
    · exact Still.keeps ⟨rfl, rfl, rfl, rfl, rfl, rfl, .inl rfl, id, rfl, rfl, rfl, rfl⟩
        (SameQueues.orderly ⟨rfl, rfl, rfl, rfl⟩)
    · have h := hc { s with command := { s.command with restart := .due } }
      cases l <;> exact h
  · exact hc s

theorem execTransmitComplete_keeps (l : Line) (s : State) :
    Keeps s (whilePowered (fun s =>
      match (s.out l).sending with
      | some r => completeFrame l r s
      | none => s) s) := by
  refine whilePowered_keeps _ s ?_
  split
  · exact completeFrame_keeps l _ s
  · exact .refl s

theorem execMaintenanceLineChange_keeps (closed : Bool) (s : State) :
    Keeps s { s with maintenanceClosed := closed } :=
  Still.keeps ⟨rfl, rfl, rfl, rfl, rfl, rfl, .inl rfl, id, rfl, rfl, rfl, rfl⟩
    (SameQueues.orderly ⟨rfl, rfl, rfl, rfl⟩)

theorem execLocalTimeTick_keeps (s : State) :
    Keeps s (whilePowered (fun s => { s with localTime := s.localTime + 1 }) s) :=
  whilePowered_keeps _ s (Still.keeps ⟨rfl, rfl, rfl, rfl, rfl, rfl, .inl rfl, id, rfl, rfl, rfl, rfl⟩
    (SameQueues.orderly ⟨rfl, rfl, rfl, rfl⟩))

theorem execSupplyRemoved_keeps (s : State) :
    Keeps s (whilePowered (fun s =>
      { onStore (fun st => { st with op := .idle, outcome := .none }) s with powered := false }) s) :=
  whilePowered_keeps _ s (Still.keeps ⟨rfl, rfl, rfl, rfl, rfl, rfl, .inr rfl, id, rfl, rfl, rfl, rfl⟩
    (SameQueues.orderly ⟨rfl, rfl, rfl, rfl⟩))

theorem protectionCompletes_keeps (agrees : Bool) {s : State} (hop : s.store.op = .storingProtection) :
    Keeps s (protectionCompletes agrees s) := by
  have hn : s.opState = .loading → ¬ LoadingQuiet s := fun hl hq => by
    rw [hq.storeOp hl] at hop
    cases hop
  unfold protectionCompletes
  split
  · refine (onStore_holds ?_ (by simp)).keeps hn
    unfold SettingsStore.setCopy
    split <;> rfl
  · exact ((onStore_holds rfl (by simp)).trans (reportFault_keeps _ _ _ _).toHolds).keeps hn

theorem execProtectionProgrammingComplete_keeps (agrees : Bool) (s : State) :
    Keeps s (whilePowered (fun s =>
      if s.store.op = .storingProtection then protectionCompletes agrees s else s) s) := by
  refine whilePowered_keeps _ s ?_
  split
  · next hop => exact protectionCompletes_keeps agrees hop
  · exact .refl s

/-! #### Commands of the host computer -/

theorem execUnknownCommand_keeps (s : State) :
    Keeps s (onOldest CommandFrame.unknown (fun c s => reply c .unknownCommand [] s) s) :=
  onOldest_keeps _ _ s fun c hq => replyWith_keeps false c _ _ hq

theorem execIdentify_keeps (s : State) :
    Keeps s (onOldest (CommandFrame.hasCode 0x01)
      (fun c s => match parseNone (commandParams c.bytes) with
        | none => reply c .badParam [] s
        | some () => reply c .done s.identity s) s) := by
  refine onOldest_keeps _ _ s fun c hq => ?_
  split
  · exact replyWith_keeps false c _ _ hq
  · exact replyWith_keeps false c _ _ hq

theorem triggerCommand_keeps (s : State) : Keeps s (triggerCommand s) := by
  refine command_keeps _ _ _ s fun () c hq hl => ?_
  exact (triggerAnswered_talks c hq).holds.keeps_outside hl

/-- A command whose own rule changes the capture unit and answers. -/
theorem captureCommand_keeps (c : CommandFrame) (st : Status) (f : CaptureUnit → CaptureUnit) {s : State}
    (hq : s.command.queue ≠ []) (hl : s.opState ≠ .loading) :
    Keeps s (reply c st [] (onCapture f s)) :=
  answered_keeps c st [] (onCapture_keeps_outside f hl) hq

theorem execArmCapture_keeps (s : State) {t : State} (h : execArmCapture s = .next t) : Keeps s t := by
  cases h
  refine command_keeps _ _ _ s fun () c hq hl => ?_
  split
  · exact captureCommand_keeps c _ _ hq hl
  all_goals exact replyWith_keeps false c _ _ hq

theorem execReadCapture_keeps (s : State) {t : State} (h : execReadCapture s = .next t) : Keeps s t := by
  cases h
  refine command_keeps _ _ _ s fun p c hq hl => ?_
  split <;> exact replyWith_keeps false c _ _ hq

theorem execReleaseCapture_keeps (s : State) {t : State} (h : execReleaseCapture s = .next t) :
    Keeps s t := by
  cases h
  refine command_keeps _ _ _ s fun () c hq hl => ?_
  split
  · exact captureCommand_keeps c _ _ hq hl
  all_goals exact replyWith_keeps false c _ _ hq

theorem execDisarmCapture_keeps (s : State) {t : State} (h : execDisarmCapture s = .next t) :
    Keeps s t := by
  cases h
  exact command_keeps _ _ _ s fun () c hq hl => captureCommand_keeps c _ _ hq hl

/-- A command whose own rule only answers. -/
theorem answer_keeps {α : Type} (code : Nat) (parse : List Byte → Option α) (st : Status)
    (res : State → List Byte) (s : State) :
    Keeps s (command code parse (fun _ c s => reply c st (res s) s) s) :=
  command_keeps _ _ _ s fun _ c hq _ => replyWith_keeps false c _ _ hq

theorem execReadEntry_keeps (s : State) {t : State} (h : execReadEntry s = .next t) : Keeps s t := by
  cases h
  exact command_keeps _ _ _ s fun p c hq hl =>
    withMemory_keeps _ _ c hq hl (replyWith_keeps false c _ _ hq)

theorem execReadChecks_keeps (s : State) {t : State} (h : execReadChecks s = .next t) : Keeps s t := by
  cases h
  refine command_keeps _ _ _ s fun n c hq hl => ?_
  split
  · exact withMemory_keeps _ _ c hq hl (.refl _)
  · exact withMemory_keeps _ _ c hq hl (replyWith_keeps false c _ _ hq)

theorem execRestart_keeps (s : State) {t : State} (h : execRestart s = .next t) : Keeps s t := by
  cases h
  refine command_keeps _ _ _ s fun () c hq hl => ?_
  have hc : Keeps s { s with command := { s.command with restart := .replied } } :=
    Still.keeps ⟨rfl, rfl, rfl, rfl, rfl, rfl, .inl rfl, id, rfl, rfl, rfl, rfl⟩
      (SameQueues.orderly ⟨rfl, rfl, rfl, rfl⟩)
  exact hc.trans (replyWith_keeps true c _ _ hq)

theorem execRestoreTable_keeps (s : State) {t : State} (h : execRestoreTable s = .next t) :
    Keeps s t := by
  cases h
  refine command_keeps _ _ _ s fun n c hq hl => ?_
  split
  · exact replyWith_keeps false c _ _ hq
  · next id _ =>
    split
    · exact replyWith_keeps false c _ _ hq
    · split
      · have hb : Holds s (beginRestoring id s) :=
          (onStore_holds (f := fun st => { st with op := .restoring id, outcome := .none }) rfl
            (by simp)).trans (memOwner_holds _ _)
        exact answered_keeps c _ [] (hb.keeps_outside hl) hq
      · exact replyWith_keeps false c _ _ hq

theorem runtimeLock_keeps (i : TableId) (b : Bool) (s : State) : Keeps s (putRuntimeLock i b s) :=
  protection_keeps _ s

theorem execSetRuntimeLock_keeps (s : State) {t : State} (h : execSetRuntimeLock s = .next t) :
    Keeps s t := by
  cases h
  refine command_keeps _ _ _ s fun n c hq hl => ?_
  dsimp only
  split
  · exact replyWith_keeps false c _ _ hq
  · exact answered_keeps c _ _ (runtimeLock_keeps _ _ s) hq

theorem execClearRuntimeLock_keeps (s : State) {t : State} (h : execClearRuntimeLock s = .next t) :
    Keeps s t := by
  cases h
  refine command_keeps _ _ _ s fun n c hq hl => ?_
  dsimp only
  split
  · exact replyWith_keeps false c _ _ hq
  · split
    · exact replyWith_keeps false c _ _ hq
    · exact answered_keeps c _ _ (runtimeLock_keeps _ _ s) hq

theorem execWriteProtection_keeps (s : State) {t : State} (h : execWriteProtection s = .next t) :
    Keeps s t := by
  cases h
  refine command_keeps _ _ _ s fun r c hq hl => ?_
  split
  · exact replyWith_keeps false c _ _ hq
  · next p _ =>
    split
    · exact replyWith_keeps false c _ _ hq
    · split
      · exact replyWith_keeps false c _ _ hq
      · have hb : Holds s (beginProtection p s) := by
          refine onStore_holds ?_ (by simp)
          dsimp only
          unfold SettingsStore.setCopy
          split <;> rfl
        exact answered_keeps c _ [] (hb.keeps_outside hl) hq

theorem execFreezeProtection_keeps (s : State) {t : State} (h : execFreezeProtection s = .next t) :
    Keeps s t := by
  cases h
  exact command_keeps _ _ _ s fun () c hq _ => answered_keeps c _ [] (protection_keeps _ s) hq

theorem execClearCounters_keeps (s : State) {t : State} (h : execClearCounters s = .next t) :
    Keeps s t := by
  cases h
  exact command_keeps _ _ _ s fun () c hq _ => answered_keeps c _ [] (counters_keeps _ s) hq

theorem execClearFaults_keeps (s : State) {t : State} (h : execClearFaults s = .next t) :
    Keeps s t := by
  cases h
  have he : Keeps s (emptyFaults s) :=
    Still.keeps ⟨rfl, rfl, rfl, rfl, rfl, rfl, .inl rfl, id, rfl, rfl, rfl, rfl⟩
      (SameQueues.orderly ⟨rfl, rfl, rfl, rfl⟩)
  exact command_keeps _ _ _ s fun () c hq _ => answered_keeps c _ _ he hq

end Sys2Proof.Machine

namespace Sys2Proof.Machine
open Sys2Proof.Claims

/-! #### The commands and events that do more -/

theorem applyWrite_opState (w : EntryWrite) (s : State) : (applyWrite w s).opState = s.opState := by
  obtain ⟨_, _, _, ⟨_, _, _, _, ⟨_, _, _, _, _, _, _, _, _, _, _, rfl⟩, rfl⟩, h⟩ := applyWrite_writes w s
  rw [h]

theorem applyWrite_queue (w : EntryWrite) (s : State) : (applyWrite w s).command = s.command := by
  obtain ⟨_, _, _, ⟨_, _, _, _, ⟨_, _, _, _, _, _, _, _, _, _, _, rfl⟩, rfl⟩, h⟩ := applyWrite_writes w s
  rw [h]

theorem whilePowered_effect (f : State → State) (s : State) (h : Effect s (f s)) :
    Effect s (whilePowered f s) := by
  unfold whilePowered
  split
  · exact h
  · exact .keeps (.refl s)

/-- R149: a command of the host computer that is refused, or whose time has not come, does no more than most
events. -/
theorem command_effect {α : Type} (code : Nat) (parse : List Byte → Option α)
    (body : α → CommandFrame → State → State) (s : State)
    (hb : ∀ p c, s.command.queue ≠ [] → s.opState ≠ .loading → parse (commandParams c.bytes) = some p →
      Effect s (body p c s)) : Effect s (command code parse body s) := by
  obtain h | ⟨c, rest, hq, _, _, ⟨_, h⟩ | ⟨_, _, h⟩ | ⟨p, hl, hp, h⟩⟩ := command_cases code parse body s
  · rw [h]; exact .keeps (.refl s)
  · rw [h]; exact .keeps (replyWith_keeps false c _ _ (by simp [hq]))
  · rw [h]; exact .keeps (replyWith_keeps false c _ _ (by simp [hq]))
  · rw [h]; exact hb p c (by simp [hq]) hl hp

theorem execWriteEntry_effect (ties : Ties) (s : State) {t : State}
    (h : execWriteEntry ties s = .next t) : Effect s t := by
  cases h
  refine command_effect _ _ _ s fun w c hq hl hw => ?_
  let u : State := { s with memOwner := .command, ties := ties }
  have hu : Keeps s u :=
    ((memOwner_holds .command s).keeps_outside hl).trans (ties_keeps _ ties)
  have hend := withMemory_keeps_or (s.addressRefusal true) (withTies ties (writeEntry w c)) c hq hl
  have hrun : withTies ties (writeEntry w c) { s with memOwner := .command }
      = { writeEntry w c u with ties := [] } := rfl
  rw [hrun] at hend
  have hrefused : ∀ st, writeEntry w c u = reply c st [] u →
      Effect s (withMemory (s.addressRefusal true) (withTies ties (writeEntry w c)) c s) := by
    intro st he
    have hk : Keeps s { writeEntry w c u with ties := [] } := by
      rw [he]
      exact (hu.trans (replyWith_keeps false c _ _ hq)).trans (ties_keeps _ [])
    obtain h | h := hend (by rw [hk.opState]; exact hl)
    · exact .keeps h
    · exact .keeps (hk.trans h)
  by_cases hp : u.permitted w = true
  · cases hj : judge u w with
    | error st => exact hrefused st (by simp [writeEntry, hp, hj])
    | ok x =>
      obtain ⟨e, clamped⟩ := x
      have he : writeEntry w c u
          = reply c (if clamped then .adjusted else .done) e.content (applyWrite e u) := by
        simp [writeEntry, hp, hj]
      have hk : Keeps (applyWrite e u) { writeEntry w c u with ties := [] } := by
        rw [he]
        exact (replyWith_keeps false c _ _ (by rw [applyWrite_queue]; exact hq)).trans (ties_keeps _ [])
      obtain h | h := hend (by rw [hk.opState, applyWrite_opState]; exact hl)
      · exact .keeps h
      · exact .wrote _ w e clamped hl hu hw hj (hk.trans h)
  · exact hrefused .protected_ (by simp [writeEntry, hp])

theorem requestMode_keeps (t : Fin 2) (m : RequestedMode) (f : Nat) {s : State}
    (hl : s.opState ≠ .loading) : Keeps s (requestMode t m f s) :=
  (requestMode_talks (a := False) t m f s).holds.keeps_outside hl

theorem requestMode_queue (t : Fin 2) (m : RequestedMode) (f : Nat) (s : State) :
    (requestMode t m f s).command = s.command := by
  obtain ⟨_, _, _, _, _, _, _, _, _, _, _, h⟩ := requestMode_delivers t m f s
  rw [h]

theorem execSetTracker_effect (s : State) {t : State} (h : execSetTracker s = .next t) :
    Effect s t := by
  cases h
  refine command_effect _ _ _ s fun p c hq hl _ => ?_
  split
  · exact .keeps (withMemory_keeps _ _ c hq hl (.refl _))
  · next i _ =>
    let u : State := { s with memOwner := .command }
    have hu : Keeps s u := (memOwner_holds .command s).keeps_outside hl
    have hend := withMemory_keeps_or (s.addressRefusal true) (setTracker i p.2.1 p.2.2 c) c hq hl
    have hrefused : ∀ st, setTracker i p.2.1 p.2.2 c u = reply c st [] u →
        Effect s (withMemory (s.addressRefusal true) (setTracker i p.2.1 p.2.2 c) c s) := by
      intro st he
      refine .keeps (withMemory_keeps _ _ c hq hl ?_)
      change Keeps u (setTracker i p.2.1 p.2.2 c u)
      rw [he]
      exact replyWith_keeps false c _ _ hq
    by_cases hlock : u.locked .trackers = true
    · exact hrefused .protected_ (by simp [setTracker, hlock])
    cases hm : requestedModeOf? p.2.1 with
    | none => exact hrefused .badParam (by simp [setTracker, hlock, hm])
    | some m =>
      by_cases hf : p.2.2 < Config.frequencyMin ∨ Config.frequencyMax < p.2.2
      · exact hrefused .badParam (by simp [setTracker, hlock, hm, hf])
      · have he : setTracker i p.2.1 p.2.2 c u = reply c .done
            (putTrackerInUse (requestMode i m p.2.2 (writeRequest i m p.2.2 u)).trackers[i])
            (requestMode i m p.2.2 (writeRequest i m p.2.2 u)) := by
          simp [setTracker, hlock, hm, hf]
        have hk : Keeps (writeRequest i m p.2.2 u) (setTracker i p.2.1 p.2.2 c u) := by
          rw [he]
          exact (requestMode_keeps i m p.2.2 (by simpa [u] using hl)).trans
            (replyWith_keeps false c _ _ (by rw [requestMode_queue]; exact hq))
        obtain h | h := hend (by
          change (setTracker i p.2.1 p.2.2 c u).opState ≠ _
          rw [hk.opState]; exact hl)
        · exact .keeps h
        · rw [Config.frequencyMin, Config.frequencyMax] at hf
          exact .requested i m p.2.2 hl hu (by omega) (by omega) (hk.trans h)

theorem clearAllChecks_keeps_outside {s : State} (hl : s.opState ≠ .loading) : Keeps s (clearAllChecks s) :=
  (Talks.of_quiet ⟨_, _, _, _, _, _, _, _, _, rfl⟩ : Talks Within False s _).holds.keeps_outside hl

theorem execStartAnalysis_effect (s : State) {t : State} (h : execStartAnalysis s = .next t) :
    Effect s t := by
  cases h
  refine command_effect _ _ _ s fun _ c hq hl _ => ?_
  have hk : Keeps { s with memOwner := .command, opState := .analysing }
      (reply c .done [] (clearAllChecks { s with memOwner := .command, opState := .analysing })) :=
    (clearAllChecks_keeps_outside (by simp)).trans (replyWith_keeps false c _ _ hq)
  obtain h | h := withMemory_keeps_or s.startRefusal
    (fun s => reply c .done [] (clearAllChecks { s with opState := .analysing })) c hq hl
    (by rw [hk.opState]; simp)
  · exact .keeps h
  · exact .analysis .analysing hl (by simp) ((memOwner_holds .command s).keeps_outside hl) (hk.trans h)

theorem endAnalysis_keeps (s : State) : Keeps { s with opState := .configuring } (endAnalysis s) :=
  (foldl_talks (Q := Within) (a := False) _ endWindows (fun c _ s => (endWindows_within c s).talks)
    _).holds.keeps_outside (by simp)

theorem endAnalysis_queue (s : State) : (endAnalysis s).command = s.command :=
  foldl_keeps (P := fun t => t.command = s.command) _ endWindows (fun _ _ _ h => h) _ rfl

theorem execStopAnalysis_effect (s : State) {t : State} (h : execStopAnalysis s = .next t) :
    Effect s t := by
  cases h
  refine command_effect _ _ _ s fun _ c hq hl _ => ?_
  split
  · exact .analysis .configuring hl (by simp) (.refl s)
      ((endAnalysis_keeps s).trans (replyWith_keeps false c _ _ (by rw [endAnalysis_queue]; exact hq)))
  · exact .keeps (replyWith_keeps false c _ _ hq)

theorem execStoreTable_effect (s : State) {t : State} (h : execStoreTable s = .next t) :
    Effect s t := by
  cases h
  refine command_effect _ _ _ s fun n c hq hl _ => ?_
  split
  · exact .keeps (withMemory_keeps _ _ c hq hl (.refl _))
  · next id _ =>
    have hk : Keeps (beginStoring id { s with memOwner := .command })
        (reply c .inProgress [] (beginStoring id { s with memOwner := .command })) :=
      replyWith_keeps false c _ _ hq
    obtain h | h := withMemory_keeps_or (s.storeRefusal (some id))
      (fun s => reply c .inProgress [] (beginStoring id s)) c hq hl (by rw [hk.opState]; exact hl)
    · exact .keeps h
    · exact .storing id hl ((memOwner_holds .command s).keeps_outside hl) (hk.trans h)

theorem execStoreProgrammingComplete_effect (agrees : Bool) (s : State) {t : State}
    (h : execStoreProgrammingComplete agrees s = .next t) : Effect s t := by
  cases h
  refine whilePowered_effect _ s ?_
  split
  · next img hop =>
    unfold storeCompletes
    dsimp only
    split
    · exact .programmed img _ hop rfl rfl
    · refine .keeps (((onStore_holds rfl (by simp)).trans (reportFault_keeps _ _ _ _).toHolds).keeps
        fun hl hq => ?_)
      rw [hq.storeOp hl] at hop
      cases hop
  all_goals exact .keeps (.refl s)

theorem execRestoreCopyComplete_effect (ties : Ties) (s : State) {t : State}
    (h : execRestoreCopyComplete ties s = .next t) : Effect s t := by
  cases h
  refine whilePowered_effect _ s ?_
  split
  · next id hop _ => exact .restored id ties hop
  · exact .keeps (.refl s)

theorem execLoadTableCopied_effect (s : State) {t : State} (h : execLoadTableCopied s = .next t) :
    Effect s t := by
  cases h
  refine whilePowered_effect _ s ?_
  split
  · next id hl hi =>
    refine .copied id hl hi ?_
    unfold loadTable
    dsimp only
    split
    · exact .refl _
    · exact reportFault_keeps _ _ _ _
  · exact .keeps (.refl s)

theorem fixIfRequested_talks (i : Fin 2) (s : State) : Talks Within False s (fixIfRequested i s) := by
  unfold fixIfRequested
  split
  · exact .refl s
  · exact moved_talks i _ (by simp) s

theorem takeUpSettings_opState (s : State) : (takeUpSettings s).opState ≠ .loading := by
  change s.afterLoad ≠ _
  unfold State.afterLoad
  split <;> simp

theorem execLoadComplete_effect (ties : Ties) (s : State) {t : State}
    (h : execLoadComplete ties s = .next t) : Effect s t := by
  cases h
  refine whilePowered_effect _ s ?_
  split
  · next h =>
    obtain ⟨hl, hn⟩ := h
    exact .loaded ties hl hn (((inSomeOrder_talks _ fixIfRequested fixIfRequested_talks
      _).holds.keeps_outside (takeUpSettings_opState _)).trans (ties_keeps _ []))
  · exact .keeps (.refl s)

theorem execCommandRestart_effect (s : State) {t : State} (h : execCommandRestart s = .next t) :
    Effect s t := by
  cases h
  refine whilePowered_effect _ s ?_
  split
  · exact .restartedByCommand
  · exact .keeps (.refl s)

/-- What every event of the module and command of the host computer can do. -/
theorem exec_effect (i : Instr) (s : State) {t : State} (h : exec i s = .next t) : Effect s t := by
  cases i with
  | lineAFrameArrival f m => cases h; exact .keeps (execLineAFrameArrival_keeps f m s)
  | lineBFrameArrival f ts => cases h; exact .keeps (execLineBFrameArrival_keeps f ts s)
  | silenceTimeout src ts => cases h; exact .keeps (execSilenceTimeout_keeps src ts s)
  | usabilityTimeout i r ts => cases h; exact .keeps (execUsabilityTimeout_keeps i r ts s)
  | holdTimeout i ts => cases h; exact .keeps (execHoldTimeout_keeps i ts s)
  | evaluationComplete ts => cases h; exact .keeps (execEvaluationComplete_keeps ts s)
  | transmitComplete l => cases h; exact .keeps (execTransmitComplete_keeps l s)
  | unknownCommand => cases h; exact .keeps (execUnknownCommand_keeps s)
  | identify => cases h; exact .keeps (execIdentify_keeps s)
  | readStatus => cases h; exact .keeps (answer_keeps _ _ _ _ s)
  | readEntry => exact .keeps (execReadEntry_keeps s h)
  | writeEntry ts => exact execWriteEntry_effect ts s h
  | readChecks => exact .keeps (execReadChecks_keeps s h)
  | setTracker => exact execSetTracker_effect s h
  | startAnalysis => exact execStartAnalysis_effect s h
  | stopAnalysis => exact execStopAnalysis_effect s h
  | restart => exact .keeps (execRestart_keeps s h)
  | commandRestart => exact execCommandRestart_effect s h
  | powerOnRestart => cases h; exact .restartedByPower
  | loadTableCopied => exact execLoadTableCopied_effect s h
  | loadComplete ts => exact execLoadComplete_effect ts s h
  | armCapture => exact .keeps (execArmCapture_keeps s h)
  | triggerCapture => cases h; exact .keeps (triggerCommand_keeps s)
  | readCapture => exact .keeps (execReadCapture_keeps s h)
  | releaseCapture => exact .keeps (execReleaseCapture_keeps s h)
  | disarmCapture => exact .keeps (execDisarmCapture_keeps s h)
  | storeTable => exact execStoreTable_effect s h
  | storeProgrammingComplete b => exact execStoreProgrammingComplete_effect b s h
  | restoreTable => exact .keeps (execRestoreTable_keeps s h)
  | restoreCopyComplete ts => exact execRestoreCopyComplete_effect ts s h
  | queryProgress => cases h; exact .keeps (answer_keeps _ _ _ _ s)
  | setRuntimeLock => exact .keeps (execSetRuntimeLock_keeps s h)
  | clearRuntimeLock => exact .keeps (execClearRuntimeLock_keeps s h)
  | writeProtection => exact .keeps (execWriteProtection_keeps s h)
  | protectionProgrammingComplete b =>
    cases h; exact .keeps (execProtectionProgrammingComplete_keeps b s)
  | freezeProtection => exact .keeps (execFreezeProtection_keeps s h)
  | readCounters => cases h; exact .keeps (answer_keeps _ _ _ _ s)
  | clearCounters => exact .keeps (execClearCounters_keeps s h)
  | clearFaults => exact .keeps (execClearFaults_keeps s h)
  | maintenanceLineChange b => cases h; exact .keeps (execMaintenanceLineChange_keeps b s)
  | localTimeTick => cases h; exact .keeps (execLocalTimeTick_keeps s)
  | supplyRemoved => cases h; exact .keeps (execSupplyRemoved_keeps s)

/-- What a step can do: nothing, on an empty queue, or what the command at its front does. -/
theorem step_effect {s t : State} (h : step s = .next t) :
    t = s ∨ ∃ rest, Effect { s with pending := rest } t := by
  unfold step at h
  split at h
  · cases h; exact .inl rfl
  · next rest _ => exact .inr ⟨rest, exec_effect _ _ h⟩

end Sys2Proof.Machine

namespace Sys2Proof.Machine
open Sys2Proof.Claims

/-! ## O3: the order of the queues -/

theorem replaced_orderly {s : State} (ws : List EntryWrite) (h : Orderly s) :
    Orderly (ws.foldl (fun s w => applyRestored w s) s) :=
  foldl_keeps (P := Orderly) ws applyRestored (fun w _ _ h => applyRestored_orderly w h) s h

theorem LineOut.restarted_settled {o : LineOut} (h : o.sending = none → o.forward = [])
    (hn : o.restarted.sending = none) : o.restarted.forward = [] ∧ o.restarted.replies = [] := by
  refine ⟨h ?_, rfl⟩
  simpa [LineOut.restarted] using hn

/-- R4, R131: a command restart keeps the forward queues and what is being sent. -/
theorem restartByCommand_orderly {s : State} (h : Orderly s) : Orderly (restartByCommand s) := by
  obtain ⟨⟨hl, _, _⟩, hs⟩ := h
  refine ⟨⟨fun l => ?_, Nat.zero_le _, Nat.zero_le _⟩, fun l hn => ?_⟩
  · cases l
    · exact ⟨(hl .a).1, Nat.zero_le _⟩
    · exact ⟨(hl .b).1, Nat.zero_le _⟩
  · cases l
    · obtain ⟨hf, hr⟩ := LineOut.restarted_settled (fun h => (hs .a h).1) hn
      exact ⟨hf, hr, rfl⟩
    · obtain ⟨hf, hr⟩ := LineOut.restarted_settled (fun h => (hs .b h).1) hn
      exact ⟨hf, hr, rfl⟩

theorem restartByPower_orderly (s : State) : Orderly (restartByPower s) := by
  refine ⟨⟨fun l => ?_, Nat.zero_le _, Nat.zero_le _⟩, fun l _ => ?_⟩
  · cases l <;> exact ⟨Nat.zero_le _, Nat.zero_le _⟩
  · cases l <;> exact ⟨rfl, rfl, rfl⟩

theorem Effect.orderly {s t : State} (h : Effect s t) (hs : Orderly s) : Orderly t := by
  have hsame : ∀ {s t : State}, SameQueues s t → Orderly s → Orderly t := SameQueues.orderly
  cases h with
  | keeps h => exact h.orderly hs
  | wrote _ _ w _ _ hu _ _ ht => exact ht.orderly (applyWrite_orderly w (hu.orderly hs))
  | requested i m f _ hu _ _ ht => exact ht.orderly (hsame ⟨rfl, rfl, rfl, rfl⟩ (hu.orderly hs))
  | analysis o _ _ hu ht => exact ht.orderly (hsame ⟨rfl, rfl, rfl, rfl⟩ (hu.orderly hs))
  | storing id _ hu ht => exact ht.orderly (hsame ⟨rfl, rfl, rfl, rfl⟩ (hu.orderly hs))
  | programmed img f _ _ _ => exact hsame ⟨rfl, rfl, rfl, rfl⟩ hs
  | restored id ts _ =>
    refine hsame ⟨rfl, rfl, rfl, rfl⟩ ((commandRelease_holds _).orderly ?_)
    exact hsame ⟨rfl, rfl, rfl, rfl⟩ (replaced_orderly _ (hsame ⟨rfl, rfl, rfl, rfl⟩ hs))
  | copied id _ _ ht => exact ht.orderly (hsame ⟨rfl, rfl, rfl, rfl⟩ hs)
  | loaded ts _ _ ht => exact ht.orderly (hsame ⟨rfl, rfl, rfl, rfl⟩ hs)
  | restartedByPower => exact restartByPower_orderly s
  | restartedByCommand => exact restartByCommand_orderly hs

/-- Settles O3: every operation on a queue keeps the queues in order, and every step is made of such
operations. -/
theorem queuesStayBounded : Obligations.QueuesStayBounded := by
  intro s t hb hl h
  obtain rfl | ⟨rest, he⟩ := step_effect h
  · exact ⟨hb, hl⟩
  · exact he.orderly (SameQueues.orderly (s := s) ⟨rfl, rfl, rfl, rfl⟩ ⟨hb, hl⟩)

/-! ## O4: LOADING holds still -/

theorem loadingQuiet_outside {s : State} (h : s.opState ≠ .loading) : LoadingQuiet s :=
  fun hl => absurd hl h

theorem applyRestored_opState (w : EntryWrite) (s : State) :
    (applyRestored w s).opState = s.opState :=
  (applyRestored_talks (a := False) w s).apart.opState

/-- What the copy of a RESTORE keeps of the store and the operating state. -/
theorem restoreCompletes_opState (id : TableId) (s : State) :
    (restoreCompletes id s).opState = s.opState := by
  have hf : ∀ ws : List EntryWrite,
      (ws.foldl (fun s w => applyRestored w s) s).opState = s.opState := fun ws =>
    foldl_keeps (P := fun t => t.opState = s.opState) ws applyRestored
      (fun w _ _ h => (applyRestored_opState w _).trans h) s rfl
  exact (commandRelease_holds _).opState.trans (hf _)

theorem tableOf?_lt {n : Nat} {id : TableId} (h : tableOf? n = some id) : n < 8 := by
  by_contra hn
  have : tableOf? n = none := by
    unfold tableOf?
    split <;> first | rfl | omega
  rw [this] at h
  cases h

theorem restartBlocks_loadingQuiet (s : State) : LoadingQuiet (restartBlocks s) := fun _ =>
  ⟨Nat.zero_le _, rfl, rfl, rfl, rfl, rfl, fun i => by
    change (Vector.map offSource s.sources)[i].state = .off
    simp [offSource], rfl, fun c => by
    change (Vector.replicate 16 freshChannel)[c].ctx0 = .free ∧ (Vector.replicate 16 freshChannel)[c].ctx1 = .free
    simp [freshChannel]⟩

theorem Effect.loadingQuiet {s t : State} (h : Effect s t) (hs : LoadingQuiet s) : LoadingQuiet t := by
  cases h with
  | keeps h => exact h.quiet hs
  | wrote _ _ w _ hl hu _ _ ht =>
    exact ht.quiet (loadingQuiet_outside (by rw [applyWrite_opState, hu.opState]; exact hl))
  | requested i m f hl hu _ _ ht =>
    exact ht.quiet (loadingQuiet_outside (by rw [← hu.opState] at hl; exact hl))
  | analysis o _ ho _ ht => exact ht.quiet (loadingQuiet_outside ho)
  | storing id hl hu ht =>
    exact ht.quiet (loadingQuiet_outside (by rw [← hu.opState] at hl; exact hl))
  | programmed img f hop _ _ =>
    refine loadingQuiet_outside fun hl => ?_
    rw [hs.storeOp hl] at hop
    cases hop
  | restored id ts hop =>
    refine loadingQuiet_outside fun hl => ?_
    have hl : s.opState = .loading := (restoreCompletes_opState id { s with ties := ts }).symm.trans hl
    rw [hs.storeOp hl] at hop
    cases hop
  | copied id hl hi ht =>
    obtain ⟨_, hm, he, ho, hr, hc, hsrc, htr, hch⟩ := hs hl
    exact ht.quiet fun _ => ⟨tableOf?_lt hi, hm, he, ho, hr, hc, hsrc, htr, hch⟩
  | loaded ts _ _ ht => exact ht.quiet (loadingQuiet_outside (takeUpSettings_opState _))
  | restartedByPower => exact restartBlocks_loadingQuiet s
  | restartedByCommand => exact restartBlocks_loadingQuiet s

/-- Settles O4: of the events that can occur while LOADING is held still only the load and the restarts do
more than report, and the load leaves LOADING when it completes. -/
theorem loadingStaysQuiet : Obligations.LoadingStaysQuiet := by
  intro s t hs h
  obtain rfl | ⟨rest, he⟩ := step_effect h
  · exact hs
  · exact he.loadingQuiet hs

/-! ## O6: the records of the sources -/

theorem sourcesLegal_iff (s : State) : SourcesLegal s ↔ ∀ i : Fin 8,
    (s.opState ≠ .loading → (s.sources[i].state = .off ↔ s.tables.sources[i].enabled = false))
      ∧ s.sources[i].Sound :=
  forall_congr' fun _ => and_congr_right fun _ =>
    ⟨fun ⟨hsil, hpos, hval⟩ => ⟨hsil, hpos, hval⟩, fun h => ⟨h.silence, h.position, h.values⟩⟩

/-- Records that move as the monitor moves them stay legal for the same entries. -/
theorem SourcesLegal.of_moves {s t : State} (hs : SourcesLegal s)
    (hop : t.opState = .loading ∨ t.opState ≠ .loading ∧ s.opState ≠ .loading)
    (htb : t.tables.sources = s.tables.sources)
    (hm : ∀ i : Fin 8, RecordMoves s.sources[i] t.sources[i]) : SourcesLegal t := by
  rw [sourcesLegal_iff] at hs ⊢
  intro i
  obtain ⟨hoff, hsound⟩ := hs i
  obtain ⟨ho, hsd⟩ := hm i
  refine ⟨fun hl => ?_, hsd hsound⟩
  obtain h | ⟨_, h⟩ := hop
  · exact absurd h hl
  · rw [ho, hoff h, htb]

theorem Holds.sourcesLegal {s t : State} (h : Holds s t) (hs : SourcesLegal s) : SourcesLegal t := by
  refine hs.of_moves ?_ (by rw [h.tables]) h.sources
  rw [h.opState]
  by_cases hl : s.opState = .loading
  · exact .inl hl
  · exact .inr ⟨hl, hl⟩

theorem sourcesLegal_of_same {s t : State} (hs : SourcesLegal s)
    (hop : t.opState = .loading ∨ t.opState ≠ .loading ∧ s.opState ≠ .loading)
    (htb : t.tables.sources = s.tables.sources) (hsrc : t.sources = s.sources) : SourcesLegal t :=
  hs.of_moves hop htb fun i => by rw [hsrc]; exact .refl _

theorem awaitSource_sound (r : SourceRecord) : (awaitSource r).Sound :=
  ⟨by simp [awaitSource], by simp [awaitSource], fun j => by simp [awaitSource]⟩

theorem offSource_sound {r : SourceRecord} (h : r.Sound) : (offSource r).Sound :=
  ⟨by simp [offSource], by simp [offSource], h.values⟩

/-- R8, R31, R34: the record agrees with the entry just written, where it agreed with the old one. -/
theorem sourceChange_agrees (old new : SourceEntry) {r : SourceRecord} (hs : r.Sound) :
    (sourceChange old new r).Sound
      ∧ ((r.state = .off ↔ old.enabled = false) →
        ((sourceChange old new r).state = .off ↔ new.enabled = false)) := by
  unfold sourceChange
  split
  · next h =>
    simp only [Bool.and_eq_true, Bool.not_eq_true'] at h
    exact ⟨awaitSource_sound r, by simp [awaitSource, h]⟩
  · split
    · next h =>
      simp only [Bool.and_eq_true, Bool.not_eq_true'] at h
      exact ⟨offSource_sound hs, by simp [offSource, h]⟩
    · next h1 h2 =>
      have he : old.enabled = new.enabled := by
        cases ho : old.enabled <;> cases hn : new.enabled <;> simp_all
      split
      · next h =>
        simp only [Bool.and_eq_true] at h
        exact ⟨awaitSource_sound r, by simp [awaitSource, h]⟩
      · exact ⟨hs, by rw [he]; exact id⟩

theorem entryReplaced_sourcesLegal (w : EntryWrite) {s : State} (hs : SourcesLegal s) :
    SourcesLegal (entryReplaced w s) := by
  have hop : s.opState = .loading ∨ s.opState ≠ .loading ∧ s.opState ≠ .loading := by
    by_cases hl : s.opState = .loading
    · exact .inl hl
    · exact .inr ⟨hl, hl⟩
  cases w with
  | source i e =>
    rw [sourcesLegal_iff] at hs ⊢
    intro j
    obtain ⟨hoff, hsound⟩ := hs j
    change (s.opState ≠ .loading → ((updAt s.sources i (sourceChange s.tables.sources[i] e))[j].state = .off
      ↔ (putAt s.tables.sources i e)[j].enabled = false)) ∧ (updAt s.sources i _)[j].Sound
    rw [updAt_get, putAt_get]
    split
    · next hj =>
      subst hj
      obtain ⟨h1, h2⟩ := sourceChange_agrees s.tables.sources[j] e hsound
      exact ⟨fun hl => h2 (hoff hl), h1⟩
    · exact ⟨hoff, hsound⟩
  | general e => exact sourcesLegal_of_same hs hop rfl rfl
  | channel c e => exact sourcesLegal_of_same hs hop rfl rfl
  | group g e => exact sourcesLegal_of_same hs hop rfl rfl
  | tracker t e => exact sourcesLegal_of_same hs hop rfl rfl
  | plan c e => exact sourcesLegal_of_same hs hop rfl rfl
  | band i e => exact sourcesLegal_of_same hs hop rfl rfl
  | signature i e => exact sourcesLegal_of_same hs hop rfl rfl

/-- R9: the sources once the load is complete. -/
theorem takeUpSettings_sourcesLegal {s : State} (hs : SourcesLegal s)
    (hoff : ∀ i : Fin 8, s.sources[i].state = .off) : SourcesLegal (takeUpSettings s) := by
  rw [sourcesLegal_iff] at hs ⊢
  intro i
  have hsound := (hs i).2
  have hi : (takeUpSettings s).sources[i] = if (takeUpSettings s).tables.sources[i].enabled then
      awaitSource s.sources[i] else s.sources[i] := by simp [takeUpSettings]
  rw [hi]
  split
  · next he => exact ⟨fun _ => iff_of_false (by simp [awaitSource]) (by rw [he]; simp), awaitSource_sound _⟩
  · next he => exact ⟨fun _ => iff_of_true (hoff i) (by simpa using he), hsound⟩

theorem restartBlocks_sourcesLegal {s : State} (hs : SourcesLegal s) :
    SourcesLegal (restartBlocks s) := by
  rw [sourcesLegal_iff] at hs ⊢
  intro i
  have hi : (restartBlocks s).sources[i] = offSource s.sources[i] := by simp [restartBlocks]
  rw [hi]
  exact ⟨fun hl => absurd rfl hl, offSource_sound (hs i).2⟩

theorem Effect.sourcesLegal {s t : State} (h : Effect s t) (hq : LoadingQuiet s)
    (hs : SourcesLegal s) : SourcesLegal t := by
  cases h with
  | keeps h => exact h.sourcesLegal hs
  | wrote _ _ w _ _ hu _ _ ht =>
    exact ht.sourcesLegal ((applyWrite_talks (a := False) w _).holds.sourcesLegal
      (entryReplaced_sourcesLegal w (hu.sourcesLegal hs)))
  | requested i m f hl hu _ _ ht =>
    exact ht.sourcesLegal (sourcesLegal_of_same (hu.sourcesLegal hs)
      (.inr ⟨by rw [← hu.opState] at hl; exact hl, by rw [hu.opState]; exact hl⟩) rfl rfl)
  | analysis o hl ho hu ht =>
    exact ht.sourcesLegal (sourcesLegal_of_same (hu.sourcesLegal hs)
      (.inr ⟨ho, by rw [hu.opState]; exact hl⟩) rfl rfl)
  | storing id hl hu ht =>
    have hl' := hu.opState ▸ hl
    exact ht.sourcesLegal (sourcesLegal_of_same (hu.sourcesLegal hs) (.inr ⟨hl', hl'⟩) rfl rfl)
  | programmed img f _ _ _ =>
    refine sourcesLegal_of_same hs ?_ rfl rfl
    by_cases hl : s.opState = .loading
    · exact .inl hl
    · exact .inr ⟨hl, hl⟩
  | restored id ts _ =>
    have hw : ∀ ws : List EntryWrite,
        SourcesLegal (ws.foldl (fun s w => applyRestored w s) { s with ties := ts }) := fun ws =>
      foldl_keeps (P := SourcesLegal) ws applyRestored (fun w _ _ h =>
        (applyRestored_talks (a := False) w _).holds.sourcesLegal (entryReplaced_sourcesLegal w h)) _ hs
    exact (commandRelease_holds _).sourcesLegal (hw _)
  | copied id hl _ ht =>
    rw [sourcesLegal_iff] at hs
    refine ht.sourcesLegal ((sourcesLegal_iff _).mpr fun i => ⟨fun h => absurd hl h, (hs i).2⟩)
  | loaded ts hl _ ht =>
    exact ht.sourcesLegal (takeUpSettings_sourcesLegal hs (hq.source hl))
  | restartedByPower => exact restartBlocks_sourcesLegal hs
  | restartedByCommand => exact restartBlocks_sourcesLegal hs

/-- Settles O6: the monitor moves a record between AWAIT, RUNNING and LOST alone, and every write of a SOURCES
entry, the load and the restarts leave the record as the entry says. -/
theorem sourcesStayLegal : Obligations.SourcesStayLegal := by
  intro s t hq hs h
  obtain rfl | ⟨rest, he⟩ := step_effect h
  · exact hs
  · exact he.sourcesLegal hq hs

end Sys2Proof.Machine

namespace Sys2Proof.Machine
open Sys2Proof.Claims

/-! ## O22: received values -/

/-- The number of a 32-bit field and that of its 24-bit part differ by a multiple of 2^24. -/
theorem toInt_setWidth_24 (v : BitVec 32) :
    ∃ n : Int, v.toInt = (v.setWidth 24).toInt + 16777216 * n := by
  rw [BitVec.toInt_setWidth]
  exact ⟨(v.toInt - Int.bmod v.toNat (2 ^ 24)) / 16777216, by
    rw [BitVec.toInt_eq_toNat_bmod, Int.bmod_def, Int.bmod_def]; omega⟩

/-- R17: a field is the sign extension of its 24-bit part exactly where its number is a 24-bit count. -/
theorem signExtended_iff (v : BitVec 32) :
    v = (v.setWidth 24).signExtend 32 ↔ v.toInt = (v.setWidth 24).toInt := by
  rw [← BitVec.toInt_inj, BitVec.toInt_signExtend_of_le (by omega)]

/-- Settles O22: a field that is no sign extension differs from its 24-bit part by at least 2^24, and so lies
beyond the 24-bit counts on the side of its sign. -/
theorem receivedValuesAreClamped : Obligations.ReceivedValuesAreClamped := by
  intro v
  obtain ⟨n, hn⟩ := toInt_setWidth_24 v
  have hlo : -8388608 ≤ (v.setWidth 24).toInt := BitVec.le_toInt _
  have hhi : (v.setWidth 24).toInt < 8388608 := BitVec.toInt_lt
  unfold clampValue isClamped
  split
  · next h =>
    rw [signExtended_iff] at h
    simp only [Bool.or_eq_false_iff, decide_eq_false_iff_not]
    split
    · omega
    · split <;> omega
  · next h =>
    rw [signExtended_iff] at h
    rw [BitVec.msb_eq_toInt]
    simp only [Bool.or_eq_true, decide_eq_true_eq]
    by_cases hneg : v.toInt < 0
    · rw [if_pos (show v.toInt < -8388608 by omega), if_pos hneg]
      omega
    · rw [if_neg (show ¬ v.toInt < -8388608 by omega), if_pos (show 8388607 < v.toInt by omega),
        if_neg hneg]
      omega

end Sys2Proof.Machine

namespace Sys2Proof.Machine
open Sys2Proof.Claims

variable {Q : State → State → Prop} {a : Prop}

/-! ## Exact next states of reports, forwards and replies -/

/-! ### Settled lines without the bounds of the queues -/

theorem kick_linesSettled {l : Line} {s : State} (ho : ∀ m, m ≠ l → LineSettled m s) :
    LinesSettled (kick l s) := fun m => by
  by_cases hm : m = l
  · rw [hm]
    exact kick_settled l s
  · obtain ⟨_, e⟩ | ⟨_, e⟩ := kick_cases l s
    · rw [e]; exact ho m hm
    · rw [e]
      obtain ⟨h1, h2⟩ := choose_other hm s
      exact (ho m hm).congr h1 h2

/-- A new output side of line `l` leaves the other line settled. -/
theorem setOut_settled_other {l m : Line} (hm : m ≠ l) (o : LineOut) {s t : State}
    (ho : t.out m = s.out m) (hr : t.records = s.records) (hs : LineSettled m s) :
    LineSettled m (setOut l o t) :=
  hs.congr ((setOut_other t hm o).trans ho) (by cases l <;> cases m <;> first | rfl | exact hr)

theorem SameQueues.linesSettled {s t : State} (h : SameQueues s t) (hs : LinesSettled s) :
    LinesSettled t := fun l => h.lineSettled (hs l)

theorem offer_linesSettled (q : List OutRecord) {s : State} (hs : LinesSettled s) :
    LinesSettled (kick .b { s with records := q }) :=
  kick_linesSettled fun m hm => by
    cases m with
    | a => exact (hs .a).congr rfl rfl
    | b => exact absurd rfl hm

theorem replyWith_linesSettled (restart : Bool) (c : CommandFrame) (st : Status) (res : List Byte)
    {s : State} (hs : LinesSettled s) : LinesSettled (replyWith restart c st res s) :=
  kick_linesSettled fun m hm =>
    setOut_settled_other hm _ (by cases m <;> rfl) rfl (hs m)

theorem Talks.linesSettled (hQ : ∀ s t, Q s t → SameQueues s t) {s t : State} (h : Talks Q a s t)
    (hs : LinesSettled s) : LinesSettled t := by
  induction h with
  | refl => exact hs
  | quietly _ hw ih => exact (hQ _ _ hw).linesSettled ih
  | offered r _ ih => exact offer_linesSettled _ ih
  | @dropCounted t d _ ih =>
    exact SameQueues.linesSettled (by cases d <;> exact ⟨rfl, rfl, rfl, rfl⟩) ih
  | noted k _ _ ih => exact SameQueues.linesSettled (s := _) ⟨rfl, rfl, rfl, rfl⟩ ih
  | filled k n d _ _ _ ih => exact SameQueues.linesSettled (s := _) ⟨rfl, rfl, rfl, rfl⟩ ih
  | answered c st res _ _ _ ih => exact replyWith_linesSettled false c st res ih

theorem reportFault_linesSettled (k : FaultKind) (n : Nat) (d : FaultDetail) {s : State}
    (hs : LinesSettled s) : LinesSettled (reportFault k n d s) := by
  have hn : ∀ k (s : State), SameQueues s (noteFault k s) := fun _ _ => ⟨rfl, rfl, rfl, rfl⟩
  unfold reportFault
  split
  · exact (hn _ s).linesSettled hs
  · exact (offerWhileHeld_talks (Q := SameQueues) (a := False) _ _).linesSettled (fun _ _ h => h)
      (SameQueues.linesSettled (s := s) ⟨rfl, rfl, rfl, rfl⟩ hs)

theorem offerForward_linesSettled (l : Line) (f : Frame) {s : State} (hs : LinesSettled s) :
    LinesSettled (offerForward l f s) := by
  obtain ⟨_, e⟩ | ⟨_, e⟩ := offerForward_cases l f s
  · rw [e]
    exact kick_linesSettled fun m hm => setOut_settled_other hm _ rfl rfl (hs m)
  · rw [e]
    exact reportFault_linesSettled _ _ _
      (SameQueues.linesSettled (by cases l <;> exact ⟨rfl, rfl, rfl, rfl⟩) hs)

/-! ### Records and faults (R123, R124, R126, R180, R181) -/

theorem enqueue_room {q : List OutRecord} (h : q.length < 16) (r : OutRecord) :
    enqueue q r = (none, q ++ [r]) := by simp [enqueue, Config.recordDepth, h]

/-- R124: a full record queue drops something for an alarm. -/
theorem enqueue_full {q : List OutRecord} (h : 16 ≤ q.length) (x : AlarmRecord) :
    ∃ d q', enqueue q (.alarm x) = (some d, q') := by
  unfold enqueue
  rw [if_neg (by simp [Config.recordDepth]; omega)]
  dsimp only
  split <;> exact ⟨_, _, rfl⟩

/-- R123, R128: a record that finds room is at the tail, or goes at once on an IDLE line B. -/
theorem offer_room {s : State} (hs : LineSettled .b s) (r : OutRecord) :
    kick .b { s with records := s.records ++ [r] } = joined [r] s := by
  unfold kick joined
  cases hb : s.lineB.sending with
  | some x => simp [State.out, hb]
  | none =>
    obtain ⟨hf, hr, hq⟩ := hs hb
    simp only [State.out, State.recordsFor] at hf hr hq
    simp [State.out, hb, choose, State.insertedWaits, State.recordsFor, sendInserted, hf, hr, hq,
      setOut, sentRecord]

theorem offerWhileHeld_room {s : State} (hs : LineSettled .b s) (hn : s.records.length < 16)
    (r : OutRecord) : offerWhileHeld r s = joined [r] s := by
  unfold offerWhileHeld
  rw [enqueue_room hn, ← offer_room hs]

theorem offerRecord_room {s : State} (hs : LineSettled .b s) (hn : s.records.length < 16)
    (r : OutRecord) : offerRecord r s = joined [r] s := by
  unfold offerRecord
  rw [enqueue_room hn, ← offer_room hs]

theorem noteFault_eq (k : FaultKind) (s : State) : noteFault k s = faultNoted k s := rfl

theorem countDrop_eq (d : OutRecord) (s : State) : countDrop d s = recordDropCounted d s := by
  cases d <;> rfl

/-- A record queue that is full does not wait for an IDLE line B. -/
theorem sending_of_full {s : State} (hs : LineSettled .b s) (hn : 16 ≤ s.records.length) :
    s.lineB.sending.isSome = true := by
  cases hb : s.lineB.sending with
  | some _ => rfl
  | none =>
    obtain ⟨_, _, hq⟩ := hs hb
    change s.records = [] at hq
    rw [hq] at hn
    simp at hn

/-- R126, R180, R181: what a report comes to. -/
theorem reportFault_eq {s : State} (h : TakesFaults s) (k : FaultKind) (n : Nat) (d : FaultDetail) :
    reportFault k n d s = faultTaken k n d s := by
  unfold faultTaken
  cases hr : s.fault.record with
  | some r => rw [reportFault_held hr, noteFault_eq]; rfl
  | none =>
    have hs : LineSettled .b s := by
      obtain h | h := h
      · rw [hr] at h; cases h
      · exact h
    have hf : LineSettled .b (fillFault k n d s) := hs.congr rfl rfl
    rw [reportFault_empty hr, if_neg (by simp)]
    split
    · next hn =>
      refine (offerWhileHeld_room hf hn _).trans ?_
      unfold faultFilled joined
      cases hb : s.lineB.sending with
      | some _ => rw [if_pos (by rw [show (fillFault k n d s).lineB = s.lineB from rfl, hb]; rfl)]; rfl
      | none => rw [if_neg (by rw [show (fillFault k n d s).lineB = s.lineB from rfl, hb]; simp)]; rfl
    · next hn =>
      obtain ⟨x, q, he⟩ := enqueue_full (q := s.records) (by omega) (s.alarm (.faultCaptured k n))
      have he' : enqueue s.records (.alarm (builtNow (.faultCaptured k n) s)) = (some x, q) := he
      have hb := sending_of_full hs (by omega)
      have hk : kick .b { fillFault k n d s with records := q } = { fillFault k n d s with records := q } := by
        obtain ⟨_, e⟩ | ⟨hn', _⟩ := kick_cases .b { fillFault k n d s with records := q }
        · exact e
        · rw [Option.eq_none_iff_forall_ne_some] at hn'
          obtain ⟨y, hy⟩ := Option.isSome_iff_exists.mp hb
          exact absurd hy (hn' y)
      rw [he']
      unfold offerWhileHeld
      change (match (enqueue s.records _).1 with | none => _ | some d => _) = _
      rw [he]
      dsimp only
      rw [show (fillFault k n d s).records = s.records from rfl, he, hk, countDrop_eq, noteFault_eq]
      rfl

theorem faultTaken_ties (k : FaultKind) (n : Nat) (d : FaultDetail) (s : State) (ts : Ties) :
    { faultTaken k n d s with ties := ts } = faultTaken k n d { s with ties := ts } := by
  unfold faultTaken
  dsimp only
  split
  · rfl
  · split
    · unfold faultFilled joined
      dsimp only
      split <;> rfl
    · change State.mk .. = match enqueue s.records (.alarm (builtNow (.faultCaptured k n) s)) with
        | (some d', q) => _
        | (none, _) => _
      cases he : enqueue s.records (.alarm (builtNow (.faultCaptured k n) s)) with
      | mk x q => cases x with
        | none => rfl
        | some x => cases x <;> rfl

end Sys2Proof.Machine

namespace Sys2Proof.Machine
open Sys2Proof.Claims

/-! ## Frames passed on and frames for the command unit (R1, R2, R3, R146, R147) -/

/-! ### A frame offered to the other line -/


/-- R3, R128: a frame joins a forward queue with room, or goes at once on an IDLE line. -/
theorem kick_joined_forward {l : Line} {s : State} (hs : LineSettled l s) (f : Frame) :
    kick l (setOut l { s.out l with forward := (s.out l).forward ++ [f] } s)
      = setOut l (forwarded f (s.out l)) s := by
  cases hb : (s.out l).sending with
  | some x => cases l <;> simp_all [kick, forwarded, State.out, setOut]
  | none =>
    obtain ⟨hf, hr, hq⟩ := hs hb
    cases l <;>
      simp_all [kick, forwarded, State.out, setOut, choose, State.insertedWaits, State.recordsFor, sendForward]

theorem countForwardDrop_other (l : Line) (s : State) :
    countForwardDrop (otherLine l) s = { s with counters := forwardDropCounted l s.counters } := by
  cases l <;> rfl

theorem forwardDirection_other (l : Line) :
    FaultDetail.number (forwardDirection (otherLine l)) = lineDetail l := by
  cases l <;> rfl

theorem offerForward_eq {l : Line} {s : State} (hl : LineSettled (otherLine l) s)
    (hf : TakesFaults s) (f : Frame) :
    { offerForward (otherLine l) f s with ties := [] } = passedOn l f s := by
  unfold passedOn
  obtain ⟨hn, e⟩ | ⟨hn, e⟩ := offerForward_cases (otherLine l) f s
  · rw [e, if_pos hn, kick_joined_forward hl]
    cases l <;> rfl
  · have hc : TakesFaults { s with counters := forwardDropCounted l s.counters } := hf
    rw [e, if_neg (by omega), countForwardDrop_other, forwardDirection_other, reportFault_eq hc,
      faultTaken_ties]

theorem passedOn_ties (l : Line) (f : Frame) (s : State) (ts : Ties) :
    passedOn l f { s with ties := ts } = passedOn l f s := by
  cases l <;> rfl

/-! ### What is done beside a frame's way to the other line -/

/-- Counters and command unit changed, and nothing else. -/
def aside (k : Counters → Counters) (q : CommandUnit → CommandUnit) (s : State) : State :=
  { s with counters := k s.counters, command := q s.command }

/-- Whether a change of the counters leaves alone those of frames and records dropped. -/
def SparesDrops (k : Counters → Counters) : Prop :=
  ∀ (c : Counters) (v a ab ba : Nat),
    k { c with verdictDrops := v, alarmDrops := a, forwardDropsAB := ab, forwardDropsBA := ba }
      = { k c with verdictDrops := v, alarmDrops := a, forwardDropsAB := ab, forwardDropsBA := ba }

theorem SparesDrops.verdicts {k : Counters → Counters} (h : SparesDrops k) (c : Counters) :
    (k c).verdictDrops = c.verdictDrops :=
  (congrArg Counters.verdictDrops
    (h c c.verdictDrops c.alarmDrops c.forwardDropsAB c.forwardDropsBA) :)

theorem SparesDrops.alarms {k : Counters → Counters} (h : SparesDrops k) (c : Counters) :
    (k c).alarmDrops = c.alarmDrops :=
  (congrArg Counters.alarmDrops
    (h c c.verdictDrops c.alarmDrops c.forwardDropsAB c.forwardDropsBA) :)

theorem SparesDrops.forwardsAB {k : Counters → Counters} (h : SparesDrops k) (c : Counters) :
    (k c).forwardDropsAB = c.forwardDropsAB :=
  (congrArg Counters.forwardDropsAB
    (h c c.verdictDrops c.alarmDrops c.forwardDropsAB c.forwardDropsBA) :)

theorem SparesDrops.forwardsBA {k : Counters → Counters} (h : SparesDrops k) (c : Counters) :
    (k c).forwardDropsBA = c.forwardDropsBA :=
  (congrArg Counters.forwardDropsBA
    (h c c.verdictDrops c.alarmDrops c.forwardDropsAB c.forwardDropsBA) :)

section
variable {k : Counters → Counters} {q : CommandUnit → CommandUnit} (hk : SparesDrops k)
include hk

theorem recordDropCounted_aside (d : OutRecord) (s : State) :
    recordDropCounted d (aside k q s) = aside k q (recordDropCounted d s) := by
  cases d with
  | verdict v =>
    have := hk s.counters (raised s.counters.verdictDrops 1) s.counters.alarmDrops
      s.counters.forwardDropsAB s.counters.forwardDropsBA
    simp only [recordDropCounted, aside, hk.verdicts, hk.alarms, hk.forwardsAB, hk.forwardsBA] at this ⊢
    rw [this]
  | alarm v =>
    have := hk s.counters s.counters.verdictDrops (raised s.counters.alarmDrops 1)
      s.counters.forwardDropsAB s.counters.forwardDropsBA
    simp only [recordDropCounted, aside, hk.verdicts, hk.alarms, hk.forwardsAB, hk.forwardsBA] at this ⊢
    rw [this]

theorem faultTaken_aside (i : FaultKind) (n : Nat) (d : FaultDetail) (s : State) :
    faultTaken i n d (aside k q s) = aside k q (faultTaken i n d s) := by
  unfold faultTaken
  by_cases hr : s.fault.record.isSome = true
  · rw [if_pos (show (aside k q s).fault.record.isSome = true from hr), if_pos hr]
    rfl
  · rw [if_neg (show ¬ (aside k q s).fault.record.isSome = true from hr), if_neg hr]
    by_cases hn : s.records.length < 16
    · rw [if_pos (show (aside k q s).records.length < 16 from hn), if_pos hn]
      unfold faultFilled joined
      by_cases hb : s.lineB.sending.isSome = true
      · rw [if_pos (show (aside k q s).lineB.sending.isSome = true from hb), if_pos hb]
        rfl
      · rw [if_neg (show ¬ (aside k q s).lineB.sending.isSome = true from hb), if_neg hb]
        rfl
    · rw [if_neg (show ¬ (aside k q s).records.length < 16 from hn), if_neg hn]
      obtain ⟨x, r, he⟩ := enqueue_full (q := s.records) (by omega) (builtNow (.faultCaptured i n) s)
      have he' : enqueue (aside k q s).records
          (.alarm (builtNow (.faultCaptured i n) (aside k q s))) = (some x, r) := he
      rw [he, he']
      exact congrArg (faultNoted .recordDropped) (recordDropCounted_aside (q := q) hk x { s with
        records := r
        fault := { s.fault with
          record := some { kind := i, subject := n, detail := d, time := s.localTime }
          summary := s.fault.summary.set i.index.val true } })

theorem passedOn_aside (l : Line) (f : Frame) (s : State) :
    passedOn l f (aside k q s) = aside k q (passedOn l f s) := by
  unfold passedOn
  have ho : (aside k q s).out (otherLine l) = s.out (otherLine l) := by cases l <;> rfl
  rw [ho]
  split
  · cases l <;> rfl
  · rw [← faultTaken_aside hk]
    congr 1
    cases l with
    | a => 
      have := hk s.counters s.counters.verdictDrops s.counters.alarmDrops
        (raised s.counters.forwardDropsAB 1) s.counters.forwardDropsBA
      simp only [forwardDropCounted, aside, hk.verdicts, hk.alarms, hk.forwardsAB, hk.forwardsBA] at this ⊢
      rw [this]
    | b => 
      have := hk s.counters s.counters.verdictDrops s.counters.alarmDrops
        s.counters.forwardDropsAB (raised s.counters.forwardDropsBA 1) 
      simp only [forwardDropCounted, aside, hk.verdicts, hk.alarms, hk.forwardsAB, hk.forwardsBA] at this ⊢
      rw [this]

end

theorem placesTaken_faultTaken (i : FaultKind) (n : Nat) (d : FaultDetail) (s : State) :
    placesTaken (faultTaken i n d s) = placesTaken s := by
  unfold faultTaken
  split
  · rfl
  · split
    · unfold faultFilled joined
      dsimp only
      split <;> rfl
    · split
      · next x _ _ => cases x <;> rfl
      · rfl

theorem placesTaken_passedOn (l : Line) (f : Frame) (s : State) :
    placesTaken (passedOn l f s) = placesTaken s := by
  have hf : ∀ o : LineOut, (forwarded f o).replies = o.replies := fun o => by
    unfold forwarded
    split <;> rfl
  unfold passedOn
  split
  · cases l <;> simp [placesTaken, otherLine, withOut, State.out, hf]
  · rw [placesTaken_faultTaken]
    rfl

theorem offerForward_apart (l : Line) (f : Frame) (s : State) : Apart s (offerForward l f s) := by
  obtain ⟨_, e⟩ | ⟨_, e⟩ := offerForward_cases l f s
  · rw [e]
    exact (setOut_apart l _ s.records s.command s).trans (kick_apart l _)
  · have hc : Apart s (countForwardDrop l s) := by
      cases l <;> exact ⟨rfl, rfl, rfl, rfl, rfl, rfl, rfl, rfl, rfl, rfl, rfl, rfl, rfl⟩
    rw [e]
    exact hc.trans (reportFault_reports _ _ _ _).apart

/-- R1, log 5: in either order the frame is passed on and the counters and the command unit change. -/
theorem either_forward_aside {k : Counters → Counters} {q : CommandUnit → CommandUnit}
    (hk : SparesDrops k) {l : Line} {s : State} (ho : LineSettled (otherLine l) s) (hb : LineSettled .b s)
    (f : Frame) {g : State → State}
    (hg : ∀ u, Apart s u → placesTaken u = placesTaken s → g u = aside k q u) :
    { either (offerForward (otherLine l) f) g s with ties := [] } = passedOn l f (aside k q s) := by
  obtain ⟨ts, e | e⟩ := either_cases (offerForward (otherLine l) f) g s <;> rw [e]
  · have h := offerForward_eq (s := { s with ties := ts }) ho (.inr hb) f
    rw [passedOn_ties] at h
    have hp : placesTaken (offerForward (otherLine l) f { s with ties := ts }) = placesTaken s :=
      (congrArg placesTaken h).trans (placesTaken_passedOn l f s)
    have ha : Apart s (offerForward (otherLine l) f { s with ties := ts }) :=
      (ties_within s ts).apart.trans (offerForward_apart _ f _)
    rw [hg _ ha hp, passedOn_aside hk, ← h]
    rfl
  · have hl : ∀ m, LineSettled m s → LineSettled m (aside k q { s with ties := ts }) := fun m hm =>
      hm.congr (by cases m <;> rfl) (by cases m <;> rfl)
    have hp : placesTaken { s with ties := ts } = placesTaken s := rfl
    rw [hg _ (ties_within s ts).apart hp, offerForward_eq (hl _ ho) (.inr (hl .b hb))]
    exact passedOn_ties l f (aside k q s) ts

/-! ### The command unit is given a frame (R146, R147) -/

theorem giveCommand_short {l : Line} {f : Frame} (h : (message f.payload).length < 7) (s : State) :
    giveCommand l f s = malformedCounted s := by
  unfold giveCommand
  rw [if_pos h]
  rfl

theorem giveCommand_room {l : Line} {f : Frame} (h : 7 ≤ (message f.payload).length) {s : State}
    (hn : placesTaken s < 4) :
    giveCommand l f s = commandQueued { line := l, src := f.src, bytes := message f.payload } s := by
  unfold giveCommand
  rw [if_neg (by omega)]
  exact if_pos hn

theorem giveCommand_full {l : Line} {f : Frame} (h : 7 ≤ (message f.payload).length) {s : State}
    (hn : 4 ≤ placesTaken s) :
    giveCommand l f s = reportFault .commandDropped 255 (lineDetail l) (commandDropCounted s) := by
  have hd : FaultDetail.number (match l with | .a => 0 | .b => 1) = lineDetail l := by cases l <;> rfl
  rw [← hd]
  unfold giveCommand
  rw [if_neg (by omega)]
  exact if_neg (Nat.not_lt.mpr hn)

end Sys2Proof.Machine

namespace Sys2Proof.Machine
open Sys2Proof.Claims

/-! ### The class of a frame, and its way (R1, R2) -/

/-- R1, R2: the actions on a frame that arrives on a line. -/
def sortLine (l : Line) (meeting : Meeting) (f : Frame) (s : State) : State :=
  match l with
  | .a => sortLineA meeting.expiry (takeTriggers meeting.triggers) f s
  | .b => sortLineB f s

theorem exec_arrival {l : Line} {f : Frame} (ties : Meeting) {s : State} (hp : s.powered = true)
    (hf : f.fcsAgrees = true) :
    exec (arrival l f ties) s = .next { sortLine l ties f { s with ties := ties.order } with ties := [] } := by
  cases l
  · exact congrArg Host.Outcome.next ((if_pos hp).trans (if_pos hf))
  · exact congrArg Host.Outcome.next ((if_pos hp).trans (if_pos hf))

theorem exec_arrival_discarded {l : Line} {f : Frame} (ties : Meeting) {s : State}
    (hp : s.powered = true) (hf : f.fcsAgrees = false) : exec (arrival l f ties) s = .next s := by
  have hf' : ¬ f.fcsAgrees = true := by rw [hf]; simp
  cases l
  · exact congrArg Host.Outcome.next ((if_pos hp).trans (if_neg hf'))
  · exact congrArg Host.Outcome.next ((if_pos hp).trans (if_neg hf'))

theorem frameKind_eq_iff (p : List Byte) (b : Byte) :
    frameKind p = some b.toNat ↔ p.head? = some b := by
  unfold frameKind
  cases p.head? with
  | none => simp
  | some x => simp [BitVec.toNat_inj]

theorem frameKind_samples (p : List Byte) :
    frameKind p = some kindSamples ↔ p.head? = some 0x01#8 := frameKind_eq_iff p 0x01#8

theorem frameKind_command (p : List Byte) :
    frameKind p = some kindCommand ↔ p.head? = some 0x02#8 := frameKind_eq_iff p 0x02#8

section
variable {s : State} {f : Frame}

theorem classify_foreignType (h : f.ftype ≠ s.streamType) : s.classify f = .other := if_neg h

theorem classify_otherKind (h1 : f.payload.head? ≠ some 0x01#8) (h2 : f.payload.head? ≠ some 0x02#8) :
    s.classify f = .other := by
  unfold State.classify
  rw [if_neg (mt (frameKind_samples _).mp h1), if_neg (mt (frameKind_command _).mp h2), ite_self]

theorem classify_sample (ht : f.ftype = s.streamType) (h : f.payload.head? = some 0x01#8) :
    s.classify f = .sample := by
  unfold State.classify
  rw [if_pos ht, if_pos ((frameKind_samples _).mpr h)]

/-- R1: a frame of kind COMMAND goes by its target station. -/
theorem classify_commandKind (ht : f.ftype = s.streamType) (h : f.payload.head? = some 0x02#8) :
    s.classify f = match commandTarget (message f.payload) with
      | none => .other
      | some t => if t = s.station then .command else if t = 65535 then .broadcast else .other := by
  have hk : ¬ frameKind f.payload = some kindSamples := fun e => by
    rw [(frameKind_samples _).mp e] at h
    cases h
  unfold State.classify
  rw [if_pos ht, if_neg hk, if_pos ((frameKind_command _).mpr h)]
  rfl

theorem classify_command (ht : f.ftype = s.streamType) (h : f.payload.head? = some 0x02#8)
    (hs : commandTarget (message f.payload) = some s.station) : s.classify f = .command := by
  rw [classify_commandKind ht h, hs]
  exact if_pos rfl

theorem classify_broadcast (ht : f.ftype = s.streamType) (h : f.payload.head? = some 0x02#8)
    (hb : commandTarget (message f.payload) = some 65535) (hs : s.station ≠ 65535) :
    s.classify f = .broadcast := by
  rw [classify_commandKind ht h, hb]
  exact (if_neg hs.symm).trans (if_pos rfl)

theorem classify_otherStation (ht : f.ftype = s.streamType) (h : f.payload.head? = some 0x02#8)
    (hs : commandTarget (message f.payload) ≠ some s.station)
    (hb : commandTarget (message f.payload) ≠ some 65535) : s.classify f = .other := by
  rw [classify_commandKind ht h]
  cases ht : commandTarget (message f.payload) with
  | none => rfl
  | some t =>
    rw [ht] at hs hb
    exact (if_neg fun e => hs (congrArg some e)).trans (if_neg fun e => hb (congrArg some e))

end

section
variable {l : Line} {m : Meeting} {f : Frame} {s : State}

theorem sortLine_command (h : s.classify f = .command) : sortLine l m f s = giveCommand l f s := by
  cases l
  · simp only [sortLine, sortLineA, h]
  · simp only [sortLine, sortLineB, h]

theorem sortLine_broadcast (h : s.classify f = .broadcast) :
    sortLine l m f s = either (offerForward (otherLine l) f) (giveBroadcast l f) s := by
  cases l
  · simp only [sortLine, sortLineA, h, otherLine]
  · simp only [sortLine, sortLineB, h, otherLine]

theorem sortLine_other (h : s.classify f = .other) :
    sortLine l m f s = offerForward (otherLine l) f s := by
  cases l
  · simp only [sortLine, sortLineA, h, otherLine]
  · simp only [sortLine, sortLineB, h, otherLine]

theorem sortLine_sample_b (h : s.classify f = .sample) :
    sortLine .b m f s = offerForward .a f s := by
  simp only [sortLine, sortLineB, h]

theorem sortLine_sample_a (h : s.classify f = .sample) :
    sortLine .a m f s = either (offerForward .b f)
      (monitorFrame m.expiry (takeTriggers m.triggers) (message f.payload)) s := by
  simp only [sortLine, sortLineA, h]

end

/-- Settles O30: the frame is of class command, and `giveCommand` counts it, gives it a place, or drops it. -/
theorem commandsTakeAPlace : Obligations.CommandsTakeAPlace := by
  intro l f ties s hp hf ht hk hs
  have hc : ({ s with ties := ties.order } : State).classify f = .command :=
    classify_command (s := { s with ties := ties.order }) ht hk hs
  rw [exec_arrival ties hp hf, sortLine_command hc]
  refine ⟨fun hm => ?_, fun hm hn => ?_, fun hm hn hT => ?_⟩
  · rw [giveCommand_short hm]
    rfl
  · rw [giveCommand_room (s := { s with ties := ties.order }) hm hn]
    rfl
  · have hT' : TakesFaults (commandDropCounted { s with ties := ties.order }) := hT
    rw [giveCommand_full (s := { s with ties := ties.order }) hm hn, reportFault_eq hT', faultTaken_ties,
      faultTaken_ties]
    rfl

/-! ### Broadcast commands (R146, log 5) -/

section
variable {l : Line} {f : Frame} {s : State}

theorem giveBroadcast_ignored (h : 7 ≤ (message f.payload).length)
    (hc : commandCode (message f.payload) ≠ some 0x01) : giveBroadcast l f s = s := by
  unfold giveBroadcast
  rw [if_neg fun e => e.elim (by omega) hc]

theorem giveBroadcast_taken
    (h : (message f.payload).length < 7 ∨ commandCode (message f.payload) = some 0x01) :
    giveBroadcast l f s = giveCommand l f s := by
  unfold giveBroadcast
  rw [if_pos h]

end

/-- R147, R180: a command dropped, counted and reported. -/
def commandDropped (l : Line) (s : State) : State :=
  faultTaken .commandDropped 255 (lineDetail l) (commandDropCounted s)

theorem commandDropped_ties (l : Line) (s : State) (ts : Ties) :
    commandDropped l { s with ties := ts } = { commandDropped l s with ties := ts } :=
  (faultTaken_ties _ _ _ (commandDropCounted s) ts).symm

theorem sparesDrops_commandDrops (n : Nat → Nat) :
    SparesDrops fun c => { c with commandDrops := n c.commandDrops } := fun _ _ _ _ _ => rfl

theorem sparesDrops_malformed (n : Nat → Nat) :
    SparesDrops fun c => { c with malformedCommands := n c.malformedCommands } := fun _ _ _ _ _ => rfl

theorem sparesDrops_id : SparesDrops fun c => c := fun _ _ _ _ _ => rfl

/-- Two faults noted while the record is held are noted in either order. -/
theorem faultNoted_comm {i j : FaultKind} (h : i.index ≠ j.index) (s : State) :
    faultNoted i (faultNoted j s) = faultNoted j (faultNoted i s) := by
  unfold faultNoted
  have hv : i.index.val ≠ j.index.val := fun e => h (Fin.ext e)
  simp [Vector.set_comm _ _ hv]

theorem faultTaken_held {s : State} (h : s.fault.record.isSome = true) (k : FaultKind) (n : Nat)
    (d : FaultDetail) : faultTaken k n d s = faultNoted k s := if_pos h

/-- R3: a frame dropped at a full forward queue is counted. -/
def forwardDropped (l : Line) (s : State) : State :=
  { s with ties := [], counters := forwardDropCounted l s.counters }

theorem passedOn_room {l : Line} {s : State} (h : (s.out (otherLine l)).forward.length < 32)
    (f : Frame) : passedOn l f s = withOut (otherLine l) (forwarded f (s.out (otherLine l))) s :=
  if_pos h

theorem passedOn_full {l : Line} {s : State} (h : ¬ (s.out (otherLine l)).forward.length < 32)
    (f : Frame) :
    passedOn l f s = faultTaken .forwardDropped 255 (lineDetail l) (forwardDropped l s) :=
  if_neg h

theorem passedOn_held {s : State} (h : s.fault.record.isSome = true) (l : Line) (f : Frame) :
    (passedOn l f s).fault.record.isSome = true := by
  by_cases hr : (s.out (otherLine l)).forward.length < 32
  · rw [passedOn_room hr]
    cases l <;> exact h
  · rw [passedOn_full hr, faultTaken_held (s := forwardDropped l s) h]
    exact h

theorem passedOn_noted {s : State} (h : s.fault.record.isSome = true) (l : Line) (f : Frame)
    {k : FaultKind} (hk : k.index ≠ FaultKind.forwardDropped.index) :
    passedOn l f (faultNoted k s) = faultNoted k (passedOn l f s) := by
  have ho : (faultNoted k s).out (otherLine l) = s.out (otherLine l) := by cases l <;> rfl
  by_cases hr : (s.out (otherLine l)).forward.length < 32
  · rw [passedOn_room hr, passedOn_room (by rw [ho]; exact hr), ho]
    cases l <;> rfl
  · rw [passedOn_full hr, passedOn_full (by rw [ho]; exact hr),
      faultTaken_held (s := forwardDropped l s) h,
      faultTaken_held (s := forwardDropped l (faultNoted k s)) h, faultNoted_comm hk]
    rfl

/-- R180: with the fault record held a command dropped and a frame passed on leave the same state in either
order. -/
theorem passedOn_commandDropped_held (l : Line) (f : Frame) {s : State}
    (h : s.fault.record.isSome = true) :
    passedOn l f (commandDropped l s) = commandDropped l (passedOn l f s) := by
  have hc := passedOn_aside (q := fun u => u) (sparesDrops_commandDrops fun n => raised n 1) l f s
  have hd : ∀ u : State, u.fault.record.isSome = true →
      commandDropped l u = faultNoted .commandDropped (commandDropCounted u) := fun u hu =>
    faultTaken_held (s := commandDropCounted u) hu _ _ _
  rw [hd s h, hd _ (passedOn_held h l f), passedOn_noted (s := commandDropCounted s) h l f (by decide)]
  exact congrArg (faultNoted .commandDropped) hc

theorem commandDropped_room (l : Line) {s : State} (hr : s.fault.record = none)
    (hn : s.records.length < 16) (hb : s.lineB.sending.isSome = true) :
    commandDropped l s = { commandDropCounted s with
      records := s.records ++ [.alarm (builtNow (.faultCaptured .commandDropped 255) s)]
      fault := { s.fault with
        record := some { kind := .commandDropped, subject := 255, detail := lineDetail l, time := s.localTime }
        summary := s.fault.summary.set FaultKind.commandDropped.index.val true } } := by
  unfold commandDropped faultTaken
  rw [if_neg (by rw [show (commandDropCounted s).fault = s.fault from rfl, hr]; simp),
    if_pos (show (commandDropCounted s).records.length < 16 from hn)]
  unfold faultFilled joined
  rw [if_pos (show (commandDropCounted s).lineB.sending.isSome = true from hb)]
  rfl

/-- R3, R180: with room in both queues and line B busy, likewise. -/
theorem passedOn_commandDropped_room {l : Line} (f : Frame) {s : State} (hr : s.fault.record = none)
    (hn : s.records.length < 16) (hb : s.lineB.sending.isSome = true)
    (hf : (s.out (otherLine l)).forward.length < 32) :
    passedOn l f (commandDropped l s) = commandDropped l (passedOn l f s) := by
  rw [commandDropped_room l hr hn hb]
  unfold passedOn
  rw [if_pos hf, if_pos (by cases l <;> exact hf)]
  cases l with
  | a =>
    have hs : (withOut .b (forwarded f s.lineB) s).lineB.sending.isSome = true := by
      simp [withOut, forwarded, hb]
    exact (commandDropped_room .a (s := withOut .b (forwarded f s.lineB) s) hr hn hs).symm
  | b => exact (commandDropped_room .b (s := withOut .a (forwarded f s.lineA) s) hr hn hb).symm

/-- R3, R146, log 5: a broadcast command dropped is dropped before or after the frame is passed on. -/
theorem either_forward_commandDropped {l : Line} {f : Frame} {s : State} (hs : LinesSettled s)
    (hm : 7 ≤ (message f.payload).length) (hc : commandCode (message f.payload) = some 0x01)
    (hn : 4 ≤ placesTaken s) :
    { either (offerForward (otherLine l) f) (giveBroadcast l f) s with ties := [] }
        = passedOn l f (commandDropped l s)
      ∨ { either (offerForward (otherLine l) f) (giveBroadcast l f) s with ties := [] }
        = commandDropped l (passedOn l f s) := by
  have hg : ∀ u, LinesSettled u → 4 ≤ placesTaken u →
      giveBroadcast l f u = commandDropped l u ∧ LinesSettled (giveBroadcast l f u) := by
    intro u hu hp
    have ht : TakesFaults (commandDropCounted u) := .inr (hu .b)
    rw [giveBroadcast_taken (.inr hc), giveCommand_full hm hp]
    exact ⟨reportFault_eq ht _ _ _, reportFault_linesSettled _ _ _ fun m => hu m⟩
  obtain ⟨ts, e | e⟩ := either_cases (offerForward (otherLine l) f) (giveBroadcast l f) s <;> rw [e]
  · have h := offerForward_eq (s := { s with ties := ts }) (hs (otherLine l)) (.inr (hs .b)) f
    rw [passedOn_ties] at h
    have hp : placesTaken (offerForward (otherLine l) f { s with ties := ts }) = placesTaken s :=
      (congrArg placesTaken h).trans (placesTaken_passedOn l f s)
    have hl : LinesSettled (offerForward (otherLine l) f { s with ties := ts }) :=
      offerForward_linesSettled _ _ fun m => hs m
    right
    rw [(hg _ hl (hp ▸ hn)).1, ← h]
    exact faultTaken_ties ..
  · have hl := hg { s with ties := ts } (fun m => hs m) hn
    left
    rw [offerForward_eq (hl.2 _) (.inr (hl.2 .b)), hl.1,
      commandDropped_ties, passedOn_ties]

/-- Settles O29: a frame of class other is passed on alone; one of class broadcast meets the command unit as
well, and the two commute but where both are dropped with the fault record empty. -/
theorem foreignFramesPassThrough : Obligations.ForeignFramesPassThrough := by
  intro l f ties s hp
  refine ⟨exec_arrival_discarded ties hp, fun hf hs => ?_⟩
  have hs' : LinesSettled { s with ties := ties.order } := fun m => hs m
  rw [exec_arrival ties hp hf]
  refine ⟨fun h => ?_, fun ht hk hb hne => ?_⟩
  · have he : sortLine l ties f { s with ties := ties.order }
        = offerForward (otherLine l) f { s with ties := ties.order } := by
      obtain ht | ⟨h1, h2⟩ | ⟨rfl, hk⟩ | ⟨hk, hst, hb⟩ := h
      · exact sortLine_other (classify_foreignType ht)
      · exact sortLine_other (classify_otherKind h1 h2)
      · by_cases ht : f.ftype = s.streamType
        · exact sortLine_sample_b (classify_sample (s := { s with ties := ties.order }) ht hk)
        · exact sortLine_other (classify_foreignType ht)
      · by_cases ht : f.ftype = s.streamType
        · exact sortLine_other (classify_otherStation (s := { s with ties := ties.order }) ht hk hst hb)
        · exact sortLine_other (classify_foreignType ht)
    rw [he, offerForward_eq (hs' _) (.inr (hs' .b)), passedOn_ties]
  · have hc : ({ s with ties := ties.order } : State).classify f = .broadcast :=
      classify_broadcast (s := { s with ties := ties.order }) ht hk hb hne
    rw [sortLine_broadcast hc]
    refine ⟨fun hm => ?_, fun hm hi => ?_, fun hm hi hn => ?_, fun hm hi hn => ?_⟩
    · rw [either_forward_aside (g := giveBroadcast l f) (q := fun u => u) (sparesDrops_malformed fun n => raised n 1) (hs' _)
        (hs' .b) f fun u _ _ => (giveBroadcast_taken (.inl hm)).trans (giveCommand_short hm u)]
      exact congrArg Host.Outcome.next (passedOn_ties l f (malformedCounted s) _)
    · rw [either_forward_aside (g := giveBroadcast l f) (q := fun u => u) sparesDrops_id (hs' _) (hs' .b) f
        fun u _ _ => giveBroadcast_ignored hm hi]
      exact congrArg Host.Outcome.next (passedOn_ties l f s _)
    · rw [either_forward_aside (g := giveBroadcast l f)
        (q := fun u => { u with
          queue := u.queue ++ [{ line := l, src := f.src, bytes := message f.payload }] })
        sparesDrops_id (hs' _) (hs' .b) f fun u _ hu => (giveBroadcast_taken (.inr hi)).trans (giveCommand_room hm (hu ▸ hn))]
      exact congrArg Host.Outcome.next
        (passedOn_ties l f (commandQueued { line := l, src := f.src, bytes := message f.payload } s) _)
    · have he := either_forward_commandDropped (l := l) hs' hm hi hn
      rw [passedOn_ties, commandDropped_ties, passedOn_ties] at he
      refine ⟨he.imp (congrArg _) (congrArg _), fun hr => ?_, fun hr hb hroom => ?_⟩
      · exact congrArg Host.Outcome.next
          (he.elim id fun e => e.trans (passedOn_commandDropped_held l f hr).symm)
      · obtain ⟨hr, hn, _⟩ := hr
        exact congrArg Host.Outcome.next
          (he.elim id fun e => e.trans (passedOn_commandDropped_room f hr hn hb hroom).symm)

end Sys2Proof.Machine

namespace Sys2Proof.Machine
open Sys2Proof.Claims

/-! ## What a written entry is judged by, and kept as (R162) -/

/-! ### Codes -/

theorem index?_lt {n i : Nat} (h : i < n) : index? n i = some ⟨i, h⟩ := dif_pos h

theorem index?_none {n i : Nat} (h : ¬ i < n) : index? n i = none := dif_neg h

theorem mk_eq_ofNat {n i : Nat} [NeZero n] (h : i < n) : (⟨i, h⟩ : Fin n) = Fin.ofNat n i :=
  Fin.ext (Nat.mod_eq_of_lt h).symm

theorem kindOf?_le {n : Nat} (h : n ≤ 3) : kindOf? n = some (kindNamed n) := by
  interval_cases n <;> rfl

theorem kindOf?_none {n : Nat} (h : 3 < n) : kindOf? n = none := by
  match n, h with
  | k + 4, _ => rfl

theorem binClassOf?_le {n : Nat} (h : n ≤ 3) : binClassOf? n = some (classNamed n) := by
  interval_cases n <;> rfl

theorem binClassOf?_none {n : Nat} (h : 3 < n) : binClassOf? n = none := by
  match n, h with
  | k + 4, _ => rfl

theorem requestedModeOf?_le {n : Nat} (h : n ≤ 1) :
    requestedModeOf? n = some (if n = 0 then .auto else .fixed) := by
  interval_cases n <;> rfl

theorem requestedModeOf?_none {n : Nat} (h : 1 < n) : requestedModeOf? n = none := by
  match n, h with
  | k + 2, _ => rfl

theorem verdictModeOf?_le {n : Nat} (h : n ≤ 2) :
    verdictModeOf? n = some (if n = 0 then .all else if n = 1 then .changes else .silent) := by
  interval_cases n <;> rfl

theorem verdictModeOf?_none {n : Nat} (h : 2 < n) : verdictModeOf? n = none := by
  match n, h with
  | k + 3, _ => rfl

/-- A value clamped has changed exactly where it was outside the range. -/
theorem clampTo_changed {lo hi n : Nat} (h : lo ≤ hi) :
    (clampTo lo hi n != n) = true ↔ n < lo ∨ hi < n := by
  unfold clampTo
  rw [bne_iff_ne]
  omega

/-- What the judgement of content comes to: refused, or held by the capture unit, or kept. -/
def JudgedAs (s : State) (w : RawWrite) (j : Except Status (EntryWrite × Bool)) : Prop :=
  (BadContent s w → j = .error .badParam)
    ∧ (¬ BadContent s w → HeldByCapture s w → j = .error .busy)
    ∧ (¬ BadContent s w → ¬ HeldByCapture s w →
      ∃ clamped, j = .ok (keptEntry w, clamped) ∧ (clamped = true ↔ IsClamped w))

theorem judgedAs_bad {s : State} {w : RawWrite} {j : Except Status (EntryWrite × Bool)}
    (hb : BadContent s w) (hj : j = .error .badParam) : JudgedAs s w j :=
  ⟨fun _ => hj, fun h => absurd hb h, fun h => absurd hb h⟩

theorem judgedAs_kept {s : State} {w : RawWrite} {j : Except Status (EntryWrite × Bool)}
    {e : EntryWrite} {clamped : Bool} (hb : ¬ BadContent s w) (hh : ¬ HeldByCapture s w)
    (hj : j = .ok (e, clamped)) (he : e = keptEntry w) (hc : clamped = true ↔ IsClamped w) :
    JudgedAs s w j :=
  ⟨fun h => absurd h hb, fun _ h => absurd h hh, fun _ _ => ⟨clamped, he ▸ hj, hc⟩⟩

/-! ### The eight tables -/

theorem judgeBand_judged (s : State) (b : Fin 8) (r : RawBand) :
    JudgedAs s (.band b r) (judgeBand b r) := by
  by_cases hb : BadContent s (.band b r)
  · exact judgedAs_bad hb (if_pos hb)
  · refine judgedAs_kept hb (fun h => h) (if_neg hb) ?_ ((clampTo_changed (by decide)).trans ?_)
    · simp [keptEntry, clampTo]
    · simp [IsClamped]

theorem judgeGroup_judged (s : State) (g : Fin 4) (r : RawGroup) :
    JudgedAs s (.group g r) (judgeGroup g r) := by
  unfold judgeGroup
  by_cases ht : r.tracker < 2
  · rw [index?_lt ht]
    by_cases hp : r.pulse ≠ 6 ∧ r.pulse ≠ 12 ∧ r.pulse ≠ 24
    · exact judgedAs_bad (.inl hp) (if_pos hp)
    · refine judgedAs_kept (fun h => h.elim hp fun h => by omega) (fun h => h) (if_neg hp) ?_ ?_
      · simp [keptEntry, clampTo, mk_eq_ofNat ht]
      · simp only [Bool.or_eq_true, clampTo_changed (Nat.zero_le _), IsClamped]
        omega
  · rw [index?_none ht]
    exact judgedAs_bad (.inr (by omega)) rfl

theorem judgeGeneral_judged (s : State) (r : RawGeneral) :
    JudgedAs s (.general r) (judgeGeneral s r) := by
  unfold judgeGeneral
  by_cases ha : 1 < r.arbiter
  · rw [if_neg (by omega), if_neg (by omega)]
    exact judgedAs_bad (.inr (.inl ha)) rfl
  have hm : (if r.arbiter = 0 then some ArbiterMode.fixed
      else if r.arbiter = 1 then some ArbiterMode.rotating else none)
      = some (if r.arbiter = 0 then .fixed else .rotating) := by
    split
    · rfl
    · exact if_pos (by omega)
  rw [hm]
  by_cases hs : r.source < 8
  · rw [index?_lt hs]
    by_cases hb : r.station = 65535 ∨ 8 ≤ r.classes
    · exact judgedAs_bad (hb.elim .inl fun h => .inr (.inr (.inr h))) (if_pos hb)
    · have hbad : ¬ BadContent s (.general r) := by
        simp only [BadContent]
        omega
      have hheld : ((s.capture.state == .armed || s.capture.state == .post)
          && ((⟨r.source, hs⟩ : Fin 8) != s.tables.general.capture.source
            || clampTo 0 4095 r.preTrigger != s.tables.general.capture.preTrigger)) = true
          ↔ HeldByCapture s (.general r) := by
        simp [HeldByCapture, clampTo, Fin.ext_iff]
      by_cases hh : HeldByCapture s (.general r)
      · exact ⟨fun h => absurd h hbad, fun _ _ => (if_neg hb).trans (if_pos (hheld.mpr hh)),
          fun _ h => absurd hh h⟩
      · refine judgedAs_kept hbad hh ((if_neg hb).trans (if_neg fun h => hh (hheld.mp h))) ?_ ?_
        · simp [keptEntry, clampTo, mk_eq_ofNat hs, bitOf]
        · simp [clampTo, IsClamped]
  · rw [index?_none hs]
    exact judgedAs_bad (.inr (.inr (.inl (by omega)))) rfl

theorem idTaken_iff (s : State) (i : Fin 8) (id : Nat) :
    s.idTaken i id = true
      ↔ ∃ j, j ≠ i ∧ s.tables.sources[j].enabled = true ∧ s.tables.sources[j].sourceId = id := by
  simp [State.idTaken, and_assoc]

theorem slotAbove_iff (s : State) (i : Fin 8) (n : Nat) :
    s.slotAbove i n = true
      ↔ ∃ c : Fin 16, s.tables.channels[c].enabled = true ∧ s.tables.channels[c].source = i
        ∧ n ≤ s.tables.channels[c].slot.val := by
  simp [State.slotAbove, and_assoc]

theorem judgeSource_judged (s : State) (i : Fin 8) (r : RawSource) :
    JudgedAs s (.source i r) (judgeSource s i r) := by
  unfold judgeSource
  by_cases hf : 1 < r.fill
  · rw [if_neg (by omega), if_neg (by omega)]
    exact judgedAs_bad (.inr (.inr (.inr (.inr (.inl hf))))) rfl
  have hm : (if r.fill = 0 then some FillPolicy.repeatLast
      else if r.fill = 1 then some FillPolicy.zero else none)
      = some (if r.fill = 0 then .repeatLast else .zero) := by
    split
    · rfl
    · exact if_pos (by omega)
  rw [hm]
  have hbad : (r.sourceId < 1 ∨ 65534 < r.sourceId ∨ r.channelCount < 1 ∨ 8 < r.channelCount
      ∨ (r.enabled = true ∧ s.idTaken i r.sourceId = true) ∨ s.slotAbove i r.channelCount = true)
      ↔ BadContent s (.source i r) := by
    rw [idTaken_iff, slotAbove_iff]
    simp only [BadContent, hf, false_or]
  by_cases hb : BadContent s (.source i r)
  · exact judgedAs_bad hb (if_pos (hbad.mpr hb))
  · refine judgedAs_kept hb (fun h => h) (if_neg fun h => hb (hbad.mp h)) ?_ ?_
    · simp [keptEntry, clampTo]
    · simp only [Bool.or_eq_true, clampTo_changed (show 1 ≤ 16 by decide),
        clampTo_changed (show 1 ≤ 100 by decide), IsClamped]
      omega

theorem isReference_iff (s : State) (c : Fin 16) :
    s.isReference c = true
      ↔ ∃ i : Fin 2, s.tables.trackers[i].primary = some c ∨ s.tables.trackers[i].secondary = some c := by
  simp [State.isReference]

theorem hasBin_iff (p : PlanRow) (k : Nat) : p.hasBin k = true ↔ ∃ b ∈ p.bins, b.k = k := by
  simp [PlanRow.hasBin]

theorem kindNamed_ne_acVoltage {n : Nat} (h : n ≤ 3) : kindNamed n ≠ .acVoltage ↔ n ≠ 0 := by
  interval_cases n <;> decide

theorem kindNamed_isAC {n : Nat} (h : n ≤ 3) : (kindNamed n).isDC = false ↔ n < 2 := by
  interval_cases n <;> decide

theorem judgeChannel_judged (s : State) (c : Fin 16) (r : RawChannel) :
    JudgedAs s (.channel c r) (judgeChannel s c r) := by
  unfold judgeChannel
  by_cases hi : 7 < r.source ∨ 7 < r.slot ∨ 3 < r.group ∨ 3 < r.kind
  · refine judgedAs_bad (by simp only [BadContent]; tauto) ?_
    obtain h | h | h | h := hi
    · rw [index?_none (by omega)]
    · rw [index?_none (i := r.slot) (by omega)]
      split <;> simp_all
    · rw [index?_none (i := r.group) (by omega)]
      split <;> simp_all
    · rw [kindOf?_none h]
      split <;> simp_all
  · have hk : r.kind ≤ 3 := by omega
    have hs : r.source < 8 := by omega
    have hl : r.slot < 8 := by omega
    have hg : r.group < 4 := by omega
    rw [index?_lt hs, index?_lt hl, index?_lt hg, kindOf?_le hk]
    have hsrc : (∃ x : Fin 8, x.val = r.source ∧ s.tables.sources[x].channelCount ≤ r.slot)
        ↔ s.tables.sources[(⟨r.source, hs⟩ : Fin 8)].channelCount ≤ r.slot :=
      ⟨fun ⟨x, hx, h⟩ => by
        obtain rfl : x = ⟨r.source, hs⟩ := Fin.ext hx
        exact h, fun h => ⟨_, rfl, h⟩⟩
    have hbad : ((r.enabled = true ∧ s.tables.sources[(⟨r.source, hs⟩ : Fin 8)].channelCount ≤ r.slot)
        ∨ (s.isReference c = true ∧ kindNamed r.kind ≠ .acVoltage)
        ∨ ((kindNamed r.kind).isDC = false ∧ s.tables.plans[c].hasBin 10 = true))
        ↔ BadContent s (.channel c r) := by
      rw [isReference_iff, hasBin_iff, kindNamed_ne_acVoltage hk, kindNamed_isAC hk]
      obtain ⟨h1, h2, h3, h4⟩ : ¬ 7 < r.source ∧ ¬ 7 < r.slot ∧ ¬ 3 < r.group ∧ ¬ 3 < r.kind := by omega
      simp only [BadContent, hsrc, h1, h2, h3, h4, false_or]
      rw [and_comm (b := r.kind ≠ 0)]
    by_cases hb : BadContent s (.channel c r)
    · exact judgedAs_bad hb (if_pos (hbad.mpr hb))
    · refine judgedAs_kept hb (fun h => h) (if_neg fun h => hb (hbad.mp h)) ?_ (by simp [IsClamped])
      simp [keptEntry, mk_eq_ofNat hs, mk_eq_ofNat hl, mk_eq_ofNat hg]

theorem referenceOf?_bad {n : Nat} (h : 15 < n ∧ n ≠ 255) : referenceOf? n = none := by
  unfold referenceOf?
  rw [if_neg h.2, index?_none (by omega)]
  rfl

/-- The reference channel of a code that names one or none. -/
def referenceNamed (n : Nat) : Option (Fin 16) := if n = 255 then none else some (Fin.ofNat 16 n)

theorem referenceOf?_good {n : Nat} (h : ¬ (15 < n ∧ n ≠ 255)) :
    referenceOf? n = some (referenceNamed n) := by
  unfold referenceOf? referenceNamed
  split
  · rfl
  · rw [index?_lt (by omega), mk_eq_ofNat]
    rfl

theorem referenceKindOk_false {n : Nat} (h : ¬ (15 < n ∧ n ≠ 255)) (s : State) :
    s.referenceKindOk (referenceNamed n) = false
      ↔ ∃ c : Fin 16, c.val = n ∧ s.tables.channels[c].kind ≠ .acVoltage := by
  unfold referenceNamed
  split
  · next h255 =>
    simp only [State.referenceKindOk, Bool.true_eq_false, false_iff]
    rintro ⟨c, hc, _⟩
    omega
  · have hn : n < 16 := by omega
    rw [← mk_eq_ofNat hn]
    simp only [State.referenceKindOk, beq_eq_false_iff_ne]
    exact ⟨fun h => ⟨_, rfl, h⟩, fun ⟨c, hc, h⟩ => by
      obtain rfl : c = ⟨n, hn⟩ := Fin.ext hc
      exact h⟩

theorem referenceNamed_none {n : Nat} : (referenceNamed n).isNone = true ↔ n = 255 := by
  unfold referenceNamed
  split <;> simp_all

theorem referenceNamed_some {n : Nat} : (referenceNamed n).isSome = true ↔ n ≠ 255 := by
  unfold referenceNamed
  split <;> simp_all

theorem referenceNamed_inj {m n : Nat} (hm : ¬ (15 < m ∧ m ≠ 255)) (hn : ¬ (15 < n ∧ n ≠ 255)) :
    referenceNamed m = referenceNamed n ↔ m = n := by
  refine ⟨fun h => ?_, fun h => h ▸ rfl⟩
  unfold referenceNamed at h
  split at h <;> split at h
  · omega
  · cases h
  · cases h
  · have := congrArg Fin.val (Option.some.inj h)
    simp only [Fin.val_ofNat] at this
    omega

theorem judgeTracker_judged (s : State) (t : Fin 2) (r : RawTracker) :
    JudgedAs s (.tracker t r) (judgeTracker s t r) := by
  unfold judgeTracker
  by_cases hp : 15 < r.primary ∧ r.primary ≠ 255
  · rw [referenceOf?_bad hp]
    exact judgedAs_bad (.inl (.inl hp)) rfl
  by_cases hq : 15 < r.secondary ∧ r.secondary ≠ 255
  · rw [referenceOf?_bad hq]
    exact judgedAs_bad (.inr (.inl (.inl hq))) (by split <;> simp_all)
  by_cases hm : 1 < r.mode
  · rw [requestedModeOf?_none hm]
    refine judgedAs_bad ?_ (by split <;> simp_all)
    exact .inr (.inr (.inr (.inr (.inl hm))))
  rw [referenceOf?_good hp, referenceOf?_good hq, requestedModeOf?_le (by omega)]
  have hbad : (s.referenceKindOk (referenceNamed r.primary) = false
      ∨ s.referenceKindOk (referenceNamed r.secondary) = false
      ∨ ((referenceNamed r.secondary).isSome = true ∧ (referenceNamed r.primary).isNone = true)
      ∨ ((referenceNamed r.secondary).isSome = true
        ∧ referenceNamed r.secondary = referenceNamed r.primary)
      ∨ r.fixedFrequency < 47000 ∨ 53000 < r.fixedFrequency) ↔ BadContent s (.tracker t r) := by
    rw [referenceKindOk_false hp, referenceKindOk_false hq, referenceNamed_none, referenceNamed_some,
      referenceNamed_inj hq hp]
    simp only [BadContent, hp, hq, hm, false_or]
    rw [and_comm (a := r.secondary ≠ 255) (b := r.primary = 255)]
  by_cases hb : BadContent s (.tracker t r)
  · exact judgedAs_bad hb (if_pos (hbad.mpr hb))
  · refine judgedAs_kept hb (fun h => h) (if_neg fun h => hb (hbad.mp h)) ?_ ?_
    · simp [keptEntry, clampTo, referenceNamed]
    · simp only [Bool.or_eq_true, clampTo_changed (Nat.zero_le _),
        clampTo_changed (show 1 ≤ 600 by decide), IsClamped]
      omega

theorem strictlyAscending_iff (l : List Nat) : strictlyAscending l = true ↔ l.Pairwise (· < ·) := by
  rw [← List.isChain_iff_pairwise]
  induction l using strictlyAscending.induct with
  | case1 => simp [strictlyAscending]
  | case2 a => simp [strictlyAscending]
  | case3 a b rest ih => simp [strictlyAscending, ih]

theorem typedBins_good {l : List RawPlanBin} (h : ∀ b ∈ l, b.cls ≤ 3) :
    typedBins l = some (l.map fun b => { k := b.k, limit := b.limit, cls := classNamed b.cls }) := by
  induction l with
  | nil => rfl
  | cons b rest ih =>
    unfold typedBins
    rw [binClassOf?_le (h b List.mem_cons_self), ih fun x hx => h x (List.mem_cons_of_mem _ hx)]
    rfl

theorem typedBins_bad {l : List RawPlanBin} (h : ∃ b ∈ l, 3 < b.cls) : typedBins l = none := by
  induction l with
  | nil => simp at h
  | cons b rest ih =>
    unfold typedBins
    obtain ⟨x, hx, hc⟩ := h
    obtain rfl | hx := List.mem_cons.mp hx
    · rw [binClassOf?_none hc]
    · rw [ih ⟨x, hx, hc⟩]
      split <;> simp_all

theorem judgePlan_judged (s : State) (c : Fin 16) (r : RawPlan) :
    JudgedAs s (.plan c r) (judgePlan s c r) := by
  unfold judgePlan
  by_cases hc : ∃ b ∈ r.bins, 3 < b.cls
  · rw [typedBins_bad hc]
    obtain ⟨b, hb, hc⟩ := hc
    exact judgedAs_bad (.inr (.inl ⟨b, hb, .inr (.inr hc)⟩)) rfl
  by_cases hv : 2 < r.verdictMode
  · rw [verdictModeOf?_none hv]
    refine judgedAs_bad ?_ (by split <;> simp_all)
    exact .inr (.inr (.inr (.inl hv)))
  have hc' : ∀ b ∈ r.bins, ¬ 3 < b.cls := fun b hb h => hc ⟨b, hb, h⟩
  rw [typedBins_good fun b hb => Nat.not_lt.mp (hc' b hb), verdictModeOf?_le (by omega)]
  have hks : (r.bins.map fun b => ({ k := b.k, limit := b.limit, cls := classNamed b.cls } : PlanBin)).map
      PlanBin.k = r.bins.map RawPlanBin.k := by simp
  have hac : s.tables.channels[c].kind.isDC = false ↔ s.tables.channels[c].kind = .acVoltage
      ∨ s.tables.channels[c].kind = .acCurrent := by
    cases s.tables.channels[c].kind <;> decide
  have hrange : ((r.bins.map RawPlanBin.k).any fun k => decide (k < 1) || decide (1200 < k)) = true
      ↔ ∃ b ∈ r.bins, b.k < 1 ∨ 1200 < b.k ∨ 3 < b.cls := by
    simp only [List.any_eq_true, List.mem_map, Bool.or_eq_true, decide_eq_true_eq, exists_exists_and_eq_and]
    exact exists_congr fun b => and_congr_right fun hb => by rw [or_iff_left (hc' b hb)]
  have hten : (r.bins.map RawPlanBin.k).contains 10 = true ↔ ∃ b ∈ r.bins, b.k = 10 := by simp
  have hbad : (24 < (r.bins.map fun b =>
        ({ k := b.k, limit := b.limit, cls := classNamed b.cls } : PlanBin)).length
      ∨ ((r.bins.map RawPlanBin.k).any fun k => decide (k < 1) || decide (1200 < k)) = true
      ∨ strictlyAscending (r.bins.map RawPlanBin.k) = false
      ∨ ((r.bins.map RawPlanBin.k).contains 10 = true ∧ s.tables.channels[c].kind.isDC = false))
      ↔ BadContent s (.plan c r) := by
    rw [hrange, hten, hac, ← Bool.not_eq_true, strictlyAscending_iff, List.length_map]
    simp only [BadContent, hv, false_or]
  by_cases hb : BadContent s (.plan c r)
  · refine judgedAs_bad hb (if_pos ?_)
    rw [hks]
    exact hbad.mpr hb
  · refine judgedAs_kept hb (fun h => h) (if_neg ?_) ?_ ?_
    · rw [hks]
      exact fun h => hb (hbad.mp h)
    · simp [keptEntry, clampTo]
    · simp only [Bool.or_eq_true, clampTo_changed (show 1 ≤ 15 by decide), IsClamped]
      omega

theorem ascending_eq (l : List Nat) : ascending l = l.insertionSort (· ≤ ·) := by
  have hi : ∀ k l, insertAscending k l = l.orderedInsert (· ≤ ·) k := by
    intro k l
    induction l with
    | nil => rfl
    | cons x xs ih => simp [insertAscending, List.orderedInsert, ih]
  induction l with
  | nil => rfl
  | cons k ks ih => rw [ascending, List.insertionSort_cons, ih, hi]

theorem insertionSort_pairwise_lt (l : List Nat) :
    (l.insertionSort (· ≤ ·)).Pairwise (· < ·) ↔ l.Nodup := by
  rw [← (List.perm_insertionSort (· ≤ ·) l).nodup_iff]
  refine ⟨fun h => h.imp Nat.ne_of_lt, fun h => ?_⟩
  exact ((List.pairwise_insertionSort (· ≤ ·) l).and h).imp fun ⟨hle, hne⟩ => Nat.lt_of_le_of_ne hle hne

theorem judgeSignature_judged (s : State) (i : Fin 16) (r : RawSignature) :
    JudgedAs s (.signature i r) (judgeSignature i r) := by
  unfold judgeSignature
  by_cases hk : 3 < r.kind
  · rw [kindOf?_none hk]
    exact judgedAs_bad (.inl hk) rfl
  rw [kindOf?_le (by omega), ascending_eq]
  have hbad : (r.bins.length < 1 ∨ 6 < r.bins.length
      ∨ (r.bins.any fun k => decide (k < 1) || decide (1200 < k)) = true
      ∨ strictlyAscending (r.bins.insertionSort (· ≤ ·)) = false ∨ r.code = 0)
      ↔ BadContent s (.signature i r) := by
    rw [← Bool.not_eq_true (strictlyAscending _), strictlyAscending_iff, insertionSort_pairwise_lt]
    simp [BadContent, hk]
  by_cases hb : BadContent s (.signature i r)
  · exact judgedAs_bad hb (if_pos (hbad.mpr hb))
  · refine judgedAs_kept hb (fun h => h) (if_neg fun h => hb (hbad.mp h)) ?_ (by simp [IsClamped])
    simp [keptEntry]

/-- R162: what the content of a write is judged. -/
theorem judge_judged (s : State) (w : RawWrite) : JudgedAs s w (judge s w) := by
  cases w with
  | general r => exact judgeGeneral_judged s r
  | source i r => exact judgeSource_judged s i r
  | channel i r => exact judgeChannel_judged s i r
  | group i r => exact judgeGroup_judged s i r
  | tracker i r => exact judgeTracker_judged s i r
  | plan i r => exact judgePlan_judged s i r
  | band i r => exact judgeBand_judged s i r
  | signature i r => exact judgeSignature_judged s i r

/-- R162: content that is kept breaks no rule, and is kept as `keptEntry` says. -/
theorem judge_ok {s : State} {w : RawWrite} {e : EntryWrite} {clamped : Bool}
    (h : judge s w = .ok (e, clamped)) : ¬ BadContent s w ∧ e = keptEntry w := by
  obtain ⟨hbad, hheld, hkept⟩ := judge_judged s w
  have hb : ¬ BadContent s w := fun hb => by rw [hbad hb] at h; cases h
  have hh : ¬ HeldByCapture s w := fun hh => by rw [hheld hb hh] at h; cases h
  obtain ⟨_, he, _⟩ := hkept hb hh
  rw [he] at h
  cases h
  exact ⟨hb, rfl⟩

end Sys2Proof.Machine

namespace Sys2Proof.Machine
open Sys2Proof.Claims

/-! ## WRITE ENTRY with the table memory (R162, R173, R174) -/

/-! ### Effects of a write leave an idle engine idle -/

/-- Trackers have moved and reported it, and no other block has changed. -/
def TrackersMove (s t : State) : Prop := ∃ tr, Reports { s with trackers := tr } t

theorem TrackersMove.refl (s : State) : TrackersMove s s := ⟨s.trackers, .refl s⟩

theorem TrackersMove.trans {s t u : State} (h : TrackersMove s t) (k : TrackersMove t u) :
    TrackersMove s u := by
  obtain ⟨_, _, _, _, _, _, _, rfl⟩ := h
  obtain ⟨tr, r, b, f, vd, ad, ts, rfl⟩ := k
  exact ⟨tr, r, b, f, vd, ad, ts, rfl⟩

theorem Reports.trackersMove {s t : State} (h : Reports s t) : TrackersMove s t := ⟨s.trackers, h⟩

theorem TrackersMove.engine {s t : State} (h : TrackersMove s t) : t.engine = s.engine := by
  obtain ⟨_, _, _, _, _, _, _, rfl⟩ := h
  rfl

theorem putTrackerAt_move (t : Fin 2) (tr : Tracker) (s : State) :
    TrackersMove s (putTrackerAt t tr s) := ⟨_, .refl _⟩

theorem moved_move (t : Fin 2) (tr : Tracker) (k : Option FaultKind) (s : State) :
    TrackersMove s (trackerMoved t k (putTrackerAt t tr s)) :=
  (putTrackerAt_move t tr s).trans (trackerMoved_reports t k _).trackersMove

theorem measurerFailed_move (t : Fin 2) (r : Role) (s : State) :
    TrackersMove s (measurerFailed t r s) := by
  unfold measurerFailed
  dsimp only
  split
  · split
    · split <;> exact moved_move t _ _ s
    · exact moved_move t _ _ s
  · exact moved_move t _ _ s
  · exact .refl s

theorem failedIf_move (p : Prop) [Decidable p] (t : Fin 2) (r : Role) (s : State) :
    TrackersMove s (if p then measurerFailed t r s else s) := by
  split
  · exact measurerFailed_move t r s
  · exact .refl s

theorem trackerLoses_move (t : Fin 2) (src : Fin 8) (s : State) :
    TrackersMove s (trackerLoses t src s) :=
  ((putTrackerAt_move t _ s).trans (failedIf_move _ t .primary _)).trans (failedIf_move _ t .secondary _)

theorem requestMode_move (t : Fin 2) (mode : RequestedMode) (f : Nat) (s : State) :
    TrackersMove s (requestMode t mode f s) := by
  unfold requestMode
  dsimp only
  split
  · exact putTrackerAt_move t _ s
  · exact moved_move t _ _ s
  · exact moved_move t _ _ s
  · exact .refl s

theorem changeReferences_move (t : Fin 2) (old new : TrackerEntry) (s : State) :
    TrackersMove s (changeReferences t old new s) := by
  have hf : ∀ r s, TrackersMove s
      (if old.reference r = new.reference r then s else measurerFailed t r s) := by
    intro r s
    split
    · exact .refl s
    · exact measurerFailed_move t r s
  exact ((putTrackerAt_move t _ s).trans (hf _ _)).trans (hf _ _)

theorem endAllWindows_idle (c : Fin 16) {s : State} (h : s.engine = .idle) :
    (endAllWindows c s).engine = .idle := by
  have he : (endWindows c s).engine = .idle := h
  unfold endAllWindows discardCopy
  rw [he]
  exact he

theorem channelsWhere_idle (p : Fin 16 → Bool) {f : Fin 16 → State → State}
    (hf : ∀ c s, s.engine = .idle → (f c s).engine = .idle) {s : State} (h : s.engine = .idle) :
    (channelsWhere p f s).engine = .idle :=
  foldl_keeps (P := fun s : State => s.engine = .idle) _ _ (fun c _ s => hf c s) s h

theorem writeSource_idle (i : Fin 8) (e : SourceEntry) {s : State} (h : s.engine = .idle) :
    (writeSource i e s).engine = .idle := by
  unfold writeSource
  dsimp only
  split
  · exact h
  · split
    · refine channelsWhere_idle _ (fun c _ => endAllWindows_idle c) ?_
      exact inSomeOrder_keeps (P := fun s : State => s.engine = .idle) _ _ (fun _ _ h => h)
        (fun t _ s hs => (trackerLoses_move t i s).engine.trans hs) _ h
    · split
      · exact channelsWhere_idle _ (fun c _ => endAllWindows_idle c) h
      · exact h

theorem applyWrite_idle (w : EntryWrite) {s : State} (h : s.engine = .idle) :
    (applyWrite w s).engine = .idle := by
  cases w with
  | general e => exact h
  | source i e => exact writeSource_idle i e h
  | channel c e =>
    change (writeChannel c e s).engine = .idle
    unfold writeChannel
    dsimp only
    split
    · exact h
    · split <;> exact endAllWindows_idle c h
  | group g e =>
    change (writeGroup g e s).engine = .idle
    unfold writeGroup
    dsimp only
    split
    · refine channelsWhere_idle _ (f := fun c s => clearChecks c (endAllWindows c s))
        (fun c _ hs => endAllWindows_idle c hs) ?_
      split
      · exact channelsWhere_idle _ (fun c _ => endAllWindows_idle c) h
      · exact h
    · split
      · exact channelsWhere_idle _ (fun c _ => endAllWindows_idle c) h
      · exact h
  | tracker t e =>
    change (writeTracker t e s).engine = .idle
    unfold writeTracker
    dsimp only
    split
    · exact h
    · exact ((requestMode_move t _ _ _).trans (changeReferences_move t _ _ _)).engine.trans h
  | plan c e =>
    change (writePlan c e s).engine = .idle
    unfold writePlan
    dsimp only
    split
    · exact h
    · split
      · exact h
      · exact endAllWindows_idle c h
  | band i e => exact h
  | signature i e => exact h

/-! ### What else the effects leave alone -/

/-- Whether line A's output side and the command unit stand as they stood. -/
def SpareLineA (s t : State) : Prop := t.lineA = s.lineA ∧ t.command = s.command

theorem Beside.spareLineA {s t : State} (h : Beside s t) : SpareLineA s t := ⟨h.lineA, h.command⟩

theorem Talks.spareLineA {Q : State → State → Prop} (hQ : ∀ s t, Q s t → SpareLineA s t) {s t : State}
    (h : Talks Q False s t) : SpareLineA s t := by
  have hb : ∀ s q, SpareLineA s (kick .b { s with records := q }) := fun s q => by
    obtain ⟨o, r, e⟩ := kick_frame .b { s with records := q }
    rw [e]
    exact ⟨rfl, rfl⟩
  have ht : ∀ {s t u : State}, SpareLineA s t → SpareLineA t u → SpareLineA s u :=
    fun h k => ⟨k.1.trans h.1, k.2.trans h.2⟩
  induction h with
  | refl => exact ⟨rfl, rfl⟩
  | quietly _ hw ih => exact ht ih (hQ _ _ hw)
  | offered _ _ ih => exact ht ih (hb _ _)
  | @dropCounted t d _ ih => exact ht ih (by cases d <;> exact ⟨rfl, rfl⟩)
  | noted _ _ _ ih => exact ht ih ⟨rfl, rfl⟩
  | filled _ _ _ _ _ _ ih => exact ht ih ⟨rfl, rfl⟩
  | answered _ _ _ hf => exact absurd ‹False› id

theorem applyWrite_spareLineA (w : EntryWrite) (s : State) : SpareLineA s (applyWrite w s) :=
  (applyWrite_talks w s).beside.spareLineA fun _ _ h => h.spareLineA

theorem applyWrite_tables (w : EntryWrite) (s : State) :
    (applyWrite w s).tables = replaced s.tables w :=
  (applyWrite_talks (a := False) w s).apart.tables

theorem applyWrite_store (w : EntryWrite) (s : State) : (applyWrite w s).store = s.store :=
  (applyWrite_talks (a := False) w s).apart.store

theorem applyWrite_protection (w : EntryWrite) (s : State) :
    (applyWrite w s).protection = s.protection :=
  (applyWrite_talks (a := False) w s).apart.protection

theorem applyWrite_linesSettled (w : EntryWrite) {s : State} (h : LinesSettled s) :
    LinesSettled (applyWrite w s) :=
  (applyWrite_talks (a := False) w s).linesSettled (fun _ _ h => h.sameQueues)
    ((entryReplaced_beside w s).sameQueues.linesSettled h)

/-! ### Permission (R173, R174) -/

theorem covers_iff (p : Protection) (g : Nat) : p.covers g = true ↔ Guards p g := by
  unfold Protection.covers Guards
  cases p.complement with
  | false => simp
  | true =>
    simp
    omega

theorem permitted_iff (s : State) (w : RawWrite) : s.permitted w = true ↔ ¬ Forbidden s w := by
  have hl : s.locked w.table = true
      ↔ s.protection.runtime[tableNumber w] = true ∨ s.inForce.locks[tableNumber w] = true := by
    unfold State.locked
    rw [Bool.or_eq_true]
    cases w <;> rfl
  have hg : s.guarded w = true ↔ (match w with
      | .group g _ => Guards s.inForce g.val
      | .channel c r => Guards s.inForce s.tables.channels[c].group.val ∨ Guards s.inForce r.group
      | .plan c _ => Guards s.inForce s.tables.channels[c].group.val
      | _ => False) := by
    cases w with
    | group g r => exact covers_iff _ _
    | channel c r => exact Bool.or_eq_true _ _ ▸ or_congr (covers_iff _ _) (covers_iff _ _)
    | plan c r => exact covers_iff _ _
    | _ => exact Bool.false_eq_true ▸ Iff.rfl
  unfold State.permitted Forbidden
  rw [Bool.and_eq_true, Bool.not_eq_true', Bool.not_eq_true', ← Bool.not_eq_true, ← Bool.not_eq_true, hl]
  rw [show _ ↔ _ from hg.not]
  tauto

/-! ### A command that owns the table memory (R79, R80) -/

theorem replyWith_answered {c : CommandFrame} {s : State} (h : LineSettled c.line s) (restart : Bool)
    (st : Status) (res : List Byte) : replyWith restart c st res s = answered restart c st res s := by
  rw [replyWith_eq restart c st res h]
  unfold answered
  cases c.line <;> rfl

/-- R148, R149: the command at the front, outside LOADING and with parameters that decode, follows its rule. -/
theorem command_accepted {α : Type} {code : Nat} {s : State} {c : CommandFrame}
    (h : Accepts code s c) {parse : List Byte → Option α} {p : α}
    (hp : parse (commandParams c.bytes) = some p) (body : α → CommandFrame → State → State) :
    command code parse body s = body p c s := by
  obtain ⟨⟨hpow, hres, hq, hcode, _⟩, hop⟩ := h
  obtain ⟨rest, hq⟩ : ∃ rest, s.command.queue = c :: rest := by
    cases hl : s.command.queue with
    | nil => rw [hl] at hq; cases hq
    | cons x rest => rw [hl] at hq; cases hq; exact ⟨rest, rfl⟩
  have he : (s.executes && c.hasCode code) = true := by
    simp [State.executes, CommandFrame.hasCode, hpow, hres, hcode]
  unfold command onOldest
  rw [hq]
  dsimp only
  rw [if_pos he]
  unfold screened
  rw [if_neg hop, hp]

theorem commandRelease_idle {s : State} (h : s.engine = .idle) : commandRelease s = released s := by
  unfold commandRelease
  split <;> simp_all [released]

theorem holdingMemory_idle {f : State → State} {s : State}
    (h : (f { s with memOwner := .command }).engine = .idle) :
    holdingMemory f s = released (f { s with memOwner := .command }) := by
  have hb : beginNext (f { s with memOwner := .command }) = f { s with memOwner := .command } := by
    unfold beginNext
    rw [h]
  unfold holdingMemory
  rw [hb, commandRelease_idle h]

theorem withMemory_owned {s : State} (h : HasMemory s) (f : State → State) (c : CommandFrame) :
    withMemory (s.addressRefusal true) f c s = holdingMemory f s := by
  obtain ⟨_, ⟨hr, hm, hs⟩ | ⟨hr, hm⟩⟩ := h
  · have ha : s.addressRefusal true = none := by simp [State.addressRefusal, hs]
    unfold withMemory
    rw [if_neg (by simp [hr]), ha]
    exact if_pos hm
  · exact (if_pos hr).trans (if_pos hm)

/-- R162: what a WRITE ENTRY that owns the memory comes to, where its answer leaves the engine idle. -/
theorem exec_writeEntry_owned (ties : Ties) {s : State} {c : CommandFrame} {w : RawWrite}
    (ha : Accepts 0x11 s c) (hm : HasMemory s) (hw : parseWrite (commandParams c.bytes) = some w)
    (he : (writeEntry w c { s with memOwner := .command, ties := ties }).engine = .idle) :
    exec (.writeEntry ties) s = .next
      { released (writeEntry w c { s with memOwner := .command, ties := ties }) with ties := [] } := by
  change execWriteEntry ties s = _
  unfold execWriteEntry
  rw [command_accepted ha hw, withMemory_owned hm,
    holdingMemory_idle (f := withTies ties (writeEntry w c)) he]
  rfl

theorem answered_engine (restart : Bool) (c : CommandFrame) (st : Status) (res : List Byte) (s : State) :
    (answered restart c st res s).engine = s.engine := by
  unfold answered
  cases c.line <;> rfl

theorem writeEntry_forbidden {w : RawWrite} {s : State} (h : Forbidden s w) (c : CommandFrame) :
    writeEntry w c s = reply c .protected_ [] s :=
  if_neg fun hp => (permitted_iff s w).mp hp h

theorem writeEntry_refused {w : RawWrite} {s : State} (h : ¬ Forbidden s w) {st : Status}
    (hj : judge s w = .error st) (c : CommandFrame) : writeEntry w c s = reply c st [] s := by
  unfold writeEntry
  rw [if_pos ((permitted_iff s w).mpr h), hj]

theorem writeEntry_taken {w : RawWrite} {s : State} (h : ¬ Forbidden s w) {e : EntryWrite} {clamped : Bool}
    (hj : judge s w = .ok (e, clamped)) (c : CommandFrame) :
    writeEntry w c s = reply c (if clamped then .adjusted else .done) e.content (applyWrite e s) := by
  unfold writeEntry
  rw [if_pos ((permitted_iff s w).mpr h), hj]

/-- Judgement and permission read the tables, the capture unit, the protection and the store alone. -/
theorem judge_owned (s : State) (w : RawWrite) (m : MemOwner) (ts : Ties) :
    judge { s with memOwner := m, ties := ts } w = judge s w := by
  cases w <;> rfl

theorem forbidden_owned (s : State) (w : RawWrite) (m : MemOwner) (ts : Ties) :
    Forbidden { s with memOwner := m, ties := ts } w ↔ Forbidden s w := by
  cases w <;> exact Iff.rfl

/-- An answer given while the memory is held does not see who owns it. -/
theorem answered_owned (c : CommandFrame) (st : Status) (res : List Byte) (s : State) (m : MemOwner)
    (ts : Ties) :
    ({ released (answered false c st res { s with memOwner := m, ties := ts }) with ties := [] } : State)
      = { released (answered false c st res s) with ties := [] } := by
  unfold answered
  cases c.line <;> rfl

/-- Settles O43: `judge_judged` per table, `permitted_iff`, and the answer of a command that owns the memory,
which finds the engine idle. -/
theorem writeEntryReplacesAnEntry : Obligations.WriteEntryReplacesAnEntry := by
  refine ⟨fun ties s c w ha hm hw => ?_, permitted_iff, judge_judged, fun ties s c ha hw hr hs => ?_⟩
  · have hs : LinesSettled { s with memOwner := .command, ties := ties } := fun l => ha.1.2.2.2.2 l
    have hidle : s.engine = .idle := hm.1
    refine ⟨fun hf => ?_, fun st hf hj => ?_, fun e clamped hf hj => ?_⟩
    · have he := (writeEntry_forbidden ((forbidden_owned s w .command ties).mpr hf) c).trans
        (replyWith_answered (hs c.line) false _ _)
      rw [exec_writeEntry_owned ties ha hm hw (by rw [he, answered_engine]; exact hidle), he,
        answered_owned]
    · have he := (writeEntry_refused (mt (forbidden_owned s w .command ties).mp hf)
        ((judge_owned s w .command ties).trans hj) c).trans (replyWith_answered (hs c.line) false _ _)
      rw [exec_writeEntry_owned ties ha hm hw (by rw [he, answered_engine]; exact hidle), he,
        answered_owned]
    · have hu : (applyWrite e { s with memOwner := .command, ties := ties }).engine = .idle :=
        applyWrite_idle e hidle
      have he := (writeEntry_taken (mt (forbidden_owned s w .command ties).mp hf)
        ((judge_owned s w .command ties).trans hj) c).trans
        (replyWith_answered (applyWrite_linesSettled e hs c.line) false _ _)
      obtain ⟨hA, hC⟩ := applyWrite_spareLineA e { s with memOwner := .command, ties := ties }
      refine ⟨?_, applyWrite_tables e _, applyWrite_opState e _, hC, applyWrite_store e _,
        applyWrite_protection e _, hu.trans hidle.symm, hA, ?_, ?_, ?_⟩
      · rw [exec_writeEntry_owned ties ha hm hw (by rw [he, answered_engine]; exact hu), he]
      · rintro b x rfl
        rfl
      · rintro b x rfl
        rfl
      · rintro x rfl
        rfl
  · obtain ⟨w, hw⟩ := Option.isSome_iff_exists.mp hw
    have hl : LinesSettled s := ha.1.2.2.2.2
    have hb : s.addressRefusal true = some .busy := by simp [State.addressRefusal, hs]
    change execWriteEntry ties s = _
    unfold execWriteEntry
    rw [command_accepted ha hw, ← replyWith_answered (hl c.line)]
    unfold withMemory
    rw [if_neg (by simp [hr]), hb]
    rfl

end Sys2Proof.Machine

namespace Sys2Proof.Machine
open Sys2Proof.Claims

/-! ## O5: tables, images and buffer keep their rules (R7, R23, R27, R36, R95, R103, R107, R164, R171) -/

/-! ### Images and entries replaced -/

theorem setImage_image (t : Tables) (img : TableImage) (id : TableId) :
    (t.setImage img).image id = if id = img.table then img else t.image id := by
  cases img <;> cases id <;> rfl

theorem setImage_legal {t : Tables} {img : TableImage} (ht : t.legal) (hi : img.legal) :
    (t.setImage img).legal := by
  intro id
  rw [setImage_image]
  split
  · exact hi
  · exact ht id

theorem forall_putAt {α : Type} {n : Nat} {p : Fin n → α → Prop} {v : Vector α n} {i : Fin n} {x : α}
    (hv : ∀ j : Fin n, p j v[j]) (hx : p i x) (j : Fin n) : p j (putAt v i x)[j] := by
  rw [putAt_get]
  split
  · next h => exact h ▸ hx
  · exact hv j

/-- The rules of an entry's own table on the entry, the other source ids among them. -/
def EntryFits (t : Tables) : EntryWrite → Prop
  | .general e => e.legal
  | .source i e => e.legal ∧ (e.enabled = true → ∀ j : Fin 8, j ≠ i → t.sources[j].enabled = true →
      t.sources[j].sourceId ≠ e.sourceId)
  | .channel _ _ => True
  | .group _ e => e.legal
  | .tracker _ e => e.legal
  | .plan _ e => e.legal
  | .band _ e => e.legal
  | .signature _ e => e.legal

/-- What the other tables require of an entry. -/
def EntryAgrees (t : Tables) : EntryWrite → Prop
  | .source i e => ∀ c : Fin 16, t.channels[c].enabled = true → t.channels[c].source = i →
      t.channels[c].slot.val < e.channelCount
  | .channel c e => (e.enabled = true → e.slot.val < t.sources[e.source].channelCount)
      ∧ (∀ (i : Fin 2) (r : Role), t.trackers[i].reference r = some c → e.kind = .acVoltage)
      ∧ (e.kind.isDC = false → ∀ b ∈ t.plans[c].bins, b.k ≠ 10)
  | .tracker _ e => ∀ (r : Role) (c : Fin 16), e.reference r = some c → t.channels[c].kind = .acVoltage
  | .plan c e => t.channels[c].kind.isDC = false → ∀ b ∈ e.bins, b.k ≠ 10
  | _ => True

theorem sourceIdsDistinct_putAt {t : Tables} {i : Fin 8} {e : SourceEntry}
    (h : sourceIdsDistinct t.sources) (he : e.enabled = true → ∀ j : Fin 8, j ≠ i →
      t.sources[j].enabled = true → t.sources[j].sourceId ≠ e.sourceId) :
    sourceIdsDistinct (putAt t.sources i e) := by
  intro j k hjk hj hk
  simp only [putAt_get] at hj hk ⊢
  by_cases hji : j = i
  · have hki : ¬ k = i := fun h => hjk (hji.trans h.symm)
    simp only [hji, hki, if_true, if_false] at hj hk ⊢
    exact (he hj k hki hk).symm
  · by_cases hki : k = i
    · simp only [hji, hki, if_true, if_false] at hj hk ⊢
      exact he hk j hji hj
    · simp only [hji, hki, if_false] at hj hk ⊢
      exact h j k hjk hj hk

theorem replaced_legal {t : Tables} {w : EntryWrite} (ht : t.legal) (hw : EntryFits t w) :
    (replaced t w).legal := by
  cases w with
  | general e => exact setImage_legal (img := .general e) ht hw
  | source i e =>
    obtain ⟨hl, hd⟩ := ht .sources
    refine setImage_legal (img := .sources (putAt t.sources i e)) ht ⟨?_, sourceIdsDistinct_putAt hd hw.2⟩
    exact forall_putAt (p := fun _ x => SourceEntry.legal x) hl hw.1
  | channel c e => exact setImage_legal (img := .channels (putAt t.channels c e)) ht trivial
  | group g e =>
    exact setImage_legal (img := .groups (putAt t.groups g e)) ht
      (forall_putAt (p := fun _ x => GroupEntry.legal x) (ht .groups) hw)
  | tracker i e =>
    exact setImage_legal (img := .trackers (putAt t.trackers i e)) ht
      (forall_putAt (p := fun _ x => TrackerEntry.legal x) (ht .trackers) hw)
  | plan c e =>
    exact setImage_legal (img := .plans (putAt t.plans c e)) ht
      (forall_putAt (p := fun _ x => PlanRow.legal x) (ht .plans) hw)
  | band i e =>
    exact setImage_legal (img := .bands (putAt t.bands i e)) ht
      (forall_putAt (p := fun _ x => BandEntry.legal x) (ht .bands) hw)
  | signature i e =>
    exact setImage_legal (img := .signatures (putAt t.signatures i e)) ht
      (forall_putAt (p := fun _ x => SignatureEntry.legal x) (ht .signatures) hw)

theorem replaced_consistent {t : Tables} {w : EntryWrite} (ht : t.consistent) (hw : EntryAgrees t w) :
    (replaced t w).consistent := by
  obtain ⟨hslot, href, hten⟩ := ht
  cases w with
  | source i e =>
    refine ⟨fun c hc => ?_, href, hten⟩
    change _ < (putAt t.sources i e)[t.channels[c].source].channelCount
    rw [putAt_get]
    split
    · next hi => exact hw c hc hi
    · exact hslot c hc
  | channel c e =>
    obtain ⟨h1, h2, h3⟩ := hw
    refine ⟨forall_putAt (p := fun _ (x : ChannelEntry) => x.enabled = true →
      x.slot.val < t.sources[x.source].channelCount) hslot h1, fun i r x hx => ?_,
      forall_putAt (p := fun j (x : ChannelEntry) => x.kind.isDC = false →
        ∀ b ∈ t.plans[j].bins, b.k ≠ 10) hten h3⟩
    change (putAt t.channels c e)[x].kind = _
    rw [putAt_get]
    split
    · next hc => exact h2 i r (hc ▸ hx)
    · exact href i r x hx
  | tracker i e =>
    exact ⟨hslot, forall_putAt (p := fun _ (x : TrackerEntry) => ∀ (r : Role) (c : Fin 16),
      x.reference r = some c → t.channels[c].kind = .acVoltage) href hw, hten⟩
  | plan c e =>
    exact ⟨hslot, href, forall_putAt (p := fun j (x : PlanRow) => t.channels[j].kind.isDC = false →
      ∀ b ∈ x.bins, b.k ≠ 10) hten hw⟩
  | general e => exact ⟨hslot, href, hten⟩
  | group g e => exact ⟨hslot, href, hten⟩
  | band i e => exact ⟨hslot, href, hten⟩
  | signature i e => exact ⟨hslot, href, hten⟩

/-! ### Entries written -/

/-- What the bytes of a write bound (12.5). -/
def RawWrite.Bounded : RawWrite → Prop
  | .general r => r.station ≤ 65535
  | .plan _ r => r.hysteresis ≤ 65535 ∧ ∀ b ∈ r.bins, b.limit ≤ 65535
  | .signature _ r => r.code ≤ 255
  | _ => True

theorem byteAt_le (p : List Byte) (i : Nat) : byteAt p i ≤ 255 := by
  have := (p.getD i 0).isLt
  unfold byteAt
  omega

theorem word2At_le (p : List Byte) (i : Nat) : word2At p i ≤ 65535 := by
  have h1 := byteAt_le p i
  have h2 := byteAt_le p (i + 1)
  unfold word2At
  omega

theorem decodeGeneral_bounded {p : List Byte} {r : RawGeneral} (h : decodeGeneral p = some r) :
    r.station ≤ 65535 := by
  unfold decodeGeneral at h
  split at h
  · split at h
    · cases h
      exact word2At_le p 0
    · cases h
  · cases h

theorem decodePlan_bounded {p : List Byte} {r : RawPlan} (h : decodePlan p = some r) :
    r.hysteresis ≤ 65535 ∧ ∀ b ∈ r.bins, b.limit ≤ 65535 := by
  unfold decodePlan at h
  split at h
  · cases h
    refine ⟨word2At_le p 0, fun b hb => ?_⟩
    obtain ⟨j, _, rfl⟩ := List.mem_map.mp hb
    exact word2At_le p _
  · cases h

theorem decodeSignature_bounded {p : List Byte} {r : RawSignature} (h : decodeSignature p = some r) :
    r.code ≤ 255 := by
  unfold decodeSignature at h
  split at h
  · obtain ⟨_, _, rfl⟩ := Option.map_eq_some_iff.mp h
    exact byteAt_le p _
  · cases h

theorem parsed_bounded {α : Type} {n i : Nat} {d : List Byte → Option α} {p : List Byte}
    {f : Fin n → α → RawWrite} {w : RawWrite}
    (hd : ∀ j r, d p = some r → (f j r).Bounded)
    (h : ((index? n i).bind fun j => (d p).map (f j)) = some w) : w.Bounded := by
  obtain ⟨j, _, h⟩ := Option.bind_eq_some_iff.mp h
  obtain ⟨r, hr, rfl⟩ := Option.map_eq_some_iff.mp h
  exact hd j r hr

theorem parseWrite_bounded {p : List Byte} {w : RawWrite} (h : parseWrite p = some w) : w.Bounded := by
  unfold parseWrite at h
  split at h
  · cases h
  · split at h
    · exact parsed_bounded (d := decodeGeneral) (f := fun _ => .general) (fun _ _ => decodeGeneral_bounded) h
    · exact parsed_bounded (d := decodeSource) (f := .source) (fun _ _ _ => trivial) h
    · exact parsed_bounded (d := decodeChannel) (f := .channel) (fun _ _ _ => trivial) h
    · exact parsed_bounded (d := decodeGroup) (f := .group) (fun _ _ _ => trivial) h
    · exact parsed_bounded (d := decodeTracker) (f := .tracker) (fun _ _ _ => trivial) h
    · exact parsed_bounded (d := decodePlan) (f := .plan) (fun _ _ => decodePlan_bounded) h
    · exact parsed_bounded (d := decodeBand) (f := .band) (fun _ _ _ => trivial) h
    · exact parsed_bounded (d := decodeSignature) (f := .signature) (fun _ _ => decodeSignature_bounded) h
    · cases h

/-- R162: content that breaks no rule is kept as an entry that obeys its table's rules. -/
theorem keptEntry_fits {s : State} {w : RawWrite} (hb : ¬ BadContent s w) (hn : w.Bounded) :
    EntryFits s.tables (keptEntry w) := by
  cases w with
  | general r =>
    simp only [BadContent, not_or] at hb
    simp only [RawWrite.Bounded] at hn
    exact ⟨show r.station < 65535 by omega, Nat.min_le_left _ _⟩
  | source i r =>
    simp only [BadContent, not_or] at hb
    obtain ⟨h1, h2, h3, h4, _, h6, _⟩ := hb
    refine ⟨⟨⟨show 1 ≤ r.sourceId by omega, show r.sourceId ≤ 65534 by omega⟩,
      ⟨show 1 ≤ r.channelCount by omega, show r.channelCount ≤ 8 by omega⟩,
      ⟨Nat.le_max_left _ _, max_le (by omega) (Nat.min_le_left _ _)⟩,
      ⟨Nat.le_max_left _ _, max_le (by omega) (Nat.min_le_left _ _)⟩⟩, ?_⟩
    exact fun he j hj hen hid => h6 ⟨he, j, hj, hen, hid⟩
  | channel c r => trivial
  | group g r =>
    simp only [BadContent, not_or] at hb
    exact ⟨show r.pulse = 6 ∨ r.pulse = 12 ∨ r.pulse = 24 by omega, Nat.min_le_left _ _,
      Nat.min_le_left _ _, Nat.min_le_left _ _, Nat.min_le_left _ _, Nat.min_le_left _ _⟩
  | tracker i r =>
    simp only [BadContent, not_or] at hb
    obtain ⟨⟨hp, _⟩, ⟨hq, _⟩, h3, h4, _, h6, h7⟩ := hb
    refine ⟨Nat.min_le_left _ _, ⟨Nat.le_max_left _ _, max_le (by omega) (Nat.min_le_left _ _)⟩,
      ⟨show 47000 ≤ r.fixedFrequency by omega, show r.fixedFrequency ≤ 53000 by omega⟩, ?_⟩
    change (referenceNamed r.secondary).isSome = true → (referenceNamed r.primary).isSome = true
      ∧ referenceNamed r.secondary ≠ referenceNamed r.primary
    rw [referenceNamed_some, referenceNamed_some, ne_eq (referenceNamed _), referenceNamed_inj hq hp]
    exact fun hs => ⟨fun h => h3 ⟨h, hs⟩, fun h => h4 ⟨hs, h⟩⟩
  | plan c r =>
    obtain ⟨hh, hl⟩ := hn
    simp only [BadContent, not_or] at hb
    obtain ⟨h1, h2, h3, _, _⟩ := hb
    refine ⟨hh, ⟨Nat.le_max_left _ _, max_le (by omega) (Nat.min_le_left _ _)⟩,
      ⟨Nat.le_max_left _ _, max_le (by omega) (Nat.min_le_left _ _)⟩, ?_, ?_, ?_⟩
    · exact (List.length_map _).trans_le (Nat.not_lt.mp h1)
    · intro b hb
      obtain ⟨x, hx, rfl⟩ := List.mem_map.mp hb
      have hk : ¬ (x.k < 1 ∨ 1200 < x.k ∨ 3 < x.cls) := fun h => h2 ⟨x, hx, h⟩
      exact ⟨⟨show 1 ≤ x.k by omega, show x.k ≤ 1200 by omega⟩, hl x hx⟩
    · rw [List.map_map]
      exact not_not.mp h3
  | band b r =>
    simp only [BadContent, not_or] at hb
    exact ⟨show 1 ≤ r.low by omega, show r.low ≤ r.high by omega, show r.high ≤ 6400 by omega,
      Nat.min_le_left _ _⟩
  | signature i r =>
    simp only [RawWrite.Bounded] at hn
    simp only [BadContent, not_or] at hb
    obtain ⟨_, h2, h3, h4, h5, h6⟩ := hb
    have hlen : (r.bins.insertionSort (· ≤ ·)).length = r.bins.length := List.length_insertionSort _ _
    refine ⟨⟨?_, ?_⟩, fun k hk => ?_, (insertionSort_pairwise_lt _).mpr (not_not.mp h5), ⟨?_, hn⟩⟩
    · exact hlen ▸ Nat.not_lt.mp h2
    · exact hlen ▸ Nat.not_lt.mp h3
    · have hk' : ¬ (k < 1 ∨ 1200 < k) := fun h => h4 ⟨k, (List.mem_insertionSort _).mp hk, h⟩
      exact ⟨by omega, by omega⟩
    · exact Nat.pos_of_ne_zero h6

/-- R7, R23, R36, R95: content that breaks no rule agrees with the other tables. -/
theorem keptEntry_agrees {s : State} {w : RawWrite} (hb : ¬ BadContent s w) :
    EntryAgrees s.tables (keptEntry w) := by
  cases w with
  | source i r =>
    simp only [BadContent, not_or] at hb
    obtain ⟨_, _, _, _, _, _, h7⟩ := hb
    exact fun c he hi => Nat.lt_of_not_le fun h => h7 ⟨c, he, hi, h⟩
  | channel c r =>
    simp only [BadContent, not_or] at hb
    obtain ⟨h1, h2, h3, h4, h5, h6, h7⟩ := hb
    have hsrc : r.source < 8 := by omega
    have hslot : r.slot < 8 := by omega
    refine ⟨fun he => ?_, fun i role hr => ?_, fun hk b hbin h10 => ?_⟩
    · change r.slot % 8 < _
      rw [Nat.mod_eq_of_lt hslot]
      exact Nat.lt_of_not_le fun h => h5 ⟨he, Fin.ofNat 8 r.source, Nat.mod_eq_of_lt hsrc, h⟩
    · have h0 : r.kind = 0 := by
        by_contra h0
        exact h6 ⟨h0, i, by cases role with | primary => exact .inl hr | secondary => exact .inr hr⟩
      change kindNamed r.kind = _
      rw [h0]
      rfl
    · exact h7 ⟨(kindNamed_isAC (by omega)).mp hk, b, hbin, h10⟩
  | tracker i r =>
    simp only [BadContent, not_or] at hb
    obtain ⟨⟨_, hp⟩, ⟨_, hq⟩, _⟩ := hb
    have hn : ∀ {n : Nat} {c : Fin 16}, ¬ (15 < n ∧ n ≠ 255) → referenceNamed n = some c → c.val = n := by
      intro n c hn h
      unfold referenceNamed at h
      split at h
      · cases h
      · cases h
        exact Nat.mod_eq_of_lt (by omega)
    intro role c hr
    by_contra hk
    cases role with
    | primary => exact hp ⟨c, hn ‹_› hr, hk⟩
    | secondary => exact hq ⟨c, hn ‹_› hr, hk⟩
  | plan c r =>
    simp only [BadContent, not_or] at hb
    obtain ⟨_, _, _, _, h5⟩ := hb
    intro hk b hbin h10
    obtain ⟨x, hx, rfl⟩ := List.mem_map.mp hbin
    refine h5 ⟨⟨x, hx, h10⟩, ?_⟩
    cases hkind : s.tables.channels[c].kind with
    | acVoltage => exact .inl rfl
    | acCurrent => exact .inr rfl
    | dcVoltage => rw [hkind] at hk; cases hk
    | dcCurrent => rw [hkind] at hk; cases hk
  | general r => trivial
  | group g r => trivial
  | band b r => trivial
  | signature i r => trivial

end Sys2Proof.Machine

namespace Sys2Proof.Machine
open Sys2Proof.Claims

/-! ### Repair (R171) -/

theorem repair_channel (t : Tables) (c : Fin 16) :
    (repair t).channels[c] = repairChannel t t.channels[c] := by simp [repair]

theorem repair_plan (t : Tables) (c : Fin 16) :
    (repair t).plans[c] = repairPlan (repair t).channels[c].kind t.plans[c] := by simp [repair]

/-- The tables with their channels repaired, against which the tracker entries are repaired. -/
def channelsRepaired (t : Tables) : Tables :=
  { t with channels := Vector.ofFn fun c => repairChannel t t.channels[c] }

theorem repair_tracker (t : Tables) (i : Fin 2) :
    (repair t).trackers[i] = repairTracker (channelsRepaired t) t.trackers[i] := by
  simp [repair, channelsRepaired]

theorem repairChannel_slot {t : Tables} {e x : ChannelEntry} (hx : x = repairChannel t e)
    (h : x.enabled = true) : x.slot.val < t.sources[x.source].channelCount := by
  unfold repairChannel at hx
  split at hx
  · rw [hx] at h
    cases h
  · next hc =>
    subst hx
    simp only [h, Bool.true_and, decide_eq_true_eq] at hc
    omega

/-- R171: what is left of the references of a tracker entry after repair. -/
theorem repairTracker_reference {t : Tables} {e : TrackerEntry} {r : Role} {c : Fin 16}
    (h : (repairTracker t e).reference r = some c) :
    e.reference r = some c ∧ t.badReference (some c) = false := by
  unfold repairTracker at h
  cases hp : t.badReference e.primary with
  | true =>
    have hn : t.badReference none = false := rfl
    cases r <;> simp [hp, hn, TrackerEntry.reference] at h
  | false =>
    cases r with
    | primary =>
      have hc : e.primary = some c := by
        simp only [hp, Bool.false_eq_true, if_false] at h
        split at h <;> exact h
      exact ⟨hc, hc ▸ hp⟩
    | secondary =>
      simp only [hp, Bool.false_eq_true, if_false] at h
      split at h
      · cases h
      · next hs =>
        simp only [Bool.or_eq_true, not_or, Bool.not_eq_true] at hs
        have hc : e.secondary = some c := h
        exact ⟨hc, hc ▸ hs.1⟩

theorem repairTracker_legal {t : Tables} {e : TrackerEntry} (h : e.legal) : (repairTracker t e).legal := by
  obtain ⟨h1, h2, h3, h4⟩ := h
  unfold repairTracker
  dsimp only
  split
  · split
    · exact ⟨h1, h2, h3, by simp⟩
    · exact ⟨h1, h2, h3, by simp⟩
  · split
    · exact ⟨h1, h2, h3, by simp⟩
    · exact ⟨h1, h2, h3, h4⟩

theorem repairPlan_legal {k : Kind} {p : PlanRow} (h : p.legal) : (repairPlan k p).legal := by
  obtain ⟨h1, h2, h3, h4, h5, h6⟩ := h
  unfold repairPlan
  split
  · exact ⟨h1, h2, h3, h4, h5, h6⟩
  · exact ⟨h1, h2, h3, (List.length_filter_le _ _).trans h4,
      fun b hb => h5 b (List.mem_of_mem_filter hb), h6.sublist (List.filter_sublist.map _)⟩

theorem repair_image (t : Tables) {id : TableId} (h1 : id ≠ .channels) (h2 : id ≠ .trackers)
    (h3 : id ≠ .plans) : (repair t).image id = t.image id := by
  cases id with
  | channels => exact absurd rfl h1
  | trackers => exact absurd rfl h2
  | plans => exact absurd rfl h3
  | general | sources | groups | bands | signatures => simp only [Tables.image, repair]

theorem repair_legal {t : Tables} (h : t.legal) : (repair t).legal := by
  intro id
  cases id with
  | trackers =>
    intro i
    change ((repair t).trackers[i]).legal
    rw [repair_tracker]
    exact repairTracker_legal (h .trackers i)
  | plans =>
    intro c
    change ((repair t).plans[c]).legal
    rw [repair_plan]
    exact repairPlan_legal (h .plans c)
  | channels => trivial
  | general | sources | groups | bands | signatures =>
    rw [repair_image t (by simp) (by simp) (by simp)]
    exact h _

theorem repair_consistent (t : Tables) : (repair t).consistent := by
  refine ⟨fun c hc => ?_, fun i r c hr => ?_, fun c hk b hb => ?_⟩
  · exact repairChannel_slot (repair_channel t c) hc
  · rw [repair_tracker] at hr
    have hb := (repairTracker_reference hr).2
    have hc : (channelsRepaired t).channels[c] = (repair t).channels[c] := by
      simp [repair, channelsRepaired]
    rw [← hc]
    simpa [Tables.badReference] using hb
  · rw [repair_plan, repairPlan, hk] at hb
    simpa using (List.mem_filter.mp hb).2

/-! ### The entries a RESTORE changes (R170) -/

/-- The entry of the tables at the place a write names. -/
def entryAt (t : Tables) : EntryWrite → EntryWrite
  | .general _ => .general t.general
  | .source i _ => .source i t.sources[i]
  | .channel i _ => .channel i t.channels[i]
  | .group i _ => .group i t.groups[i]
  | .tracker i _ => .tracker i t.trackers[i]
  | .plan i _ => .plan i t.plans[i]
  | .band i _ => .band i t.bands[i]
  | .signature i _ => .signature i t.signatures[i]

/-- The table of the entry a write names. -/
def tableAt : EntryWrite → TableId
  | .general _ => .general
  | .source _ _ => .sources
  | .channel _ _ => .channels
  | .group _ _ => .groups
  | .tracker _ _ => .trackers
  | .plan _ _ => .plans
  | .band _ _ => .bands
  | .signature _ _ => .signatures

theorem entryAt_entryAt (t u : Tables) (w : EntryWrite) : entryAt t (entryAt u w) = entryAt t w := by
  cases w <;> rfl

theorem tables_ext {t u : Tables} (h : ∀ w, entryAt t w = entryAt u w) : t = u := by
  have hv : ∀ {α : Type} {n : Nat} {v v' : Vector α n}, (∀ i : Fin n, v[i] = v'[i]) → v = v' :=
    fun h => Vector.ext fun i hi => h ⟨i, hi⟩
  have e1 : t.general = u.general := by simpa [entryAt] using h (.general t.general)
  have e2 : t.sources = u.sources := hv fun i => by simpa [entryAt] using h (.source i t.sources[i])
  have e3 : t.channels = u.channels := hv fun i => by simpa [entryAt] using h (.channel i t.channels[i])
  have e4 : t.groups = u.groups := hv fun i => by simpa [entryAt] using h (.group i t.groups[i])
  have e5 : t.trackers = u.trackers := hv fun i => by simpa [entryAt] using h (.tracker i t.trackers[i])
  have e6 : t.plans = u.plans := hv fun i => by simpa [entryAt] using h (.plan i t.plans[i])
  have e7 : t.bands = u.bands := hv fun i => by simpa [entryAt] using h (.band i t.bands[i])
  have e8 : t.signatures = u.signatures :=
    hv fun i => by simpa [entryAt] using h (.signature i t.signatures[i])
  cases t
  cases u
  cases e1; cases e2; cases e3; cases e4; cases e5; cases e6; cases e7; cases e8
  rfl

theorem entryAt_replaced_same (t : Tables) (w : EntryWrite) : entryAt (replaced t w) w = w := by
  cases w <;> simp [entryAt, replaced]

theorem entryAt_replaced_other {t : Tables} {v w : EntryWrite} (h : tableAt v ≠ tableAt w) :
    entryAt (replaced t v) w = entryAt t w := by
  cases v <;> cases w <;> first | exact absurd rfl h | rfl

theorem putAt_agrees {α : Type} {n : Nat} {v u : Vector α n} {i j : Fin n} (h : v[j] = u[j]) :
    (putAt v i u[i])[j] = u[j] := by
  rw [putAt_get]
  split
  · next hj => rw [hj]
  · exact h

/-- A write of the entry that `new` holds at its place keeps the entries that are already as in `new`. -/
theorem entryAt_replaced {t new : Tables} {v w : EntryWrite} (hv : v = entryAt new v)
    (hw : entryAt t w = entryAt new w) : entryAt (replaced t v) w = entryAt new w := by
  by_cases hvw : tableAt v = tableAt w
  · rw [hv]
    cases w with
    | general e =>
      cases v <;> cases hvw
      rfl
    | source j e =>
      cases v <;> cases hvw
      exact congrArg (EntryWrite.source j) (putAt_agrees (EntryWrite.source.inj hw).2)
    | channel j e =>
      cases v <;> cases hvw
      exact congrArg (EntryWrite.channel j) (putAt_agrees (EntryWrite.channel.inj hw).2)
    | group j e =>
      cases v <;> cases hvw
      exact congrArg (EntryWrite.group j) (putAt_agrees (EntryWrite.group.inj hw).2)
    | tracker j e =>
      cases v <;> cases hvw
      exact congrArg (EntryWrite.tracker j) (putAt_agrees (EntryWrite.tracker.inj hw).2)
    | plan j e =>
      cases v <;> cases hvw
      exact congrArg (EntryWrite.plan j) (putAt_agrees (EntryWrite.plan.inj hw).2)
    | band j e =>
      cases v <;> cases hvw
      exact congrArg (EntryWrite.band j) (putAt_agrees (EntryWrite.band.inj hw).2)
    | signature j e =>
      cases v <;> cases hvw
      exact congrArg (EntryWrite.signature j) (putAt_agrees (EntryWrite.signature.inj hw).2)
  · rw [entryAt_replaced_other hvw, hw]

/-- Writes of entries of `new`, one after another, leave every entry as in `new` that was so before or that one
of them names. -/
theorem entryAt_foldl {new : Tables} {ws : List EntryWrite} (hws : ∀ v ∈ ws, v = entryAt new v)
    {t : Tables} {w : EntryWrite} (h : entryAt t w = entryAt new w ∨ entryAt new w ∈ ws) :
    entryAt (ws.foldl replaced t) w = entryAt new w := by
  induction ws generalizing t with
  | nil => simpa using h
  | cons v ws ih =>
    have hv := hws v List.mem_cons_self
    refine ih (fun x hx => hws x (List.mem_cons_of_mem _ hx)) ?_
    obtain h | h := h
    · exact .inl (entryAt_replaced hv h)
    · obtain rfl | h := List.mem_cons.mp h
      · left
        have := entryAt_replaced_same t (entryAt new w)
        rwa [entryAt_entryAt] at this
      · exact .inr h

/-- The table of an entry is the one whose entries `changedEntries` compares. -/
theorem changedEntries_current {old new : Tables} {id : TableId} {w : EntryWrite}
    (h : w ∈ changedEntries old new id) : w = entryAt new w := by
  cases id <;> simp only [changedEntries, List.mem_map] at h
  case general =>
    split at h
    · cases h
    · rw [List.mem_singleton.mp h]
      rfl
  all_goals
    obtain ⟨i, _, rfl⟩ := h
    rfl

theorem mem_changedEntries {old new : Tables} {w : EntryWrite} (h : entryAt old w ≠ entryAt new w) :
    entryAt new w ∈ changedEntries old new (tableAt w) := by
  have hm : ∀ {α : Type} [DecidableEq α] {n : Nat} {v u : Vector α n} {i : Fin n} (f : Fin n → EntryWrite),
      v[i] ≠ u[i] → f i ∈ ((List.finRange n).filter fun i => v[i] != u[i]).map f := by
    intro α _ n v u i f h
    exact List.mem_map.mpr ⟨i, List.mem_filter.mpr ⟨List.mem_finRange i, bne_iff_ne.mpr h⟩, rfl⟩
  cases w with
  | general e =>
    have h' : old.general ≠ new.general := fun e => h (congrArg EntryWrite.general e)
    simp [changedEntries, tableAt, entryAt, h']
  | source i e => exact hm (fun i => .source i new.sources[i]) fun e => h (congrArg (EntryWrite.source i) e)
  | channel i e =>
    exact hm (fun i => .channel i new.channels[i]) fun e => h (congrArg (EntryWrite.channel i) e)
  | group i e => exact hm (fun i => .group i new.groups[i]) fun e => h (congrArg (EntryWrite.group i) e)
  | tracker i e =>
    exact hm (fun i => .tracker i new.trackers[i]) fun e => h (congrArg (EntryWrite.tracker i) e)
  | plan i e => exact hm (fun i => .plan i new.plans[i]) fun e => h (congrArg (EntryWrite.plan i) e)
  | band i e => exact hm (fun i => .band i new.bands[i]) fun e => h (congrArg (EntryWrite.band i) e)
  | signature i e =>
    exact hm (fun i => .signature i new.signatures[i]) fun e => h (congrArg (EntryWrite.signature i) e)

theorem mem_restoreWrites {old new : Tables} {id : TableId} {w : EntryWrite} :
    w ∈ restoreWrites old new id ↔ ∃ u, w ∈ changedEntries old new u := by
  unfold restoreWrites
  rw [List.mem_append, List.mem_flatMap]
  constructor
  · rintro (h | ⟨u, _, h⟩)
    · exact ⟨id, h⟩
    · exact ⟨u, h⟩
  · rintro ⟨u, h⟩
    by_cases hu : u = id
    · exact .inl (hu ▸ h)
    · have ha : u ∈ allTables := by cases u <;> simp [allTables]
      exact .inr ⟨u, List.mem_filter.mpr ⟨ha, bne_iff_ne.mpr hu⟩, h⟩

/-- R170: the entries a RESTORE changes make the tables what it made of them. -/
theorem foldl_restoreWrites (old new : Tables) (id : TableId) :
    (restoreWrites old new id).foldl replaced old = new := by
  refine tables_ext fun w => entryAt_foldl (fun v hv => ?_) ?_
  · obtain ⟨u, hu⟩ := mem_restoreWrites.mp hv
    exact changedEntries_current hu
  · by_cases h : entryAt old w = entryAt new w
    · exact .inl h
    · exact .inr (mem_restoreWrites.mpr ⟨_, mem_changedEntries h⟩)

/-! ### Every step -/

theorem applyRestored_frame (w : EntryWrite) (s : State) : (applyRestored w s).tables = replaced s.tables w
    ∧ (applyRestored w s).store = s.store ∧ (applyRestored w s).opState = s.opState :=
  have h := (applyRestored_talks (a := False) w s).apart
  ⟨h.tables, h.store, h.opState⟩

theorem foldl_applyRestored_frame (ws : List EntryWrite) (s : State) :
    let t := ws.foldl (fun s w => applyRestored w s) s
    t.tables = ws.foldl replaced s.tables ∧ t.store = s.store ∧ t.opState = s.opState := by
  induction ws generalizing s with
  | nil => exact ⟨rfl, rfl, rfl⟩
  | cons w ws ih =>
    obtain ⟨h1, h2, h3⟩ := applyRestored_frame w s
    obtain ⟨e1, e2, e3⟩ := ih (applyRestored w s)
    exact ⟨e1.trans (congrArg (ws.foldl replaced) h1), e2.trans h2, e3.trans h3⟩

/-- R170, R171: a RESTORE leaves the tables copied and repaired. -/
theorem restoreCompletes_frame (id : TableId) (s : State) :
    (restoreCompletes id s).tables = repair (s.restored id)
      ∧ (restoreCompletes id s).store.images = s.store.images
      ∧ ∀ b, (restoreCompletes id s).store.op ≠ .storing b := by
  obtain ⟨h1, h2, h3⟩ := foldl_applyRestored_frame (restoreWrites s.tables (repair (s.restored id)) id) s
  rw [foldl_restoreWrites] at h1
  have h := commandRelease_holds (onStore (fun st => { st with
    op := .idle
    outcome := .doneOk (some id) (some (repairedCount (s.restored id) (repair (s.restored id)))) })
    ((restoreWrites s.tables (repair (s.restored id)) id).foldl (fun s w => applyRestored w s) s))
  have hi := congrArg SettingsStore.images h2
  refine ⟨h.tables.trans h1, h.images.trans hi, fun b hb => ?_⟩
  exact StoreOp.noConfusion (h.buffer b hb)

theorem Holds.tablesLegal {s t : State} (h : Holds s t) (hs : TablesLegal s) : TablesLegal t := by
  obtain ⟨ht, hi, hb, hc⟩ := hs
  exact ⟨h.tables ▸ ht, h.images ▸ hi, fun b hop => hb b (h.buffer b hop), fun hl => by
    rw [h.tables]
    exact hc (h.opState ▸ hl)⟩

theorem requested_legal {t : Tables} (h : t.legal) (i : Fin 2) (m : RequestedMode) {f : Nat}
    (h1 : 47000 ≤ f) (h2 : f ≤ 53000) :
    (replaced t (.tracker i { t.trackers[i] with mode := m, fixedFrequency := f })).legal := by
  obtain ⟨e1, e2, _, e4⟩ := h .trackers i
  exact replaced_legal h ⟨e1, e2, ⟨h1, h2⟩, e4⟩

theorem requested_consistent {t : Tables} (h : t.consistent) (i : Fin 2) (m : RequestedMode) (f : Nat) :
    (replaced t (.tracker i { t.trackers[i] with mode := m, fixedFrequency := f })).consistent :=
  replaced_consistent h fun r c hr => h.2.1 i r c (by cases r <;> exact hr)

theorem forall_replicate {α : Type} {n : Nat} {p : α → Prop} {x : α} (h : p x) (i : Fin n) :
    p (Vector.replicate n x)[i] := by
  rw [Fin.getElem_fin, Vector.getElem_replicate]
  exact h

/-- R166: the factory defaults keep the rules of their tables. -/
theorem factoryDefaults_legal : factoryTables.legal := by
  intro id
  cases id with
  | general => exact ⟨by decide, by decide⟩
  | sources =>
    refine ⟨forall_replicate (p := SourceEntry.legal) ?_, fun i _ _ hi => ?_⟩
    · unfold SourceEntry.legal within
      decide
    · exact absurd hi (forall_replicate (p := fun e : SourceEntry => ¬ e.enabled = true) (by decide) i)
  | channels => trivial
  | groups => exact forall_replicate (p := GroupEntry.legal) (by unfold GroupEntry.legal; decide)
  | trackers =>
    exact forall_replicate (p := TrackerEntry.legal) (by unfold TrackerEntry.legal within; decide)
  | plans => exact forall_replicate (p := PlanRow.legal) (by unfold PlanRow.legal within; decide)
  | bands => exact forall_replicate (p := BandEntry.legal) (by unfold BandEntry.legal; decide)
  | signatures =>
    exact forall_replicate (p := SignatureEntry.legal) (by unfold SignatureEntry.legal within; decide)

theorem loadImage_legal {s : State} (h : s.store.images.legal) (id : TableId) : (s.loadImage id).legal := by
  unfold State.loadImage
  split
  · exact h id
  · exact factoryDefaults_legal id

theorem applyWrite_tablesLegal {s : State} {params : List Byte} {raw : RawWrite} {w : EntryWrite}
    {clamped : Bool} (hs : TablesLegal s) (hl : s.opState ≠ .loading) (hp : parseWrite params = some raw)
    (hj : judge s raw = .ok (w, clamped)) : TablesLegal (applyWrite w s) := by
  obtain ⟨hb, rfl⟩ := judge_ok hj
  obtain ⟨ht, hi, hop, hc⟩ := hs
  refine ⟨?_, ?_, ?_, fun _ => ?_⟩
  · rw [applyWrite_tables]
    exact replaced_legal ht (keptEntry_fits hb (parseWrite_bounded hp))
  · rw [applyWrite_store]
    exact hi
  · rw [applyWrite_store]
    exact hop
  · rw [applyWrite_tables]
    exact replaced_consistent (hc hl) (keptEntry_agrees hb)

theorem restartBlocks_tablesLegal {s : State} (hs : s.store.images.legal) :
    TablesLegal (restartBlocks s) :=
  ⟨factoryDefaults_legal, hs, fun _ h => StoreOp.noConfusion h, fun h => absurd rfl h⟩

theorem Effect.tablesLegal {s t : State} (h : Effect s t) (hs : TablesLegal s) : TablesLegal t := by
  have himg := hs.2.1
  cases h with
  | keeps h => exact h.tablesLegal hs
  | wrote _ _ w _ hl hu hp hj ht =>
    exact ht.tablesLegal (applyWrite_tablesLegal (hu.tablesLegal hs) (hu.opState ▸ hl) hp hj)
  | requested i m f hl hu h1 h2 ht =>
    obtain ⟨htab, hi, hop, hc⟩ := hu.tablesLegal hs
    refine ht.tablesLegal ⟨requested_legal htab i m h1 h2, hi, hop, fun _ => ?_⟩
    exact requested_consistent (hc (hu.opState ▸ hl)) i m f
  | analysis o hl ho hu ht =>
    obtain ⟨htab, hi, hop, hc⟩ := hu.tablesLegal hs
    exact ht.tablesLegal ⟨htab, hi, hop, fun _ => hc (hu.opState ▸ hl)⟩
  | storing id hl hu ht =>
    obtain ⟨htab, hi, _, hc⟩ := hu.tablesLegal hs
    refine ht.tablesLegal ⟨htab, hi, fun b hb => ?_, hc⟩
    cases hb
    exact htab id
  | programmed img f hop himages hidle =>
    obtain ⟨htab, hi, hb, hc⟩ := hs
    refine ⟨htab, ?_, fun b h => ?_, hc⟩
    · exact himages ▸ setImage_legal hi (hb img hop)
    · rw [show (onStore f s).store.op = (f s.store).op from rfl, hidle] at h
      cases h
  | restored id ts _ =>
    obtain ⟨h1, h2, h3⟩ := restoreCompletes_frame id { s with ties := ts }
    obtain ⟨htab, hi, _, _⟩ := hs
    have hcopied : (s.restored id).legal := setImage_legal htab (hi id)
    refine ⟨?_, ?_, fun b h => ?_, fun _ => ?_⟩
    · exact h1 ▸ repair_legal hcopied
    · exact h2 ▸ hi
    · exact absurd h (h3 b)
    · exact h1 ▸ repair_consistent _
  | copied id hl _ ht =>
    obtain ⟨htab, hi, hb, _⟩ := hs
    exact ht.tablesLegal ⟨setImage_legal htab (loadImage_legal hi id), hi, hb, fun h => absurd hl h⟩
  | loaded ts _ _ ht =>
    obtain ⟨htab, hi, hb, _⟩ := hs
    exact ht.tablesLegal ⟨repair_legal htab, hi, hb, fun _ => repair_consistent _⟩
  | restartedByPower => exact restartBlocks_tablesLegal himg
  | restartedByCommand => exact restartBlocks_tablesLegal himg

/-- Settles O5: a write is judged by its table's rules and by what the other tables require, and the load and a
RESTORE repair what they copy. -/
theorem tablesStayLegal : Obligations.TablesStayLegal := by
  intro s t hs h
  obtain rfl | ⟨rest, he⟩ := step_effect h
  · exact hs
  · exact he.tablesLegal hs

end Sys2Proof.Machine

namespace Sys2Proof.Machine
open Sys2Proof.Claims

/-! ## What trackers report, and what becomes of them (R42 to R51) -/

/-! ### Reports leave the fault unit grown -/

/-- No flag of the fault summary has been cleared, and a held fault record is held still. -/
def FaultGrows (s t : State) : Prop :=
  (∀ i : Fin 12, s.fault.summary[i] = true → t.fault.summary[i] = true)
    ∧ ∀ r, s.fault.record = some r → t.fault.record = some r

theorem FaultGrows.of_fault {s t : State} (h : t.fault = s.fault) : FaultGrows s t :=
  ⟨fun _ => h ▸ id, fun _ => h ▸ id⟩

theorem FaultGrows.trans {s t u : State} (h : FaultGrows s t) (k : FaultGrows t u) : FaultGrows s u :=
  ⟨fun i => k.1 i ∘ h.1 i, fun r => k.2 r ∘ h.2 r⟩

theorem putAt_flag {v : Vector Bool 12} (i j : Fin 12) (h : v[j] = true) : (putAt v i true)[j] = true := by
  rw [putAt_get]
  split
  · rfl
  · exact h

theorem noteFault_grows (k : FaultKind) (s : State) : FaultGrows s (noteFault k s) :=
  ⟨fun j => putAt_flag k.index j, fun _ => id⟩

theorem Talks.faultGrows {Q : State → State → Prop} {a : Prop} (hQ : ∀ s t, Q s t → t.fault = s.fault)
    {s t : State} (h : Talks Q a s t) : FaultGrows s t := by
  have hk : ∀ (l : Line) (s : State), (kick l s).fault = s.fault := fun l s => by
    obtain ⟨o, r, e⟩ := kick_frame l s
    rw [e]
    cases l <;> rfl
  induction h with
  | refl => exact .of_fault rfl
  | quietly _ hw ih => exact ih.trans (.of_fault (hQ _ _ hw))
  | offered _ _ ih => exact ih.trans (.of_fault (hk _ _))
  | @dropCounted t d _ ih => exact ih.trans (.of_fault (by cases d <;> rfl))
  | noted k _ _ ih => exact ih.trans (noteFault_grows k _)
  | filled k n d _ hn _ ih =>
    exact ih.trans ⟨fun j => putAt_flag k.index j, fun r hr => by rw [hn] at hr; cases hr⟩
  | answered c st res _ _ _ ih =>
    refine ih.trans (.of_fault ((hk _ _).trans ?_))
    cases c.line <;> rfl

theorem Reported.of_grows {k : FaultKind} {s t u : State} (h : FaultGrows s t) (hr : Reported k t u) :
    Reported k s u := by
  obtain ⟨h1, h2⟩ := hr
  refine ⟨h1, ?_⟩
  cases hs : s.fault.record with
  | some r =>
    rw [h.2 r hs] at h2
    exact h2
  | none =>
    cases ht : t.fault.record with
    | some r =>
      rw [ht] at h2
      rw [h2]
      rfl
    | none =>
      rw [ht] at h2
      exact h2

theorem Reported.grows {k : FaultKind} {s t u : State} (hr : Reported k s t) (h : FaultGrows t u) :
    Reported k s u := by
  obtain ⟨h1, h2⟩ := hr
  refine ⟨h.1 _ h1, ?_⟩
  cases hs : s.fault.record with
  | some r =>
    rw [hs] at h2
    exact h.2 r h2
  | none =>
    rw [hs] at h2
    obtain ⟨r, hr⟩ := Option.isSome_iff_exists.mp h2
    rw [h.2 r hr]
    rfl

theorem offerWhileHeld_grows (r : OutRecord) (s : State) : FaultGrows s (offerWhileHeld r s) :=
  (offerWhileHeld_talks (Q := Eq) (a := False) r s).faultGrows fun _ _ h => by rw [h]

theorem offerRecord_grows (r : OutRecord) (s : State) : FaultGrows s (offerRecord r s) :=
  (offerRecord_talks (Q := Eq) (a := False) r s).faultGrows fun _ _ h => by rw [h]

theorem offerAlarm_grows (c : Cause) (s : State) : FaultGrows s (offerAlarm c s) :=
  offerRecord_grows _ s

theorem Within.fault {s t : State} (h : Within s t) : t.fault = s.fault := h.beside.fault

theorem Talks.grows {a : Prop} {s t : State} (h : Talks Within a s t) : FaultGrows s t :=
  h.faultGrows fun _ _ h => h.fault

theorem reportFault_reported (k : FaultKind) (n : Nat) (d : FaultDetail) (s : State) :
    Reported k s (reportFault k n d s) := by
  cases hr : s.fault.record with
  | some r =>
    rw [reportFault_held hr]
    exact ⟨putAt_same _ _ _, by rw [hr]; exact hr⟩
  | none =>
    rw [reportFault_empty hr]
    refine Reported.grows (t := fillFault k n d s) ⟨putAt_same _ _ _, by rw [hr]; rfl⟩ ?_
    exact offerWhileHeld_grows _ _

theorem reportFault_grows (k : FaultKind) (n : Nat) (d : FaultDetail) (s : State) :
    FaultGrows s (reportFault k n d s) := by
  obtain ⟨_, h2⟩ := reportFault_reported k n d s
  cases hr : s.fault.record with
  | some r =>
    rw [reportFault_held hr]
    exact noteFault_grows k s
  | none =>
    rw [reportFault_empty hr]
    have hf : FaultGrows s (fillFault k n d s) :=
      ⟨fun j => putAt_flag k.index j, fun r h => by rw [hr] at h; cases h⟩
    exact hf.trans (offerWhileHeld_grows _ _)

/-! ### Records offered where there is room -/

/-- The record queue and line B's output side stand as after some records have been offered to a queue with room
for them (R123, R128). -/
def Offered (rs : List OutRecord) (s t : State) : Prop :=
  t.records = (joined rs s).records ∧ t.lineB = (joined rs s).lineB

theorem Offered.of_same {s t : State} (hr : t.records = s.records) (hb : t.lineB = s.lineB) :
    Offered [] s t := by
  unfold Offered joined
  split
  · exact ⟨hr.trans (List.append_nil _).symm, hb⟩
  · exact ⟨hr, hb⟩

theorem joined_eq_of_same {s t : State} (hr : t.records = s.records) (hb : t.lineB = s.lineB)
    (rs : List OutRecord) :
    (joined rs t).records = (joined rs s).records ∧ (joined rs t).lineB = (joined rs s).lineB := by
  unfold joined
  rw [hb]
  split
  · exact ⟨congrArg (· ++ rs) hr, rfl⟩
  · cases rs with
    | nil => exact ⟨hr, hb⟩
    | cons r rs => exact ⟨congrArg (· ++ rs) hr, rfl⟩

theorem Offered.congr {rs : List OutRecord} {s s' t t' : State} (h : Offered rs s t)
    (hs : s.records = s'.records ∧ s.lineB = s'.lineB) (ht : t'.records = t.records ∧ t'.lineB = t.lineB) :
    Offered rs s' t' := by
  obtain ⟨e1, e2⟩ := joined_eq_of_same hs.1 hs.2 rs
  exact ⟨(ht.1.trans h.1).trans e1, (ht.2.trans h.2).trans e2⟩

theorem Offered.trans {as bs : List OutRecord} {s t u : State} (h : Offered as s t)
    (k : Offered bs t u) : Offered (as ++ bs) s u := by
  have hc := joined_eq_of_same (s := joined as s) h.1 h.2 bs
  have hj : (joined bs (joined as s)).records = (joined (as ++ bs) s).records
      ∧ (joined bs (joined as s)).lineB = (joined (as ++ bs) s).lineB := by
    by_cases hb : s.lineB.sending.isSome = true
    · simp [joined, hb]
    · cases as with
      | nil => simp [joined, hb]
      | cons r rest => simp [joined, hb]
  exact ⟨(k.1.trans hc.1).trans hj.1, (k.2.trans hc.2).trans hj.2⟩

theorem Offered.length {rs : List OutRecord} {s t : State} (h : Offered rs s t) :
    t.records.length ≤ s.records.length + rs.length := by
  rw [h.1]
  unfold joined
  split
  · simp
  · cases rs with
    | nil => simp
    | cons r rest => simp

theorem Offered.settled {rs : List OutRecord} {s t : State} (h : Offered rs s t)
    (hs : LineSettled .b s) : LineSettled .b t := by
  obtain ⟨hr, hb⟩ := h
  intro hn
  change t.lineB.sending = none at hn
  change t.lineB.forward = [] ∧ t.lineB.replies = [] ∧ t.records = []
  rw [hb] at hn
  rw [hr, hb]
  unfold joined at hn ⊢
  split at hn
  · next hsome =>
    rw [hn] at hsome
    cases hsome
  · next hsome =>
    cases rs with
    | nil =>
      rw [if_neg hsome]
      exact hs (show s.lineB.sending = none by simpa using hsome)
    | cons r rest => simp at hn

theorem offerRecord_offered {s : State} (hs : LineSettled .b s) (hn : s.records.length < 16)
    (r : OutRecord) : Offered [r] s (offerRecord r s) := by
  rw [offerRecord_room hs hn]
  exact ⟨rfl, rfl⟩

/-! ### A tracker that moves (R51) -/

/-- The TRACKER_STATE record of tracker `t`, now `tr`. -/
def movedRecord (t : Fin 2) (tr : Tracker) (s : State) : OutRecord :=
  .alarm (builtNow (.trackerState t tr.state tr.freq) s)

/-- Tracker `t` has become `new`; where `k` is a fault it has been reported, and where `moved` one TRACKER_STATE
record has been offered. -/
structure TrackerBecomes (t : Fin 2) (new : Tracker) (moved : Bool) (k : Option FaultKind) (s u : State) :
    Prop where
  reports : Reports (putTrackerAt t new s) u
  grows : FaultGrows s u
  fault : ∀ k', k = some k' → Reported k' s u
  queue : (k = none ∨ s.fault.record.isSome = true) → LineSettled .b s → s.records.length < 16 →
    Offered (if moved then [movedRecord t new s] else []) s u
  quiet : k = none → (moved = true → LineSettled .b s ∧ s.records.length < 16) →
    u.fault = s.fault ∧ u.counters = s.counters

theorem putTrackerAt_becomes (t : Fin 2) (new : Tracker) (s : State) :
    TrackerBecomes t new false none s (putTrackerAt t new s) where
  reports := .refl _
  grows := .of_fault rfl
  fault _ h := by cases h
  queue _ _ _ := .of_same rfl rfl
  quiet _ _ := ⟨rfl, rfl⟩

theorem TrackerBecomes.same {t : Fin 2} {s : State} : TrackerBecomes t s.trackers[t] false none s s := by
  have h : putTrackerAt t s.trackers[t] s = s := by simp [putTrackerAt, putAt]
  have := putTrackerAt_becomes t s.trackers[t] s
  rwa [h] at this

theorem offerRecord_quiet {s : State} (hs : LineSettled .b s) (hn : s.records.length < 16) (r : OutRecord) :
    (offerRecord r s).fault = s.fault ∧ (offerRecord r s).counters = s.counters := by
  rw [offerRecord_room hs hn]
  unfold joined
  split <;> exact ⟨rfl, rfl⟩

/-- R51: a tracker moved queues its record, and reports the fault of the change. -/
theorem moved_becomes (t : Fin 2) (new : Tracker) (k : Option FaultKind) (s : State) :
    TrackerBecomes t new true k s (trackerMoved t k (putTrackerAt t new s)) := by
  have hget : (putTrackerAt t new s).trackers[t] = new := putAt_same _ _ _
  have hrec : ∀ u : State, u.station = s.station → u.streamType = s.streamType →
      u.localTime = s.localTime → OutRecord.alarm (u.alarm (.trackerState t new.state new.freq))
        = movedRecord t new s := by
    intro u h1 h2 h3
    unfold State.alarm movedRecord builtNow
    rw [h1, h2, h3]
  cases k with
  | none =>
    have e : trackerMoved t none (putTrackerAt t new s)
        = offerRecord (movedRecord t new s) (putTrackerAt t new s) := by
      unfold trackerMoved offerAlarm
      rw [hget]
      exact congrArg (fun r => offerRecord r _) (hrec _ rfl rfl rfl)
    rw [e]
    exact {
      reports := offerRecord_reports _ _
      grows := FaultGrows.trans (t := putTrackerAt t new s) (.of_fault rfl) (offerRecord_grows _ _)
      fault := fun _ h => by cases h
      queue := fun _ hs hn => (offerRecord_offered (s := putTrackerAt t new s) hs hn _).congr ⟨rfl, rfl⟩ ⟨rfl, rfl⟩
      quiet := fun _ h => offerRecord_quiet (s := putTrackerAt t new s) (h rfl).1 (h rfl).2 _ }
  | some k =>
    have hgr : ∀ ts : Ties, FaultGrows s { putTrackerAt t new s with ties := ts } := fun _ => .of_fault rfl
    have e : trackerMoved t (some k) (putTrackerAt t new s)
        = either (offerAlarm (.trackerState t new.state new.freq)) (reportFault k t.val (.number new.freq))
          (putTrackerAt t new s) := by
      unfold trackerMoved
      rw [hget]
    refine ⟨trackerMoved_reports t _ _, ?_, fun k' hk => ?_, fun hk hs hn => ?_, fun h => by cases h⟩
    · rw [e]
      obtain ⟨ts, e | e⟩ := either_cases (offerAlarm (.trackerState t new.state new.freq))
        (reportFault k t.val (.number new.freq)) (putTrackerAt t new s) <;> rw [e]
      · exact ((hgr ts).trans (offerRecord_grows _ _)).trans (reportFault_grows _ _ _ _)
      · exact ((hgr ts).trans (reportFault_grows _ _ _ _)).trans (offerRecord_grows _ _)
    · cases hk
      rw [e]
      obtain ⟨ts, e | e⟩ := either_cases (offerAlarm (.trackerState t new.state new.freq))
        (reportFault k t.val (.number new.freq)) (putTrackerAt t new s) <;> rw [e]
      · exact Reported.of_grows (hgr ts) (Reported.of_grows (offerRecord_grows _ _) (reportFault_reported _ _ _ _))
      · exact Reported.of_grows (hgr ts) (Reported.grows (reportFault_reported _ _ _ _) (offerRecord_grows _ _))
    · obtain ⟨x, hx⟩ := Option.isSome_iff_exists.mp (hk.resolve_left (by simp))
      have hr : ∀ ts : Ties, ({ putTrackerAt t new s with ties := ts } : State).fault.record = some x :=
        fun _ => hx
      rw [e]
      obtain ⟨ts, e | e⟩ := either_cases (offerAlarm (.trackerState t new.state new.freq))
        (reportFault k t.val (.number new.freq)) (putTrackerAt t new s) <;> rw [e]
      · have hr' := (offerAlarm_grows (.trackerState t new.state new.freq)
          { putTrackerAt t new s with ties := ts }).2 x (hr ts)
        rw [reportFault_held hr']
        exact (offerRecord_offered (s := { putTrackerAt t new s with ties := ts }) hs hn _).congr
          ⟨rfl, rfl⟩ ⟨rfl, rfl⟩
      · rw [reportFault_held (hr ts)]
        exact (offerRecord_offered (s := noteFault k { putTrackerAt t new s with ties := ts }) hs hn _).congr
          ⟨rfl, rfl⟩ ⟨rfl, rfl⟩

/-- R45, R46: what a measurer that has become unusable makes of its tracker. -/
theorem measurerFailed_becomes (t : Fin 2) (r : Role) (s : State) :
    TrackerBecomes t (afterFailure (fun x => decide (x = r)) s.tables.trackers[t].holdTime s.trackers[t])
      (failureFault (fun x => decide (x = r)) s.trackers[t]).isSome
      (failureFault (fun x => decide (x = r)) s.trackers[t]) s (measurerFailed t r s) := by
  unfold measurerFailed
  dsimp only
  split
  · next hst =>
    split
    · next hu =>
      cases hl : s.trackers[t].secondary.last with
      | some m =>
        have ha : afterFailure (fun x => decide (x = Role.primary)) s.tables.trackers[t].holdTime s.trackers[t]
            = s.trackers[t].follow .secondary m.freq := by
          unfold afterFailure
          rw [if_pos ⟨hst, rfl⟩, hu, hl]
          rfl
        have hf : failureFault (fun x => decide (x = Role.primary)) s.trackers[t] = some .referenceSwitch := by
          unfold failureFault
          rw [if_pos ⟨hst, rfl⟩, hu, hl]
          rfl
        rw [ha, hf]
        exact moved_becomes t _ _ s
      | none =>
        have ha : afterFailure (fun x => decide (x = Role.primary)) s.tables.trackers[t].holdTime s.trackers[t]
            = s.trackers[t].enterHold s.tables.trackers[t].holdTime := by
          unfold afterFailure
          rw [if_pos ⟨hst, rfl⟩, hu, hl]
          rfl
        have hf : failureFault (fun x => decide (x = Role.primary)) s.trackers[t] = some .trackerHold := by
          unfold failureFault
          rw [if_pos ⟨hst, rfl⟩, hu, hl]
          rfl
        rw [ha, hf]
        exact moved_becomes t _ _ s
    · next hu =>
      have hu' : s.trackers[t].secondary.usable = false := by simpa using hu
      have ha : afterFailure (fun x => decide (x = Role.primary)) s.tables.trackers[t].holdTime s.trackers[t]
          = s.trackers[t].enterHold s.tables.trackers[t].holdTime := by
        unfold afterFailure
        rw [if_pos ⟨hst, rfl⟩, hu']
        rfl
      have hf : failureFault (fun x => decide (x = Role.primary)) s.trackers[t] = some .trackerHold := by
        unfold failureFault
        rw [if_pos ⟨hst, rfl⟩, hu']
        rfl
      rw [ha, hf]
      exact moved_becomes t _ _ s
  · next hst =>
    have ha : afterFailure (fun x => decide (x = Role.secondary)) s.tables.trackers[t].holdTime s.trackers[t]
        = s.trackers[t].enterHold s.tables.trackers[t].holdTime := by
      unfold afterFailure
      rw [if_neg (by rw [hst]; simp), if_pos ⟨hst, rfl⟩]
      rfl
    have hf : failureFault (fun x => decide (x = Role.secondary)) s.trackers[t] = some .trackerHold := by
      unfold failureFault
      rw [if_neg (by rw [hst]; simp), if_pos ⟨hst, rfl⟩]
    rw [ha, hf]
    exact moved_becomes t _ _ s
  · next r _ _ h1 h2 =>
    have hn1 : ¬ (s.trackers[t].state = .followPrimary ∧ decide (Role.primary = r) = true) :=
      fun h => h1 h.1 (of_decide_eq_true h.2).symm
    have hn2 : ¬ (s.trackers[t].state = .followSecondary ∧ decide (Role.secondary = r) = true) :=
      fun h => h2 h.1 (of_decide_eq_true h.2).symm
    have ha : afterFailure (fun x => decide (x = r)) s.tables.trackers[t].holdTime s.trackers[t]
        = s.trackers[t] := by
      unfold afterFailure
      exact (if_neg hn1).trans (if_neg hn2)
    have hf : failureFault (fun x => decide (x = r)) s.trackers[t] = none := by
      unfold failureFault
      rw [if_neg hn1, if_neg hn2]
    rw [ha, hf]
    exact .same

theorem afterFailure_none {failed : Role → Bool} {tr : Tracker} (hold : Nat)
    (h1 : ¬ (tr.state = .followPrimary ∧ failed .primary = true))
    (h2 : ¬ (tr.state = .followSecondary ∧ failed .secondary = true)) :
    afterFailure failed hold tr = tr ∧ failureFault failed tr = none := by
  unfold afterFailure failureFault
  rw [if_neg h1, if_neg h2, if_neg h1, if_neg h2]
  exact ⟨rfl, rfl⟩

theorem afterFailure_primary {failed failed' : Role → Bool} {tr : Tracker} (hold : Nat)
    (h : tr.state = .followPrimary) (h1 : failed .primary = true) (h2 : failed' .primary = true) :
    afterFailure failed hold tr = afterFailure failed' hold tr
      ∧ failureFault failed tr = failureFault failed' tr := by
  simp [afterFailure, failureFault, h, h1, h2]

theorem afterFailure_secondary {failed failed' : Role → Bool} {tr : Tracker} (hold : Nat)
    (h : tr.state = .followSecondary) (h1 : failed .secondary = true) (h2 : failed' .secondary = true) :
    afterFailure failed hold tr = afterFailure failed' hold tr
      ∧ failureFault failed tr = failureFault failed' tr := by
  simp [afterFailure, failureFault, h, h1, h2]

/-- The failure of a measurer that its tracker does not follow does nothing. -/
theorem measurerFailed_idle {t : Fin 2} {r : Role} {s : State}
    (h1 : ¬ (s.trackers[t].state = .followPrimary ∧ r = .primary))
    (h2 : ¬ (s.trackers[t].state = .followSecondary ∧ r = .secondary)) : measurerFailed t r s = s := by
  unfold measurerFailed
  dsimp only
  split
  · next h => exact absurd ⟨h, rfl⟩ h1
  · next h => exact absurd ⟨h, rfl⟩ h2
  · rfl

/-- The two measurers of a tracker have failed, or one of them or none, as `failed` says. -/
def failures (t : Fin 2) (failed : Role → Bool) (s : State) : State :=
  let one : Role → State → State := fun r s => if failed r then measurerFailed t r s else s
  one .secondary (one .primary s)

/-- R45, R46: both measurers have failed at one moment before their tracker acts: it does what it does of the
one that it followed, and no switch to a secondary that failed with the primary. -/
theorem failures_becomes (t : Fin 2) (failed : Role → Bool) (s : State)
    (hs : failed .secondary = true → s.trackers[t].secondary.usable = false) :
    TrackerBecomes t (afterFailure failed s.tables.trackers[t].holdTime s.trackers[t])
      (failureFault failed s.trackers[t]).isSome (failureFault failed s.trackers[t]) s
      (failures t failed s) := by
  unfold failures
  by_cases hp : s.trackers[t].state = .followPrimary ∧ failed .primary = true
  · obtain ⟨hst, hp⟩ := hp
    have hb := measurerFailed_becomes t .primary s
    obtain ⟨e1, e2⟩ := afterFailure_primary (failed := failed) (failed' := fun x => decide (x = .primary))
      s.tables.trackers[t].holdTime hst hp rfl
    rw [← e1, ← e2] at hb
    dsimp only
    rw [if_pos hp]
    split
    · next hq =>
      have htr : (measurerFailed t .primary s).trackers[t]
          = afterFailure failed s.tables.trackers[t].holdTime s.trackers[t] := by
        obtain ⟨_, _, _, _, _, _, h⟩ := hb.reports
        rw [h]
        exact putAt_same _ _ _
      have hheld : (measurerFailed t .primary s).trackers[t].state = .hold := by
        rw [htr]
        unfold afterFailure
        rw [if_pos ⟨hst, hp⟩, hs hq]
      rw [measurerFailed_idle (by rw [hheld]; simp) (by rw [hheld]; simp)]
      exact hb
    · exact hb
  · have h1 : (if failed .primary = true then measurerFailed t .primary s else s) = s := by
      split
      · next hf => exact measurerFailed_idle (fun h => hp ⟨h.1, hf⟩) (by simp)
      · rfl
    dsimp only
    rw [h1]
    by_cases hq : s.trackers[t].state = .followSecondary ∧ failed .secondary = true
    · obtain ⟨hst, hq⟩ := hq
      have hb := measurerFailed_becomes t .secondary s
      obtain ⟨e1, e2⟩ := afterFailure_secondary (failed := failed)
        (failed' := fun x => decide (x = .secondary)) s.tables.trackers[t].holdTime hst hq rfl
      rw [if_pos hq, e1, e2]
      exact hb
    · have h2 : (if failed .secondary = true then measurerFailed t .secondary s else s) = s := by
        split
        · next hf => exact measurerFailed_idle (by simp) (fun h => hq ⟨h.1, hf⟩)
        · rfl
      obtain ⟨e1, e2⟩ := afterFailure_none s.tables.trackers[t].holdTime hp hq
      rw [h2, e1, e2]
      exact .same

theorem putTrackerAt_put (t : Fin 2) (x new : Tracker) (s : State) :
    putTrackerAt t new (putTrackerAt t x s) = putTrackerAt t new s := by
  simp [putTrackerAt, putAt]

/-- A tracker changed without a report before it becomes what it becomes. -/
theorem TrackerBecomes.after_put {t : Fin 2} {x new : Tracker} {moved : Bool} {k : Option FaultKind}
    {s u : State} (h : TrackerBecomes t new moved k (putTrackerAt t x s) u) :
    TrackerBecomes t new moved k s u where
  reports := putTrackerAt_put t x new s ▸ h.reports
  grows := h.grows
  fault := h.fault
  queue hk hs hn := (h.queue hk hs hn).congr ⟨rfl, rfl⟩ ⟨rfl, rfl⟩
  quiet := h.quiet

theorem toSeeking_eq (m : Measurer) : m.toSeeking = sought m := by
  unfold Measurer.toSeeking sought
  cases m.state <;> rfl

/-- What a source lost or disabled leaves of the measurers of a tracker that read it (R42, R43). -/
def measurersLost (s : State) (src : Fin 8) (t : Fin 2) : Tracker :=
  withMeasurers (fun r => if (s.referenceSlot t r src).isSome then lostSource (s.trackers[t].measurer r)
    else s.trackers[t].measurer r) s.trackers[t]

/-- Which measurers of a tracker become unusable when a source is lost or disabled. -/
def failedWith (s : State) (src : Fin 8) (t : Fin 2) (r : Role) : Bool :=
  (s.referenceSlot t r src).isSome && (s.trackers[t].measurer r).usable

/-- What a tracker becomes when a source is lost or disabled. -/
def trackerAfterLoss (s : State) (src : Fin 8) (t : Fin 2) : Tracker :=
  afterFailure (failedWith s src t) s.tables.trackers[t].holdTime (measurersLost s src t)

/-- The fault that a tracker reports when a source is lost or disabled. -/
def lossFault (s : State) (src : Fin 8) (t : Fin 2) : Option FaultKind :=
  failureFault (failedWith s src t) (measurersLost s src t)

theorem trackerLoses_eq (t : Fin 2) (src : Fin 8) (s : State) :
    trackerLoses t src s = failures t (failedWith s src t) (putTrackerAt t (measurersLost s src t) s) := by
  have hr : onReaders t src (fun m => m.toSeeking.forget) s = putTrackerAt t (measurersLost s src t) s := by
    unfold onReaders measurersLost
    simp only [toSeeking_eq]
    rfl
  unfold trackerLoses
  rw [hr]
  rfl

/-- R42, R43, R45, R46: what a tracker makes of the loss or disabling of a source. -/
theorem trackerLoses_becomes (t : Fin 2) (src : Fin 8) (s : State) :
    TrackerBecomes t (trackerAfterLoss s src t) (lossFault s src t).isSome (lossFault s src t) s
      (trackerLoses t src s) := by
  have hget : (putTrackerAt t (measurersLost s src t) s).trackers[t] = measurersLost s src t :=
    putAt_same _ _ _
  have hb := failures_becomes t (failedWith s src t) (putTrackerAt t (measurersLost s src t) s) fun hf => by
    rw [hget]
    unfold failedWith at hf
    rw [Bool.and_eq_true] at hf
    exact congrArg Measurer.usable (if_pos hf.1)
  rw [hget] at hb
  rw [trackerLoses_eq]
  exact hb.after_put

end Sys2Proof.Machine

namespace Sys2Proof.Machine
open Sys2Proof.Claims

/-! ## Both trackers, one after another and among other consumers -/

/-- What the records of trackers are built from (R51, R121, R122). -/
def Ground (s u : State) : Prop :=
  u.tables = s.tables ∧ u.localTime = s.localTime ∧ u.station = s.station ∧ u.streamType = s.streamType

theorem Ground.trans {s t u : State} (h : Ground s t) (k : Ground t u) : Ground s u :=
  ⟨k.1.trans h.1, k.2.1.trans h.2.1, k.2.2.1.trans h.2.2.1, k.2.2.2.trans h.2.2.2⟩

theorem Ground.builtNow {s u : State} (h : Ground s u) (c : Cause) : builtNow c u = builtNow c s := by
  obtain ⟨_, h1, h2, h3⟩ := h
  unfold Claims.builtNow
  rw [h1, h2, h3]

theorem Ground.movedRecord {s u : State} (h : Ground s u) (t : Fin 2) (tr : Tracker) :
    movedRecord t tr u = movedRecord t tr s := congrArg OutRecord.alarm (h.builtNow _)

theorem TrackerBecomes.ground {t : Fin 2} {new : Tracker} {moved : Bool} {k : Option FaultKind}
    {s u : State} (h : TrackerBecomes t new moved k s u) : Ground s u := by
  obtain ⟨_, _, _, _, _, _, e⟩ := h.reports
  rw [e]
  exact ⟨rfl, rfl, rfl, rfl⟩

theorem TrackerBecomes.trackers {t : Fin 2} {new : Tracker} {moved : Bool} {k : Option FaultKind}
    {s u : State} (h : TrackerBecomes t new moved k s u) : u.trackers = putAt s.trackers t new := by
  obtain ⟨_, _, _, _, _, _, e⟩ := h.reports
  rw [e]
  rfl

/-- The fault unit and the counts of records dropped stand as they stood (R124, R180). -/
def NothingLost (s u : State) : Prop :=
  u.fault = s.fault ∧ u.counters.verdictDrops = s.counters.verdictDrops
    ∧ u.counters.alarmDrops = s.counters.alarmDrops

theorem NothingLost.trans {s t u : State} (h : NothingLost s t) (k : NothingLost t u) : NothingLost s u :=
  ⟨k.1.trans h.1, k.2.1.trans h.2.1, k.2.2.trans h.2.2⟩

/-- The consumer touches no tracker and reports nothing. -/
structure Silent (s u : State) : Prop where
  ground : Ground s u
  trackers : u.trackers = s.trackers
  records : u.records = s.records
  lineB : u.lineB = s.lineB
  nothingLost : NothingLost s u

/-- What trackers make of one moment: what each becomes, whether it moves, and the fault it reports. -/
structure Outcomes where
  new : Fin 2 → Tracker
  moved : Fin 2 → Bool
  fault : Fin 2 → Option FaultKind

/-- The trackers of a list have become what they become, in the list's order, with their reports. -/
structure TrackersDone (o : Outcomes) (l : List (Fin 2)) (s u : State) : Prop where
  ground : Ground s u
  trackers : ∀ i : Fin 2, u.trackers[i] = if i ∈ l then o.new i else s.trackers[i]
  grows : FaultGrows s u
  fault : ∀ i ∈ l, ∀ k, o.fault i = some k → Reported k s u
  queue : ((∀ i ∈ l, o.fault i = none) ∨ s.fault.record.isSome = true) → LineSettled .b s →
    s.records.length + l.length ≤ 16 →
    Offered ((l.filter o.moved).map fun i => movedRecord i (o.new i) s) s u
  quiet : (∀ i ∈ l, o.fault i = none) → LineSettled .b s → s.records.length + l.length ≤ 16 →
    NothingLost s u

theorem TrackersDone.nil (o : Outcomes) (s : State) (ts : Ties) :
    TrackersDone o [] s { s with ties := ts } where
  ground := ⟨rfl, rfl, rfl, rfl⟩
  trackers _ := rfl
  grows := .of_fault rfl
  fault _ h := by cases h
  queue _ _ _ := .of_same rfl rfl
  quiet _ _ _ := ⟨rfl, rfl, rfl⟩

theorem TrackersDone.silent {o : Outcomes} {l : List (Fin 2)} {s u v : State} (h : TrackersDone o l s u)
    (hv : Silent u v) : TrackersDone o l s v where
  ground := h.ground.trans hv.ground
  trackers i := by rw [hv.trackers]; exact h.trackers i
  grows := h.grows.trans (.of_fault hv.nothingLost.1)
  fault i hi k hk := Reported.grows (h.fault i hi k hk) (.of_fault hv.nothingLost.1)
  queue hk hs hn := (h.queue hk hs hn).congr ⟨rfl, rfl⟩ ⟨hv.records, hv.lineB⟩
  quiet hk hs hn := (h.quiet hk hs hn).trans hv.nothingLost

theorem TrackersDone.next {o : Outcomes} {l : List (Fin 2)} {s u v : State} {t : Fin 2}
    (h : TrackersDone o l s u) (ht : t ∉ l)
    (hv : TrackerBecomes t (o.new t) (o.moved t) (o.fault t) u v) : TrackersDone o (l ++ [t]) s v where
  ground := h.ground.trans hv.ground
  trackers i := by
    rw [hv.trackers, putAt_get, h.trackers i]
    by_cases hi : i = t
    · subst hi
      simp
    · simp [hi]
  grows := h.grows.trans hv.grows
  fault i hi k hk := by
    obtain hi | hi := List.mem_append.mp hi
    · exact Reported.grows (h.fault i hi k hk) hv.grows
    · obtain rfl := List.mem_singleton.mp hi
      exact Reported.of_grows h.grows (hv.fault k hk)
  queue hk hs hn := by
    rw [List.length_append, List.length_singleton] at hn
    have hk' : (∀ i ∈ l, o.fault i = none) ∨ s.fault.record.isSome = true :=
      hk.imp_left fun h i hi => h i (List.mem_append_left _ hi)
    have hq := h.queue hk' hs (by omega)
    have hheld : o.fault t = none ∨ u.fault.record.isSome = true := by
      refine hk.imp (fun h => h t (List.mem_append_right _ (List.mem_singleton_self t))) fun hr => ?_
      obtain ⟨r, hr⟩ := Option.isSome_iff_exists.mp hr
      rw [h.grows.2 r hr]
      rfl
    have hlen := hq.length
    have hfl := List.length_filter_le o.moved l
    rw [List.length_map] at hlen
    have ho := hq.trans (hv.queue hheld (hq.settled hs) (by omega))
    rw [h.ground.movedRecord] at ho
    rw [List.filter_append, List.map_append]
    cases hm : o.moved t <;> simpa [hm] using ho
  quiet hk hs hn := by
    rw [List.length_append, List.length_singleton] at hn
    have hk' : ∀ i ∈ l, o.fault i = none := fun i hi => hk i (List.mem_append_left _ hi)
    have hq := h.queue (.inl hk') hs (by omega)
    have hlen := hq.length
    have hfl := List.length_filter_le o.moved l
    rw [List.length_map] at hlen
    have hkt := hk t (List.mem_append_right _ (List.mem_singleton_self t))
    obtain ⟨h1, h2⟩ := hv.quiet hkt fun _ => ⟨hq.settled hs, by omega⟩
    exact (h.quiet hk' hs (by omega)).trans ⟨h1, by rw [h2], by rw [h2]⟩

/-- The trackers among the consumers of one moment, each with its own outcome, whatever order they come in. -/
theorem foldl_trackersDone {α : Type} {o : Outcomes} {who : α → Option (Fin 2)} {f : α → State → State}
    {s : State} {l : List α} (hl : (l.filterMap who).Nodup)
    (hsilent : ∀ x ∈ l, who x = none → ∀ u, Silent u (f x u))
    (hone : ∀ x ∈ l, ∀ t, who x = some t → ∀ u, Ground s u → u.trackers[t] = s.trackers[t] →
      TrackerBecomes t (o.new t) (o.moved t) (o.fault t) u (f x u))
    {l₀ : List (Fin 2)} {u : State} (hu : TrackersDone o l₀ s u)
    (hd : ∀ t ∈ l.filterMap who, t ∉ l₀) :
    TrackersDone o (l₀ ++ l.filterMap who) s (l.foldl (fun s x => f x s) u) := by
  induction l generalizing l₀ u with
  | nil => simpa using hu
  | cons x xs ih =>
    have hs' := fun y (hy : y ∈ xs) => hsilent y (List.mem_cons_of_mem _ hy)
    have ho' := fun y (hy : y ∈ xs) => hone y (List.mem_cons_of_mem _ hy)
    cases hw : who x with
    | none =>
      rw [List.filterMap_cons_none hw] at hl hd ⊢
      exact ih hl hs' ho' (hu.silent (hsilent x List.mem_cons_self hw u)) hd
    | some t =>
      rw [List.filterMap_cons_some hw] at hl hd ⊢
      obtain ⟨htl, hl⟩ := List.nodup_cons.mp hl
      have ht : t ∉ l₀ := hd t List.mem_cons_self
      have hut : u.trackers[t] = s.trackers[t] := by rw [hu.trackers t, if_neg ht]
      have hn := hu.next ht (hone x List.mem_cons_self t hw u hu.ground hut)
      have := ih hl hs' ho' hn fun y hy hy' => by
        obtain h | h := List.mem_append.mp hy'
        · exact hd y (List.mem_cons_of_mem _ hy) h
        · exact htl (List.mem_singleton.mp h ▸ hy)
      rwa [List.append_assoc] at this

end Sys2Proof.Machine

namespace Sys2Proof.Machine
open Sys2Proof.Claims

/-! ## O51: the load completes (R9, R51, R53, R56, R94, R113, R133, R152, R171) -/

/-- What a loaded entry makes of its tracker (R53). -/
def loadedOutcomes (s : State) : Outcomes where
  new i := match s.tables.trackers[i].mode with
    | .auto => s.trackers[i]
    | .fixed => s.trackers[i].enterFixed s.tables.trackers[i].fixedFrequency
  moved i := decide (s.tables.trackers[i].mode = .fixed)
  fault _ := none

theorem fixIfRequested_becomes (s : State) (i : Fin 2) {u : State} (hg : Ground s u)
    (ht : u.trackers[i] = s.trackers[i]) :
    TrackerBecomes i ((loadedOutcomes s).new i) ((loadedOutcomes s).moved i) ((loadedOutcomes s).fault i) u
      (fixIfRequested i u) := by
  unfold fixIfRequested loadedOutcomes
  dsimp only
  rw [hg.1]
  cases s.tables.trackers[i].mode with
  | auto =>
    rw [← ht]
    exact .same
  | fixed =>
    rw [← ht]
    exact moved_becomes i _ none u

theorem fixIfRequested_move (i : Fin 2) (s : State) : TrackersMove s (fixIfRequested i s) := by
  unfold fixIfRequested
  split
  · exact .refl s
  · exact moved_move i _ none s

theorem filterMap_some {α : Type} (l : List α) : l.filterMap some = l := by simp

/-- Both trackers in some order, each with its own outcome. -/
theorem inSomeOrder_trackersDone {o : Outcomes} {f : Fin 2 → State → State} {s : State}
    (hone : ∀ t u, Ground s u → u.trackers[t] = s.trackers[t] →
      TrackerBecomes t (o.new t) (o.moved t) (o.fault t) u (f t u)) :
    ∃ l : List (Fin 2), l.Perm (List.finRange 2) ∧ TrackersDone o l s (inSomeOrder (List.finRange 2) f s) := by
  obtain ⟨l, ts, hp, e⟩ := inSomeOrder_cases (List.finRange 2) f s
  refine ⟨l, hp, ?_⟩
  have hn : (l.filterMap some).Nodup := by
    rw [filterMap_some]
    exact hp.nodup_iff.mpr (List.nodup_finRange 2)
  have h := foldl_trackersDone (who := some) (f := f) (l := l) (s := s) (o := o) hn (fun _ _ h => by cases h)
    (fun x _ t ht u hg hu => by cases ht; exact hone x u hg hu) (.nil o s ts) (fun _ _ => by simp)
  rw [filterMap_some, List.nil_append] at h
  rw [e]
  exact h

theorem TrackersMove.inSomeOrder {f : Fin 2 → State → State} (hf : ∀ t s, TrackersMove s (f t s)) (s : State) :
    TrackersMove s (inSomeOrder (List.finRange 2) f s) :=
  inSomeOrder_keeps (P := TrackersMove s) _ f
    (fun _ ts h => h.trans (Reports.trackersMove (ties_reports _ ts))) (fun t _ _ h => h.trans (hf t _)) s (.refl s)

theorem TrackersDone.trackers_all {o : Outcomes} {l : List (Fin 2)} {s u : State}
    (h : TrackersDone o l s u) (hl : l.Perm (List.finRange 2)) (i : Fin 2) : u.trackers[i] = o.new i := by
  rw [h.trackers i, if_pos (hl.mem_iff.mpr (List.mem_finRange i))]

/-- The eight images are all valid where every mark says so. -/
theorem all_valid_iff (v : Vector Bool 8) : v.toList.all id = true ↔ ∀ i : Fin 8, v[i] = true := by
  rw [List.all_eq_true]
  constructor
  · intro h i
    exact h _ (by simp)
  · intro h b hb
    obtain ⟨i, hi, rfl⟩ := List.mem_iff_getElem.mp hb
    have hi' : i < 8 := by simpa using hi
    have := h ⟨i, hi'⟩
    simpa using this

theorem afterLoad_eq (s : State) : s.afterLoad
    = if s.tables.general.autoStart = true ∧ ∀ i : Fin 8, s.store.valid[i] = true then .analysing
      else .configuring := by
  unfold State.afterLoad
  by_cases h : s.tables.general.autoStart = true ∧ ∀ i : Fin 8, s.store.valid[i] = true
  · rw [if_pos h, if_pos (Bool.and_eq_true_iff.mpr ⟨h.1, (all_valid_iff _).mpr h.2⟩)]
  · rw [if_neg h, if_neg fun e => h ⟨(Bool.and_eq_true_iff.mp e).1,
      (all_valid_iff _).mp (Bool.and_eq_true_iff.mp e).2⟩]

/-- R157: the station number and stream type of the loaded GENERAL entry are in force before and after. -/
theorem takeUpSettings_builtNow {s : State} (hn : s.loadedTables = 8) (ties : Ties) (c : Cause) :
    builtNow c (takeUpSettings { s with ties := ties }) = builtNow c s := by
  have h1 : s.beforeGeneral = false := by simp [State.beforeGeneral, hn]
  have h2 : (takeUpSettings { s with ties := ties }).beforeGeneral = false := by
    simp [State.beforeGeneral, takeUpSettings, hn]
  unfold builtNow State.station State.streamType
  rw [h1, h2]
  rfl

theorem takeUpSettings_source (s : State) (i : Fin 8) : (takeUpSettings s).sources[i]
    = if (repair s.tables).sources[i].enabled then awaitSource s.sources[i] else s.sources[i] := by
  simp [takeUpSettings]

theorem takeUpSettings_tracker (s : State) (i : Fin 2) : (takeUpSettings s).trackers[i]
    = withMeasurers (fun r => Measurer.rereferenced ((repair s.tables).trackers[i].reference r))
      s.trackers[i] := by
  simp [takeUpSettings, withMeasurers, TrackerEntry.reference]

theorem takeUpSettings_channel (s : State) (c : Fin 16) : (takeUpSettings s).channels[c]
    = { s.channels[c] with binList := (repair s.tables).plans[c].bins.map PlanBin.k } := by
  simp [takeUpSettings]

theorem takeUpSettings_check (s : State) (c : Fin 16) :
    (takeUpSettings s).checks[c] = blankChecks (repair s.tables).plans[c] := by
  simp [takeUpSettings]
  rfl

/-- R53: a tracker after the load: its measurers as its references say, its mode as requested. -/
theorem loadedOutcomes_new (s : State) (i : Fin 2) :
    (∀ r : Role, ((loadedOutcomes s).new i).measurer r = s.trackers[i].measurer r)
      ∧ (s.tables.trackers[i].mode = .fixed → ((loadedOutcomes s).new i).state = .fixed
        ∧ ((loadedOutcomes s).new i).freq = s.tables.trackers[i].fixedFrequency)
      ∧ (s.tables.trackers[i].mode = .auto → (loadedOutcomes s).new i = s.trackers[i]) := by
  unfold loadedOutcomes
  dsimp only
  cases s.tables.trackers[i].mode with
  | auto => exact ⟨fun _ => rfl, fun h => RequestedMode.noConfusion h, fun _ => rfl⟩
  | fixed => exact ⟨fun r => by cases r <;> rfl, fun _ => ⟨rfl, rfl⟩, fun h => RequestedMode.noConfusion h⟩

theorem withMeasurers_measurer (m : Role → Measurer) (tr : Tracker) (r : Role) :
    (withMeasurers m tr).measurer r = m r := by cases r <;> rfl

theorem rereferenced_state (c : Option (Fin 16)) :
    (Measurer.rereferenced c).state = (if c.isSome then .seeking else .idle)
      ∧ (Measurer.rereferenced c).usable = false := by cases c <;> exact ⟨rfl, rfl⟩

theorem fixIfRequested_auto {s : State} {i : Fin 2} (h : s.tables.trackers[i].mode = .auto) :
    fixIfRequested i s = s := by
  unfold fixIfRequested
  rw [h]

/-- Where no loaded entry requests FIXED nothing follows the settings. -/
theorem inSomeOrder_fixIfRequested_auto {s : State} (h : ∀ i : Fin 2, s.tables.trackers[i].mode = .auto) :
    ∃ ts, inSomeOrder (List.finRange 2) fixIfRequested s = { s with ties := ts } := by
  obtain ⟨l, ts, _, e⟩ := inSomeOrder_cases (List.finRange 2) fixIfRequested s
  refine ⟨ts, e.trans ?_⟩
  have hf : ∀ l : List (Fin 2), l.foldl (fun s x => fixIfRequested x s) { s with ties := ts }
      = { s with ties := ts } := by
    intro l
    induction l with
    | nil => rfl
    | cons i l ih =>
      rw [List.foldl_cons, fixIfRequested_auto (s := { s with ties := ts }) (h i)]
      exact ih
  exact hf l

/-- Settles O51: `takeUpSettings` sets the blocks, and the trackers follow in some order with a record each. -/
theorem loadCompletes : Obligations.LoadCompletes := by
  intro ties s hp
  have hexec : exec (.loadComplete ties) s = .next (if s.opState = .loading ∧ s.loadedTables = 8 then
      withTies ties (fun s => inSomeOrder (List.finRange 2) fixIfRequested (takeUpSettings s)) s else s) :=
    congrArg Host.Outcome.next (if_pos hp)
  refine ⟨fun h => hexec.trans (congrArg Host.Outcome.next (if_neg h)), fun hl hn => ?_⟩
  let v := takeUpSettings { s with ties := ties }
  let u := inSomeOrder (List.finRange 2) fixIfRequested v
  obtain ⟨l, hperm, hd⟩ := inSomeOrder_trackersDone (o := loadedOutcomes v) (f := fixIfRequested) (s := v)
    fun t w hg ht => fixIfRequested_becomes v t hg ht
  obtain ⟨tr, q, b, f, vd, ad, ts, e⟩ := TrackersMove.inSomeOrder fixIfRequested_move v
  have htr : ∀ i : Fin 2, u.trackers[i] = (loadedOutcomes v).new i := hd.trackers_all hperm
  have hv : ∀ i : Fin 2, v.trackers[i] = withMeasurers
      (fun r => Measurer.rereferenced ((repair s.tables).trackers[i].reference r)) s.trackers[i] :=
    takeUpSettings_tracker { s with ties := ties }
  have htab : u.tables = repair s.tables := by rw [show u = _ from e]; rfl
  have hmode : ∀ i : Fin 2, u.tables.trackers[i].mode = v.tables.trackers[i].mode := fun i => by rw [htab]; rfl
  refine ⟨{ u with ties := [] }, hexec.trans (congrArg Host.Outcome.next (if_pos ⟨hl, hn⟩)), htab, ?_, ?_,
    fun i => ⟨fun he => ?_, fun he => ?_⟩, fun i r => ?_, fun i => ⟨fun hm => ?_, fun hm => ?_⟩,
    fun c => ⟨?_, ?_⟩, ?_, ?_, ?_, ?_, ?_, fun ha => ?_, fun hs hr => ?_⟩
  · rw [show u = _ from e]
    rfl
  · rw [show u = _ from e]
    exact afterLoad_eq s
  · have he' : (repair s.tables).sources[i].enabled = true := htab ▸ he
    rw [show u = _ from e]
    exact (takeUpSettings_source { s with ties := ties } i).trans (if_pos he')
  · have he' : ¬ (repair s.tables).sources[i].enabled = true := by
      rw [← htab]
      simpa using he
    rw [show u = _ from e]
    exact (takeUpSettings_source { s with ties := ties } i).trans (if_neg he')
  · have hme : (u.trackers[i]).measurer r
        = Measurer.rereferenced ((repair s.tables).trackers[i].reference r) := by
      rw [htr i, (loadedOutcomes_new v i).1 r, hv i, withMeasurers_measurer]
    obtain ⟨h1, h2⟩ := rereferenced_state ((repair s.tables).trackers[i].reference r)
    change ((u.trackers[i]).measurer r).state = (if (u.tables.trackers[i].reference r).isSome then _ else _)
      ∧ ((u.trackers[i]).measurer r).usable = false
    rw [hme, htab]
    exact ⟨h1, h2⟩
  · obtain ⟨h1, h2⟩ := (loadedOutcomes_new v i).2.1 (hmode i ▸ hm)
    change (u.trackers[i]).state = _ ∧ (u.trackers[i]).freq = u.tables.trackers[i].fixedFrequency
    rw [htr i, htab]
    exact ⟨h1, h2⟩
  · have ha := (loadedOutcomes_new v i).2.2 (hmode i ▸ hm)
    change (u.trackers[i]).state = _ ∧ (u.trackers[i]).freq = _
    rw [htr i, ha, hv i]
    exact ⟨rfl, rfl⟩
  · change u.channels[c] = { s.channels[c] with binList := u.tables.plans[c].bins.map PlanBin.k }
    rw [htab, show u = _ from e]
    exact takeUpSettings_channel { s with ties := ties } c
  · change u.checks[c] = blankChecks u.tables.plans[c]
    rw [htab, show u = _ from e]
    exact takeUpSettings_check { s with ties := ties } c
  · change u.capture = { s.capture with settings := u.tables.general.capture }
    rw [htab, show u = _ from e]
    rfl
  · rw [show u = _ from e]; rfl
  · rw [show u = _ from e]; rfl
  · rw [show u = _ from e]; rfl
  · rw [show u = _ from e]; rfl
  · obtain ⟨ts', e'⟩ := inSomeOrder_fixIfRequested_auto (s := v) fun i => hmode i ▸ ha i
    rw [show u = _ from e']
    exact ⟨rfl, rfl, rfl, rfl⟩
  · have hlen : v.records.length + l.length ≤ 16 := by
      rw [hperm.length_eq, List.length_finRange]
      exact hr
    have hsv : LineSettled .b v := hs
    have hlost : NothingLost v u := hd.quiet (fun _ _ => rfl) hsv hlen
    have hq : Offered _ v u := hd.queue (.inl fun _ _ => rfl) hsv hlen
    obtain ⟨hf, hvd, had⟩ := hlost
    refine ⟨hf, ?_, l.filter (loadedOutcomes v).moved, ?_, ?_⟩
    · change u.counters = s.counters
      rw [show u = _ from e] at hvd had ⊢
      change vd = s.counters.verdictDrops at hvd
      change ad = s.counters.alarmDrops at had
      rw [hvd, had]
      rfl
    · have hfun : (loadedOutcomes v).moved = fun i => decide (u.tables.trackers[i].mode = .fixed) :=
        funext fun i => by rw [hmode i]; rfl
      rw [hfun]
      exact hperm.filter _
    · have hrec : (l.filter (loadedOutcomes v).moved).map (fun i => movedRecord i ((loadedOutcomes v).new i) v)
          = (l.filter (loadedOutcomes v).moved).map fun i => OutRecord.alarm
            (builtNow (.trackerState i .fixed u.tables.trackers[i].fixedFrequency) s) := by
        refine List.map_congr_left fun i hi => ?_
        have hm := of_decide_eq_true (List.mem_filter.mp hi).2
        obtain ⟨h1, h2⟩ := (loadedOutcomes_new v i).2.1 hm
        unfold movedRecord
        rw [h1, h2, htab]
        exact congrArg OutRecord.alarm (takeUpSettings_builtNow hn ties _)
      rw [hrec] at hq
      exact hq.congr ⟨rfl, rfl⟩ ⟨rfl, rfl⟩

end Sys2Proof.Machine

namespace Sys2Proof.Machine
open Sys2Proof.Claims

/-! ## O44: what writes do to the running blocks (R8, R25, R26, R28 to R31, R66, R69, R97) -/

/-! ### Windows ended -/

theorem ofFn_congr {α : Type} {n : Nat} {f g : Fin n → α} (h : ∀ i, f i = g i) :
    Vector.ofFn f = Vector.ofFn g := congrArg Vector.ofFn (funext h)

theorem eq_ofFn {α : Type} {n : Nat} {v : Vector α n} {f : Fin n → α} (h : ∀ i : Fin n, v[i] = f i) :
    v = Vector.ofFn f := Vector.ext fun i hi => by simpa using h ⟨i, hi⟩

/-- How many copies of a channel wait with the engine for the table memory. -/
def copiesWaiting (e : Engine) (c : Fin 16) : Nat :=
  match e with
  | .waiting c' (some _) => if c' = c then 1 else 0
  | _ => 0

/-- The engine once the copies of the channels that `p` names are discarded. -/
def copyDiscarded (p : Fin 16 → Bool) (e : Engine) : Engine :=
  match e with
  | .waiting c (some w) => .waiting c (if p c then none else some w)
  | e => e

/-- A channel's unit with its contexts FREE. -/
def contextsFreed (u : ChannelUnit) : ChannelUnit := { u with ctx0 := .free, ctx1 := .free }

/-- A channel's counters with windows counted as abandoned. -/
def abandonedCounted (n : Nat) (k : ChannelCounters) : ChannelCounters :=
  { k with abandoned := raised k.abandoned n }

theorem windowsEnded_eq (p : Fin 16 → Bool) (s : State) : windowsEnded p s = { s with
    channels := Vector.ofFn fun c => if p c then contextsFreed s.channels[c] else s.channels[c]
    engine := copyDiscarded p s.engine
    counters := { s.counters with
      channels := Vector.ofFn fun c =>
        if p c then abandonedCounted (s.channels[c].held + copiesWaiting s.engine c) s.counters.channels[c]
        else s.counters.channels[c] } } := by
  unfold windowsEnded copyDiscarded
  congr 1

theorem abandonedCounted_add (m n : Nat) (k : ChannelCounters) :
    abandonedCounted n (abandonedCounted m k) = abandonedCounted (m + n) k := by
  unfold abandonedCounted raised
  congr 1
  dsimp only
  omega

theorem updAt_eq_ofFn {α : Type} {n : Nat} (v : Vector α n) (i : Fin n) (f : α → α) :
    updAt v i f = Vector.ofFn fun j => if (j == i) = true then f v[j] else v[j] :=
  eq_ofFn fun j => by rw [updAt_get]; simp

theorem held_contextsFreed (u : ChannelUnit) : (contextsFreed u).held = 0 := rfl

theorem endWindows_eq (c : Fin 16) (s : State) : endWindows c s = { s with
    channels := updAt s.channels c contextsFreed
    counters := { s.counters with
      channels := updAt s.counters.channels c (abandonedCounted s.channels[c].held) } } := rfl

/-- R25: all the windows of one channel ended. -/
theorem endAllWindows_eq (c : Fin 16) (s : State) :
    endAllWindows c s = windowsEnded (fun x => x == c) s := by
  have hd : endAllWindows c s = { s with
      channels := updAt s.channels c contextsFreed
      engine := copyDiscarded (fun x => x == c) s.engine
      counters := { s.counters with
        channels := updAt s.counters.channels c
          (abandonedCounted (s.channels[c].held + copiesWaiting s.engine c)) } } := by
    unfold endAllWindows discardCopy
    rw [endWindows_eq]
    dsimp only
    split
    · next c' w he =>
      rw [he]
      by_cases hc : c' = c
      · subst hc
        rw [if_pos rfl]
        have h2 : updAt (updAt s.counters.channels c' (abandonedCounted s.channels[c'].held)) c'
            (abandonedCounted 1) = updAt s.counters.channels c' (abandonedCounted (s.channels[c'].held + 1)) := by
          simp only [updAt_eq_ofFn]
          refine eq_ofFn fun j => ?_
          simp only [Fin.getElem_fin, Vector.getElem_ofFn]
          split <;> simp [abandonedCounted_add, *]
        simp only [copyDiscarded, copiesWaiting, beq_self_eq_true, if_true]
        rw [← h2]
        rfl
      · rw [if_neg hc]
        simp [copyDiscarded, copiesWaiting, hc, ← he]
    · next h =>
      have h1 : copyDiscarded (fun x => x == c) s.engine = s.engine := by
        unfold copyDiscarded
        split
        · next he => exact absurd he (h _ _)
        · rfl
      have h2 : copiesWaiting s.engine c = 0 := by
        unfold copiesWaiting
        split
        · next he => exact absurd he (h _ _)
        · rfl
      rw [h1, h2]
      rfl
  have hc : updAt s.counters.channels c (abandonedCounted (s.channels[c].held + copiesWaiting s.engine c))
      = Vector.ofFn fun x => if (x == c) = true then
        abandonedCounted (s.channels[x].held + copiesWaiting s.engine x) s.counters.channels[x]
        else s.counters.channels[x] := by
    rw [updAt_eq_ofFn]
    refine ofFn_congr fun j => ?_
    split
    · next hj => rw [eq_of_beq hj]
    · rfl
  rw [hd, windowsEnded_eq, updAt_eq_ofFn, hc]

theorem windowsEnded_none (s : State) : windowsEnded (fun _ => false) s = s := by
  have he : copyDiscarded (fun _ => false) s.engine = s.engine := by
    unfold copyDiscarded
    split
    · next h => rw [h]; rfl
    · rfl
  rw [windowsEnded_eq, he]
  simp only [Bool.false_eq_true, if_false]
  rw [← eq_ofFn (v := s.channels) fun _ => rfl, ← eq_ofFn (v := s.counters.channels) fun _ => rfl]

theorem copyDiscarded_comp (p q : Fin 16 → Bool) (e : Engine) :
    copyDiscarded q (copyDiscarded p e) = copyDiscarded (fun c => p c || q c) e := by
  cases e with
  | waiting c w =>
    cases w with
    | some w =>
      cases hp : p c <;> simp [copyDiscarded, hp]
    | none => rfl
  | idle => rfl
  | evaluating c w => rfl

theorem copiesWaiting_discarded (p : Fin 16 → Bool) (e : Engine) (c : Fin 16) :
    copiesWaiting (copyDiscarded p e) c = if p c then 0 else copiesWaiting e c := by
  cases e with
  | waiting c' w =>
    cases w with
    | some w =>
      by_cases hc : c' = c
      · subst hc
        cases hp : p c' <;> simp [copyDiscarded, copiesWaiting, hp]
      · cases hp : p c' <;> simp [copyDiscarded, copiesWaiting, hp, hc]
    | none => simp [copyDiscarded, copiesWaiting]
  | idle => simp [copyDiscarded, copiesWaiting]
  | evaluating c w => simp [copyDiscarded, copiesWaiting]

/-- Windows ended of some channels and then of others; a channel among both has none left the second time. -/
theorem windowsEnded_comp (p q : Fin 16 → Bool) (s : State) :
    windowsEnded q (windowsEnded p s) = windowsEnded (fun c => p c || q c) s := by
  rw [windowsEnded_eq q, windowsEnded_eq p, windowsEnded_eq fun c => p c || q c]
  dsimp only
  rw [copyDiscarded_comp]
  congr 2
  · funext c
    simp only [Fin.getElem_fin, Vector.getElem_ofFn]
    cases p c <;> cases q c <;> simp [contextsFreed]
  · congr 2
    funext c
    simp only [Fin.getElem_fin, Vector.getElem_ofFn, copiesWaiting_discarded]
    cases p c <;> cases q c <;> simp [abandonedCounted_add, held_contextsFreed]

/-- What one channel after another does is what the channels together do, where the latter composes. -/
theorem channelsWhere_eq {F : (Fin 16 → Bool) → State → State} {f : Fin 16 → State → State}
    (hone : ∀ c s, f c s = F (fun x => x == c) s) (hnone : ∀ s, F (fun _ => false) s = s)
    (hcomp : ∀ p q s, F q (F p s) = F (fun c => p c || q c) s) (p : Fin 16 → Bool) (s : State) :
    channelsWhere p f s = F p s := by
  have hl : ∀ (l : List (Fin 16)) (s : State),
      l.foldl (fun s c => f c s) s = F (fun c => l.contains c) s := by
    intro l
    induction l with
    | nil => intro s; exact (hnone s).symm
    | cons x l ih =>
      intro s
      rw [List.foldl_cons, ih, hone, hcomp]
      simp only [List.contains_cons]
  have hp : (fun c => ((List.finRange 16).filter p).contains c) = p := by
    funext c
    rw [Bool.eq_iff_iff, List.contains_iff_mem, List.mem_filter]
    simp
  unfold channelsWhere
  rw [hl, hp]

theorem channelsWhere_endAllWindows (p : Fin 16 → Bool) (s : State) :
    channelsWhere p endAllWindows s = windowsEnded p s :=
  channelsWhere_eq endAllWindows_eq windowsEnded_none windowsEnded_comp p s

/-- The windows of the channels that `p` names ended, and their check results cleared. -/
def channelsCleared (p : Fin 16 → Bool) (s : State) : State :=
  { windowsEnded p s with
    checks := Vector.ofFn fun c => if p c then blankChecks s.tables.plans[c] else s.checks[c] }

theorem clearChecks_eq (c : Fin 16) (s : State) :
    clearChecks c (endAllWindows c s) = channelsCleared (fun x => x == c) s := by
  have ht : (windowsEnded (fun x => x == c) s).tables = s.tables := rfl
  have hk : (windowsEnded (fun x => x == c) s).checks = s.checks := rfl
  unfold clearChecks channelsCleared
  rw [endAllWindows_eq, ht, hk]
  congr 1
  refine eq_ofFn fun j => ?_
  rw [putAt_get]
  by_cases hj : j = c
  · subst hj
    simp
    rfl
  · simp [hj]

theorem channelsCleared_none (s : State) : channelsCleared (fun _ => false) s = s := by
  unfold channelsCleared
  rw [windowsEnded_none]
  simp only [Bool.false_eq_true, if_false]
  rw [← eq_ofFn (v := s.checks) fun _ => rfl]

theorem channelsCleared_comp (p q : Fin 16 → Bool) (s : State) :
    channelsCleared q (channelsCleared p s) = channelsCleared (fun c => p c || q c) s := by
  have h : windowsEnded q (channelsCleared p s) = { windowsEnded q (windowsEnded p s) with
      checks := (channelsCleared p s).checks } := rfl
  have hc : Vector.ofFn (fun c => if q c then blankChecks s.tables.plans[c] else (channelsCleared p s).checks[c])
      = Vector.ofFn fun c => if p c || q c then blankChecks s.tables.plans[c] else s.checks[c] := by
    refine ofFn_congr fun c => ?_
    have hk : (channelsCleared p s).checks[c]
        = if p c then blankChecks s.tables.plans[c] else s.checks[c] := by simp [channelsCleared]
    rw [hk]
    cases p c <;> cases q c <;> rfl
  change ({ windowsEnded q (channelsCleared p s) with checks := _ } : State) = _
  rw [h, windowsEnded_comp]
  exact congrArg (fun k => ({ windowsEnded (fun c => p c || q c) s with checks := k } : State)) hc

theorem channelsWhere_clearChecks (p : Fin 16 → Bool) (s : State) :
    channelsWhere p (fun c s => clearChecks c (endAllWindows c s)) s = channelsCleared p s :=
  channelsWhere_eq clearChecks_eq channelsCleared_none channelsCleared_comp p s

/-! ### GROUPS and CHANNELS (R25, R26, R28, R29, R30) -/

theorem windowsEnded_if (b : Bool) (p : Fin 16 → Bool) (s : State) :
    (if b then windowsEnded p s else s) = windowsEnded (fun c => b && p c) s := by
  cases b with
  | true => rfl
  | false => exact (windowsEnded_none s).symm

theorem channelsCleared_if (b : Bool) (p : Fin 16 → Bool) (s : State) :
    (if b then channelsCleared p s else s) = channelsCleared (fun c => b && p c) s := by
  cases b with
  | true => rfl
  | false => exact (channelsCleared_none s).symm

theorem applyWrite_group (g : Fin 4) (e : GroupEntry) (s : State) :
    let old := s.tables.groups[g]
    let names : Fin 16 → Bool := fun c => s.tables.channels[c].group == g
    let moved := old.tracker ≠ e.tracker
    applyWrite (.group g e) s = { windowsEnded (fun c =>
          names c && (decide moved || (old.enabled && !e.enabled && s.active c))) s with
        tables := replaced s.tables (.group g e)
        checks := Vector.ofFn fun c =>
          if names c = true ∧ moved then blankChecks s.tables.plans[c] else s.checks[c] } := by
  intro old names moved
  let v : State := { s with tables := replaced s.tables (.group g e) }
  have hw : applyWrite (.group g e) s
      = channelsCleared (fun c => (old.tracker != e.tracker) && names c)
        (windowsEnded (fun c => (old.enabled && !e.enabled) && (names c && s.active c)) v) := by
    rw [← channelsCleared_if, ← windowsEnded_if, ← channelsWhere_clearChecks, ← channelsWhere_endAllWindows]
    rfl
  have hp : (fun c => ((old.enabled && !e.enabled) && (names c && s.active c))
      || ((old.tracker != e.tracker) && names c))
      = fun c => names c && (decide moved || (old.enabled && !e.enabled && s.active c)) := by
    funext c
    have hm : (old.tracker != e.tracker) = decide moved := by
      rw [Bool.eq_iff_iff, bne_iff_ne, decide_eq_true_iff]
    rw [hm]
    cases names c <;> cases decide moved <;> simp
  have hk : (Vector.ofFn fun c => if ((old.tracker != e.tracker) && names c) = true
        then blankChecks s.tables.plans[c] else s.checks[c])
      = Vector.ofFn fun c => if names c = true ∧ moved then blankChecks s.tables.plans[c] else s.checks[c] :=
    ofFn_congr fun c => if_congr (by rw [Bool.and_eq_true, bne_iff_ne, and_comm]) rfl rfl
  rw [hw]
  unfold channelsCleared
  rw [windowsEnded_comp, hp, ← hk]
  rfl

theorem applyWrite_channel_same (c : Fin 16) (s : State) : applyWrite (.channel c s.tables.channels[c]) s = s := by
  change writeChannel c s.tables.channels[c] s = s
  unfold writeChannel
  rw [if_pos rfl]
  simp [onTables, putAt]

theorem seekOnChannel_eq (c : Fin 16) (t : Fin 2) (s : State) :
    seekOnChannel c t s = putTrackerAt t (withMeasurers (fun r =>
      if s.tables.trackers[t].reference r = some c then sought (s.trackers[t].measurer r)
      else s.trackers[t].measurer r) s.trackers[t]) s := by
  unfold seekOnChannel
  simp only [toSeeking_eq]
  rfl

/-- Both trackers replaced, the one after the other. -/
theorem putBoth_eq (new : Fin 2 → Tracker) (s : State) :
    putTrackerAt 1 (new 1) (putTrackerAt 0 (new 0) s) = { s with trackers := Vector.ofFn new } := by
  unfold putTrackerAt
  congr 1
  refine eq_ofFn fun i => ?_
  rw [putAt_get, putAt_get]
  match i with
  | 0 => rfl
  | 1 => rfl

theorem putTrackerAt_other (x : Tracker) (s : State) :
    (putTrackerAt 0 x s).trackers[(1 : Fin 2)] = s.trackers[(1 : Fin 2)] :=
  (putAt_get s.trackers 0 1 x).trans (if_neg (by decide))

theorem seekOnChannel_both (c : Fin 16) (s : State) :
    seekOnChannel c 1 (seekOnChannel c 0 s) = { s with
      trackers := Vector.ofFn fun t => withMeasurers (fun r =>
        if s.tables.trackers[t].reference r = some c then sought (s.trackers[t].measurer r)
        else s.trackers[t].measurer r) s.trackers[t] } := by
  rw [← putBoth_eq, seekOnChannel_eq, seekOnChannel_eq, putTrackerAt_other]
  rfl

theorem applyWrite_channel {c : Fin 16} {e : ChannelEntry} {s : State} (h : s.tables.channels[c] ≠ e) :
    let old := s.tables.channels[c]
    let moved := old.source ≠ e.source ∨ old.slot ≠ e.slot
    applyWrite (.channel c e) s = { windowsEnded (fun x => x == c) s with
      tables := replaced s.tables (.channel c e)
      checks := s.checks.set c (blankChecks s.tables.plans[c])
      trackers := if moved then Vector.ofFn fun t => withMeasurers (fun r =>
          if s.tables.trackers[t].reference r = some c then sought (s.trackers[t].measurer r)
          else s.trackers[t].measurer r) s.trackers[t]
        else s.trackers } := by
  intro old moved
  let v : State := { s with tables := replaced s.tables (.channel c e) }
  have hw : applyWrite (.channel c e) s = (if (old.source != e.source || old.slot != e.slot) = true then
      seekOnChannel c 1 (seekOnChannel c 0 (clearChecks c (endAllWindows c v)))
      else clearChecks c (endAllWindows c v)) := if_neg h
  have hm : (old.source != e.source || old.slot != e.slot) = true ↔ moved := by
    rw [Bool.or_eq_true, bne_iff_ne, bne_iff_ne]
  have hc : clearChecks c (endAllWindows c v) = { windowsEnded (fun x => x == c) v with
      checks := s.checks.set c (blankChecks s.tables.plans[c]) } := by
    rw [endAllWindows_eq]
    rfl
  rw [hw, hc]
  by_cases hmv : moved
  · rw [if_pos (hm.mpr hmv), if_pos hmv, seekOnChannel_both]
    rfl
  · rw [if_neg (mt hm.mp hmv), if_neg hmv]
    rfl

end Sys2Proof.Machine

namespace Sys2Proof.Machine
open Sys2Proof.Claims

/-! ### PLANS (R97, R69) -/

/-- R97: what becomes of the check result of an entry of a new plan row, from the old row and its results. -/
def CheckKept (old : PlanRow) (results : List BinCheck) (b : PlanBin) (x : BinCheck) : Prop :=
  x.k = b.k ∧ (b.cls = .watch → x.state = none)
    ∧ (∀ o ∈ old.bins, ∀ y ∈ results, o.k = b.k → y.k = b.k →
      x.lastRatio = y.lastRatio ∧ x.lastClass = y.lastClass
        ∧ (o.cls ≠ .watch → b.cls ≠ .watch → x.state = y.state)
        ∧ (o.cls = .watch → b.cls ≠ .watch → x.state = some .clear))
    ∧ ((∀ o ∈ old.bins, o.k ≠ b.k) → x.lastRatio = none ∧ x.lastClass = none
        ∧ (b.cls ≠ .watch → x.state = some .clear))

theorem find?_eq_of_unique {α : Type} {f : α → Nat} {l : List α} (hn : (l.map f).Nodup) {x : α} (hx : x ∈ l)
    {k : Nat} (hk : f x = k) : l.find? (fun y => f y == k) = some x := by
  cases hf : l.find? fun y => f y == k with
  | none => exact absurd (beq_iff_eq.mpr hk) (List.find?_eq_none.mp hf x hx)
  | some y =>
    have hy : f y = k := eq_of_beq (List.find?_some (p := fun y => f y == k) hf)
    rw [List.inj_on_of_nodup_map hn (List.mem_of_find?_eq_some hf) hx (hy.trans hk.symm)]

theorem find?_eq_none_of {α : Type} {f : α → Nat} {l : List α} {k : Nat} (h : ∀ x ∈ l, f x ≠ k) :
    l.find? (fun y => f y == k) = none :=
  List.find?_eq_none.mpr fun x hx e => h x hx (eq_of_beq e)

theorem keptCheck_kept {old : PlanRow} {ch : ChannelChecks} (ho : (old.bins.map PlanBin.k).Nodup)
    (hc : (ch.bins.map BinCheck.k).Nodup) (b : PlanBin) : CheckKept old ch.bins b (keptCheck old ch b) := by
  have hk : (keptCheck old ch b).k = b.k := by
    unfold keptCheck
    dsimp only
    split <;> rfl
  have hw : b.cls = .watch → (keptCheck old ch b).state = none := by
    intro h
    unfold keptCheck
    dsimp only
    split
    · rw [if_pos (.inr h), if_pos h]
    · exact if_pos h
  refine ⟨hk, hw, fun o hob y hy hok hyk => ?_, fun hnone => ?_⟩
  · unfold keptCheck
    rw [find?_eq_of_unique ho hob hok, find?_eq_of_unique hc hy hyk]
    refine ⟨rfl, rfl, fun h1 h2 => if_neg (not_or.mpr ⟨h1, h2⟩), fun h1 h2 => ?_⟩
    exact (if_pos (.inl h1)).trans (if_neg h2)
  · unfold keptCheck
    rw [find?_eq_none_of hnone]
    exact ⟨rfl, rfl, fun h => if_neg h⟩

/-- The results that a channel holds are those kept for the row it has. -/
theorem results_kept {row : PlanRow} {results : List BinCheck}
    (h : List.Forall₂ (fun (b : PlanBin) (x : BinCheck) => x.k = b.k ∧ (x.state = none ↔ b.cls = .watch))
      row.bins results)
    (ho : (row.bins.map PlanBin.k).Nodup) (hc : (results.map BinCheck.k).Nodup) :
    List.Forall₂ (CheckKept row results) row.bins results := by
  rw [List.forall₂_iff_get] at h ⊢
  obtain ⟨hlen, h⟩ := h
  refine ⟨hlen, fun i h1 h2 => ?_⟩
  obtain ⟨hk, hs⟩ := h i h1 h2
  have hb := List.get_mem row.bins ⟨i, h1⟩
  have hx := List.get_mem results ⟨i, h2⟩
  refine ⟨hk, hs.mpr, fun o hob y hy hok hyk => ?_, fun hnone => absurd rfl (hnone _ hb)⟩
  obtain rfl := List.inj_on_of_nodup_map hc hy hx (hyk.trans hk.symm)
  obtain rfl := List.inj_on_of_nodup_map ho hob hb hok
  exact ⟨rfl, rfl, fun _ _ => rfl, fun h1 h2 => absurd h1 h2⟩

theorem results_keys {bins : List PlanBin} {results : List BinCheck} {P : PlanBin → BinCheck → Prop}
    (h : List.Forall₂ (fun b x => x.k = b.k ∧ P b x) bins results) :
    results.map BinCheck.k = bins.map PlanBin.k := by
  induction h with
  | nil => rfl
  | cons hx _ ih => rw [List.map_cons, List.map_cons, hx.1, ih]

theorem windowsEnded_binList (c : Fin 16) (l : List Nat) (s : State) :
    windowsEnded (fun x => x == c) { s with channels := updAt s.channels c fun u => { u with binList := l } }
      = { windowsEnded (fun x => x == c) s with
          channels := (windowsEnded (fun x => x == c) s).channels.set c
            { (windowsEnded (fun x => x == c) s).channels[c] with binList := l } } := by
  have hch : Vector.ofFn (fun x : Fin 16 => if (x == c) = true
        then contextsFreed (updAt s.channels c fun u => { u with binList := l })[x]
        else (updAt s.channels c fun u => { u with binList := l })[x])
      = putAt (windowsEnded (fun x => x == c) s).channels c
          { (windowsEnded (fun x => x == c) s).channels[c] with binList := l } := by
    symm
    refine eq_ofFn fun x => ?_
    rw [putAt_get, updAt_get, windowsEnded_eq]
    by_cases hx : x = c
    · subst hx
      simp [contextsFreed]
    · simp [hx]
  have hheld : ∀ x : Fin 16, (updAt s.channels c fun u => { u with binList := l })[x].held
      = s.channels[x].held := fun x => by
    rw [updAt_get]
    split <;> rfl
  have hk : (windowsEnded (fun x => x == c)
      { s with channels := updAt s.channels c fun u => { u with binList := l } }).counters
      = (windowsEnded (fun x => x == c) s).counters := by
    rw [windowsEnded_eq, windowsEnded_eq]
    simp only [hheld]
  rw [windowsEnded_eq] at hk ⊢
  dsimp only at hk ⊢
  rw [hk, hch]
  rfl

theorem applyWrite_plan {c : Fin 16} {e : PlanRow} {s : State} (ht : TablesLegal s) (hc : ChecksLegal s)
    (hl : s.opState ≠ .loading) :
    let old := s.tables.plans[c]
    let changed := e.bins.map PlanBin.k ≠ old.bins.map PlanBin.k
    let v := windowsEnded (fun x => decide changed && x == c) s
    ∃ bins, applyWrite (.plan c e) s = { v with
          tables := replaced s.tables (.plan c e)
          checks := s.checks.set c { s.checks[c] with bins := bins }
          channels := if changed then
              v.channels.set c { v.channels[c] with binList := e.bins.map PlanBin.k }
            else v.channels }
      ∧ List.Forall₂ (CheckKept old s.checks[c].bins) e.bins bins := by
  intro old changed v
  have hold : (old.bins.map PlanBin.k).Nodup := (ht.1 .plans c).2.2.2.2.2.imp Nat.ne_of_lt
  obtain ⟨hres, _⟩ := hc hl c
  have hkeys : (s.checks[c].bins.map BinCheck.k).Nodup := by
    rw [results_keys hres]
    exact hold
  have hv : ¬ changed → v = s := fun h => by
    change windowsEnded (fun x => decide changed && x == c) s = s
    simp only [h, decide_false, Bool.false_and]
    exact windowsEnded_none s
  by_cases he : old = e
  · have hch : ¬ changed := fun h => h (by rw [he])
    refine ⟨s.checks[c].bins, ?_, ?_⟩
    · rw [hv hch, if_neg hch]
      have hw : applyWrite (.plan c e) s = { s with tables := replaced s.tables (.plan c e) } := if_pos he
      rw [hw]
      have hs : s.checks.set c { s.checks[c] with bins := s.checks[c].bins } = s.checks :=
        Vector.set_getElem_self _
      rw [hs]
    · rw [← he]
      exact results_kept (hres.imp fun _ _ h => ⟨h.1, h.2.1⟩) hold hkeys
  · refine ⟨e.bins.map (keptCheck old s.checks[c]), ?_, ?_⟩
    · let w : State := { s with
        tables := replaced s.tables (.plan c e)
        checks := s.checks.set c { s.checks[c] with bins := e.bins.map (keptCheck old s.checks[c]) } }
      have hw : applyWrite (.plan c e) s = (if old.bins.map PlanBin.k = e.bins.map PlanBin.k then w
          else endAllWindows c { w with channels := updAt w.channels c fun u =>
            { u with binList := e.bins.map PlanBin.k } }) := if_neg he
      rw [hw]
      by_cases hch : changed
      · have hvc : v = windowsEnded (fun x => x == c) s := by
          change windowsEnded (fun x => decide changed && x == c) s = _
          simp only [hch, decide_true, Bool.true_and]
        rw [if_neg (Ne.symm hch), if_pos hch, endAllWindows_eq, windowsEnded_binList, hvc]
        rfl
      · rw [if_pos (not_not.mp hch).symm, if_neg hch, hv hch]
    · rw [List.forall₂_map_right_iff, List.forall₂_same]
      exact fun b _ => keptCheck_kept hold hkeys b

end Sys2Proof.Machine

namespace Sys2Proof.Machine
open Sys2Proof.Claims

/-! ### SOURCES (R8, R31, R34, R136, R141) -/

/-- What the trackers become when a source is lost or disabled. -/
def lossOutcomes (s : State) (src : Fin 8) : Outcomes where
  new := trackerAfterLoss s src
  moved t := (lossFault s src t).isSome
  fault := lossFault s src

theorem trackerLoses_outcome (s : State) (src : Fin 8) (t : Fin 2) {u : State} (hg : Ground s u)
    (ht : u.trackers[t] = s.trackers[t]) :
    TrackerBecomes t ((lossOutcomes s src).new t) ((lossOutcomes s src).moved t)
      ((lossOutcomes s src).fault t) u (trackerLoses t src u) := by
  have hr : ∀ r, u.referenceSlot t r src = s.referenceSlot t r src := fun r => by
    unfold State.referenceSlot
    rw [hg.1]
  have hm : measurersLost u src t = measurersLost s src t := by
    unfold measurersLost
    rw [ht]
    simp only [hr]
  have hf : failedWith u src t = failedWith s src t := by
    funext r
    unfold failedWith
    rw [hr, ht]
  have hn : trackerAfterLoss u src t = trackerAfterLoss s src t := by
    unfold trackerAfterLoss
    rw [hm, hf, hg.1]
  have hk : lossFault u src t = lossFault s src t := by
    unfold lossFault
    rw [hm, hf]
  have := trackerLoses_becomes t src u
  rw [hn, hk] at this
  exact this

theorem breakRun_eq (u : CaptureUnit) : u.breakRun = runBroken u := by
  unfold CaptureUnit.breakRun runBroken
  cases u.state <;> rfl

theorem consumes_iff (u : CaptureUnit) (src : Fin 8) :
    u.consumes src = true ↔ (u.state = .armed ∨ u.state = .post) ∧ u.source = src := by
  simp [CaptureUnit.consumes]

theorem sourceWritten_eq (u : CaptureUnit) (i : Fin 8) (old new : SourceEntry) :
    u.sourceWritten i old new = sourceRewritten i old new u := by
  have hb : (if ((old.enabled && !new.enabled) || old.sourceId != new.sourceId
        || old.channelCount != new.channelCount) = true then u.breakRun else u)
      = if (old.enabled = true ∧ new.enabled = false) ∨ old.sourceId ≠ new.sourceId
        ∨ old.channelCount ≠ new.channelCount then runBroken u else u := by
    refine if_congr ?_ (breakRun_eq u) rfl
    simp [or_assoc]
  unfold CaptureUnit.sourceWritten sourceRewritten
  refine if_congr (consumes_iff u i) ?_ rfl
  dsimp only
  rw [hb]
  exact if_congr beq_iff_eq rfl rfl

theorem trackerSeeks_eq (t : Fin 2) (src : Fin 8) (s : State) :
    trackerSeeks t src s = putTrackerAt t (withMeasurers (fun r =>
      if (s.referenceSlot t r src).isSome then sought (s.trackers[t].measurer r)
      else s.trackers[t].measurer r) s.trackers[t]) s := by
  unfold trackerSeeks onReaders
  simp only [toSeeking_eq]
  rfl

theorem trackerSeeks_both (src : Fin 8) (s : State) :
    trackerSeeks 1 src (trackerSeeks 0 src s) = { s with
      trackers := Vector.ofFn fun t => withMeasurers (fun r =>
        if (s.referenceSlot t r src).isSome then sought (s.trackers[t].measurer r)
        else s.trackers[t].measurer r) s.trackers[t] } := by
  rw [← putBoth_eq, trackerSeeks_eq, trackerSeeks_eq, putTrackerAt_other]
  rfl

theorem Reports.onlyReports {s t : State} (h : Reports s t) : OnlyReports s t := by
  obtain ⟨_, _, _, _, _, _, rfl⟩ := h
  rfl

theorem windowsEnded_reports (p : Fin 16 → Bool) {s t : State} (h : Reports s t) :
    Reports (windowsEnded p s) (windowsEnded p t) := by
  obtain ⟨r, b, f, vd, ad, ts, rfl⟩ := h
  exact ⟨r, b, f, vd, ad, ts, rfl⟩

/-- Both trackers have become what they become, and nothing else has changed but what reporting changes. -/
theorem TrackersDone.reports {o : Outcomes} {l : List (Fin 2)} {s u : State} (h : TrackersDone o l s u)
    (hl : l.Perm (List.finRange 2)) (hm : TrackersMove s u) :
    Reports { s with trackers := Vector.ofFn o.new } u := by
  obtain ⟨tr, r, b, f, vd, ad, ts, rfl⟩ := hm
  have htr : tr = Vector.ofFn o.new := eq_ofFn fun i => h.trackers_all hl i
  rw [htr]
  exact ⟨r, b, f, vd, ad, ts, rfl⟩

/-- The state once a SOURCES entry is replaced and the capture unit has followed (log 22). -/
def sourceEntryWritten (i : Fin 8) (e : SourceEntry) (s : State) : State :=
  { s with
    tables := replaced s.tables (.source i e)
    capture := sourceRewritten i s.tables.sources[i] e s.capture }

/-- R8: the four cases of a SOURCES write. -/
theorem applyWrite_source (i : Fin 8) (e : SourceEntry) (s : State) :
    let old := s.tables.sources[i]
    let names : Fin 16 → Bool := fun c => s.tables.channels[c].source == i
    applyWrite (.source i e) s =
      if (!old.enabled && e.enabled) = true then onSource i awaitSource (sourceEntryWritten i e s)
      else if (old.enabled && !e.enabled) = true then
        windowsEnded (fun c => names c && s.active c)
          (inSomeOrder (List.finRange 2) (fun t => trackerLoses t i)
            (onSource i offSource (sourceEntryWritten i e s)))
      else if (e.enabled && (old.sourceId != e.sourceId || old.channelCount != e.channelCount)) = true then
        windowsEnded names (trackerSeeks 1 i (trackerSeeks 0 i
          (onSource i awaitSource (sourceEntryWritten i e s))))
      else sourceEntryWritten i e s := by
  intro old names
  have hw : onCapture (fun u => u.sourceWritten i old e)
      (onTables (fun t => { t with sources := putAt t.sources i e }) s) = sourceEntryWritten i e s := by
    unfold onCapture
    simp only [sourceWritten_eq]
    rfl
  change writeSource i e s = _
  unfold writeSource
  dsimp only
  rw [hw, channelsWhere_endAllWindows, channelsWhere_endAllWindows]

/-- R8, R42 to R46: both trackers, in some order, when a source is disabled. -/
theorem inSomeOrder_trackerLoses (src : Fin 8) (s : State) :
    Reports { s with trackers := Vector.ofFn (trackerAfterLoss s src) }
        (inSomeOrder (List.finRange 2) (fun t => trackerLoses t src) s)
      ∧ ∀ t k, lossFault s src t = some k →
        Reported k s (inSomeOrder (List.finRange 2) (fun t => trackerLoses t src) s) := by
  obtain ⟨l, hl, hd⟩ := inSomeOrder_trackersDone (o := lossOutcomes s src)
    (f := fun t => trackerLoses t src) fun t u hg ht => trackerLoses_outcome s src t hg ht
  exact ⟨hd.reports hl (.inSomeOrder (fun t => trackerLoses_move t src) s),
    fun t k hk => hd.fault t (hl.mem_iff.mpr (List.mem_finRange t)) k hk⟩

/-- R8, R66, log 23: what disabling a source comes to. -/
theorem applyWrite_source_disabled {i : Fin 8} {e : SourceEntry} {s : State}
    (ho : s.tables.sources[i].enabled = true) (he : e.enabled = false) :
    OnlyReports { windowsEnded (fun c => (s.tables.channels[c].source == i) && s.active c)
          (sourceEntryWritten i e s) with
        sources := s.sources.set i { s.sources[i] with state := .off, silence := none }
        trackers := Vector.ofFn (trackerAfterLoss s i) } (applyWrite (.source i e) s)
      ∧ ∀ t k, lossFault s i t = some k → Reported k s (applyWrite (.source i e) s) := by
  obtain ⟨hrep, hfault⟩ := inSomeOrder_trackerLoses i (onSource i offSource (sourceEntryWritten i e s))
  rw [applyWrite_source, if_neg (by rw [ho]; simp), if_pos (by rw [ho, he]; rfl)]
  exact ⟨(windowsEnded_reports _ hrep).onlyReports, hfault⟩

/-- Settles O44: windows ended of several channels are windows ended of each, and each kind of write is put
together from its parts. -/
theorem writesThatEndWindows : Obligations.WritesThatEndWindows := by
  refine ⟨fun i e s => ?_, fun c e s => ⟨applyWrite_channel_same c s, applyWrite_channel⟩,
    fun g e s => applyWrite_group g e s, fun c e s ht hc hl => applyWrite_plan ht hc hl⟩
  have hch : (s.tables.sources[i].sourceId != e.sourceId
      || s.tables.sources[i].channelCount != e.channelCount) = true
      ↔ s.tables.sources[i].sourceId ≠ e.sourceId ∨ s.tables.sources[i].channelCount ≠ e.channelCount := by
    rw [Bool.or_eq_true, bne_iff_ne, bne_iff_ne]
  refine ⟨fun ho he => ?_, fun ho he hc => ?_, fun hoe hc => ?_, fun ho he => applyWrite_source_disabled ho he⟩
  · rw [applyWrite_source, if_pos (by rw [ho, he]; rfl)]
    rfl
  · rw [applyWrite_source, if_neg (by rw [ho]; simp), if_neg (by rw [he]; simp),
      if_pos (by rw [he, Bool.true_and]; exact hch.mpr hc), trackerSeeks_both]
    rfl
  · have h1 : ¬ (!s.tables.sources[i].enabled && e.enabled) = true := by rw [hoe]; simp
    have h2 : ¬ (s.tables.sources[i].enabled && !e.enabled) = true := by rw [hoe]; simp
    have h3 : ¬ (e.enabled && (s.tables.sources[i].sourceId != e.sourceId
        || s.tables.sources[i].channelCount != e.channelCount)) = true := fun h => by
      obtain ⟨h1, h2⟩ := Bool.and_eq_true_iff.mp h
      obtain hc | hc := hc
      · rw [hc] at h1
        cases h1
      · exact hc (hch.mp h2)
    rw [applyWrite_source, if_neg h1, if_neg h2, if_neg h3]
    rfl

end Sys2Proof.Machine

namespace Sys2Proof.Machine
open Sys2Proof.Claims

/-! ## O33: a source is lost (R19, R42, R43, R45, R46, R51, R66, R67, R136, R141, R180) -/

/-! ### The consumers of a loss -/

/-- The consumers that a loss of a source reaches (R18, R19). -/
def lossConsumers (s : State) (src : Fin 8) : List Consumer :=
  ((List.finRange 2).filter fun t => !(s.measurersOn t src).isEmpty).map Consumer.tracker
    ++ s.setConsumers src

/-- The tracker of a consumer that is one. -/
def Consumer.tracker? : Consumer → Option (Fin 2)
  | .tracker t => some t
  | _ => none

theorem mem_lossConsumers_tracker {s : State} {src : Fin 8} {t : Fin 2} :
    Consumer.tracker t ∈ lossConsumers s src ↔ ∃ r, (s.referenceSlot t r src).isSome = true := by
  have hm : (s.measurersOn t src).isEmpty = false ↔ ∃ r, (s.referenceSlot t r src).isSome = true := by
    unfold State.measurersOn
    rw [← Bool.not_eq_true, List.isEmpty_iff, List.filter_eq_nil_iff]
    simp only [List.mem_cons, List.not_mem_nil, or_false, forall_eq_or_imp, forall_eq]
    constructor
    · intro h
      by_contra hn
      exact h ⟨fun hp => hn ⟨_, hp⟩, fun hp => hn ⟨_, hp⟩⟩
    · rintro ⟨r, hr⟩ ⟨h1, h2⟩
      cases r
      · exact h1 hr
      · exact h2 hr
  unfold lossConsumers State.setConsumers
  rw [← hm]
  simp

theorem mem_lossConsumers_channel {s : State} {src : Fin 8} {c : Fin 16} :
    Consumer.channel c ∈ lossConsumers s src
      ↔ s.active c = true ∧ s.tables.channels[c].source = src := by
  unfold lossConsumers State.setConsumers
  simp

theorem mem_lossConsumers_capture {s : State} {src : Fin 8} :
    Consumer.capture ∈ lossConsumers s src
      ↔ (s.capture.state = .armed ∨ s.capture.state = .post) ∧ s.capture.source = src := by
  unfold lossConsumers State.setConsumers
  rw [← consumes_iff]
  simp

theorem not_mem_lossConsumers_measurer {s : State} {src : Fin 8} {t : Fin 2} {r : Role} :
    Consumer.measurer t r ∉ lossConsumers s src := by
  unfold lossConsumers State.setConsumers
  simp

theorem setConsumers_trackers (s : State) (src : Fin 8) :
    (s.setConsumers src).filterMap Consumer.tracker? = [] := by
  rw [List.filterMap_eq_nil_iff]
  intro x hx
  unfold State.setConsumers at hx
  cases x with
  | tracker t => simp at hx
  | measurer t r => rfl
  | channel c => rfl
  | capture => rfl

theorem lossConsumers_trackers (s : State) (src : Fin 8) :
    (lossConsumers s src).filterMap Consumer.tracker?
      = (List.finRange 2).filter fun t => !(s.measurersOn t src).isEmpty := by
  unfold lossConsumers
  rw [List.filterMap_append, setConsumers_trackers, List.append_nil, List.filterMap_map]
  exact filterMap_some _

/-! ### Channels and the capture unit along a loss -/

/-- The contexts of the channels that `p` names freed and counted: what a loss makes of them (R66). -/
def windowsFreed (p : Fin 16 → Bool) (s : State) : Vector ChannelUnit 16 × Vector ChannelCounters 16 :=
  (Vector.ofFn fun c => if p c then contextsFreed s.channels[c] else s.channels[c],
    Vector.ofFn fun c =>
      if p c then abandonedCounted s.channels[c].held s.counters.channels[c] else s.counters.channels[c])

theorem windowsFreed_congr {p : Fin 16 → Bool} {s u : State} (h1 : u.channels = s.channels)
    (h2 : u.counters.channels = s.counters.channels) : windowsFreed p u = windowsFreed p s := by
  unfold windowsFreed
  rw [h1, h2]

theorem windowsFreed_endWindows (p : Fin 16 → Bool) (c : Fin 16) (s : State) :
    windowsFreed p (endWindows c s) = windowsFreed (fun x => x == c || p x) s := by
  rw [endWindows_eq]
  unfold windowsFreed
  dsimp only
  congr 1
  · refine ofFn_congr fun x => ?_
    rw [updAt_get]
    by_cases hx : x = c
    · subst hx
      by_cases hp : p x = true <;> simp [hp, contextsFreed]
    · simp [hx]
  · refine ofFn_congr fun x => ?_
    rw [updAt_get, updAt_get]
    by_cases hx : x = c
    · subst hx
      by_cases hp : p x = true <;> simp [hp, abandonedCounted_add, held_contextsFreed]
    · simp [hx]

theorem TrackersMove.elsewhere {s u : State} (h : TrackersMove s u) : u.channels = s.channels
    ∧ u.counters.channels = s.counters.channels ∧ u.capture = s.capture ∧ u.engine = s.engine := by
  obtain ⟨_, _, _, _, _, _, _, rfl⟩ := h
  exact ⟨rfl, rfl, rfl, rfl⟩

theorem measurerItem_loss (t : Fin 2) (r : Role) (src : Fin 8) (s : State) :
    measurerItem t r src .loss s = s := by
  unfold measurerItem
  split
  · rfl
  · have h : s.trackers[t].setMeasurer r (s.trackers[t].measurer r) = s.trackers[t] := by cases r <;> rfl
    change putTrackerAt t (s.trackers[t].setMeasurer r (s.trackers[t].measurer r)) s = s
    rw [h]
    simp [putTrackerAt, putAt]

theorem consume_loss_windows (src : Fin 8) (l : List Consumer) (s : State) :
    let u := l.foldl (fun s who => consume src .loss who s) s
    (u.channels, u.counters.channels) = windowsFreed (fun c => l.contains (.channel c)) s := by
  induction l generalizing s with
  | nil =>
    unfold windowsFreed
    simp only [List.contains_nil, Bool.false_eq_true, if_false]
    rw [← eq_ofFn (v := s.channels) fun _ => rfl, ← eq_ofFn (v := s.counters.channels) fun _ => rfl]
    rfl
  | cons who l ih =>
    refine (ih _).trans ?_
    cases who with
    | channel c =>
      refine (windowsFreed_endWindows _ c s).trans (congrArg (windowsFreed · s) ?_)
      funext x
      rw [List.contains_cons]
      congr 1
      rw [Bool.eq_iff_iff]
      simp
    | tracker t =>
      obtain ⟨h1, h2, _⟩ := (trackerLoses_move t src s).elsewhere
      refine (windowsFreed_congr h1 h2).trans (congrArg (windowsFreed · s) ?_)
      funext x
      simp
    | measurer t r =>
      refine (windowsFreed_congr (congrArg State.channels (measurerItem_loss t r src s))
        (congrArg (fun s : State => s.counters.channels) (measurerItem_loss t r src s))).trans
        (congrArg (windowsFreed · s) ?_)
      funext x
      simp
    | capture =>
      refine (windowsFreed_congr (s := s) rfl rfl).trans (congrArg (windowsFreed · s) ?_)
      funext x
      simp

theorem runBroken_idem (u : CaptureUnit) : runBroken (runBroken u) = runBroken u := by
  unfold runBroken
  cases hs : u.state <;> simp [hs]

theorem consume_loss_capture (src : Fin 8) (l : List Consumer) (s : State) :
    let u := l.foldl (fun s who => consume src .loss who s) s
    u.engine = s.engine
      ∧ u.capture = if Consumer.capture ∈ l then runBroken s.capture else s.capture := by
  induction l generalizing s with
  | nil => exact ⟨rfl, rfl⟩
  | cons who l ih =>
    obtain ⟨h1, h2⟩ := ih (consume src .loss who s)
    have hs : (consume src .loss who s).engine = s.engine ∧ (consume src .loss who s).capture
        = if who = .capture then runBroken s.capture else s.capture := by
      cases who with
      | channel c => exact ⟨rfl, rfl⟩
      | tracker t =>
        obtain ⟨_, _, h3, h4⟩ := (trackerLoses_move t src s).elsewhere
        exact ⟨h4, h3⟩
      | measurer t r =>
        change (measurerItem t r src .loss s).engine = _ ∧ (measurerItem t r src .loss s).capture = _
        rw [measurerItem_loss]
        exact ⟨rfl, rfl⟩
      | capture => exact ⟨rfl, breakRun_eq s.capture⟩
    refine ⟨h1.trans hs.1, h2.trans ?_⟩
    rw [hs.2]
    by_cases hw : who = .capture
    · subst hw
      simp only [if_true, List.mem_cons, true_or]
      split
      · exact runBroken_idem _
      · rfl
    · simp [hw, Ne.symm hw]

/-! ### A source lost -/

/-- The state once SOURCE_LOST has been reported, before the loss reaches a consumer. -/
def lossReported (src : Fin 8) (s : State) : State :=
  reportFault .sourceLost src.val s.sources[src].lossDetail (markLost src s)

theorem lossReported_reports (src : Fin 8) (s : State) : Reports (markLost src s) (lossReported src s) :=
  reportFault_reports _ _ _ _

theorem lossReported_ground (src : Fin 8) (s : State) : Ground s (lossReported src s) := by
  obtain ⟨_, _, _, _, _, _, e⟩ := lossReported_reports src s
  rw [e]
  exact ⟨rfl, rfl, rfl, rfl⟩

/-- What a loss is about stands as it stood when it was reported. -/
theorem lossReported_same (src : Fin 8) (s : State) :
    lossConsumers (lossReported src s) src = lossConsumers s src
      ∧ lossOutcomes (lossReported src s) src = lossOutcomes s src
      ∧ (lossReported src s).trackers = s.trackers ∧ (lossReported src s).channels = s.channels
      ∧ (lossReported src s).counters.channels = s.counters.channels
      ∧ (lossReported src s).capture = s.capture ∧ (lossReported src s).engine = s.engine := by
  obtain ⟨_, _, _, _, _, _, e⟩ := lossReported_reports src s
  rw [e]
  exact ⟨rfl, rfl, rfl, rfl, rfl, rfl, rfl⟩

theorem reportFault_record (k : FaultKind) (n : Nat) (d : FaultDetail) (s : State) :
    (reportFault k n d s).fault.record
      = some (s.fault.record.getD { kind := k, subject := n, detail := d, time := s.localTime }) := by
  cases hr : s.fault.record with
  | some r =>
    rw [reportFault_held hr]
    exact hr
  | none =>
    rw [reportFault_empty hr]
    exact (offerWhileHeld_grows _ (fillFault k n d s)).2 _ rfl

/-- A tracker not among the consumers of a loss is what it was. -/
theorem lossOutcomes_unread {s : State} {src : Fin 8} {t : Fin 2}
    (h : Consumer.tracker t ∉ lossConsumers s src) :
    trackerAfterLoss s src t = s.trackers[t] ∧ lossFault s src t = none := by
  rw [mem_lossConsumers_tracker, not_exists] at h
  have hf : ∀ r, failedWith s src t r = false := fun r => by
    unfold failedWith
    rw [Bool.eq_false_iff.mpr (h r)]
    rfl
  have hm : measurersLost s src t = s.trackers[t] := by
    unfold measurersLost withMeasurers
    dsimp only
    rw [if_neg (h _), if_neg (h _)]
    rfl
  unfold trackerAfterLoss lossFault
  rw [hm]
  exact afterFailure_none _ (by simp [hf]) (by simp [hf])

/-- R51: a tracker reports a fault of its failure exactly where its state changes. -/
theorem failureFault_isSome (failed : Role → Bool) (hold : Nat) (tr : Tracker) :
    (failureFault failed tr).isSome = ((afterFailure failed hold tr).state != tr.state) := by
  by_cases hp : tr.state = .followPrimary ∧ failed .primary = true
  · have h1 : (failureFault failed tr).isSome = true := by
      unfold failureFault
      rw [if_pos hp]
      rfl
    rw [h1]
    unfold afterFailure
    rw [if_pos hp, hp.1]
    split <;> rfl
  · by_cases hq : tr.state = .followSecondary ∧ failed .secondary = true
    · unfold failureFault afterFailure
      rw [if_neg hp, if_pos hq, if_neg hp, if_pos hq, hq.1]
      rfl
    · obtain ⟨h1, h2⟩ := afterFailure_none hold hp hq
      rw [h1, h2]
      simp

theorem reportFault_offered {s : State} (hs : LineSettled .b s) (hn : s.records.length < 16)
    (k : FaultKind) (n : Nat) (d : FaultDetail) :
    Offered (if s.fault.record.isSome then [] else [.alarm (builtNow (.faultCaptured k n) s)]) s
      (reportFault k n d s) := by
  rw [reportFault_eq (.inr hs)]
  unfold faultTaken
  split
  · exact .of_same rfl rfl
  · exact ⟨rfl, rfl⟩

theorem Consumer.tracker?_eq_some {x : Consumer} {t : Fin 2} (h : x.tracker? = some t) : x = .tracker t := by
  cases x with
  | tracker t' =>
    cases h
    rfl
  | _ => cases h

theorem loseSource_fold (src : Fin 8) (s : State) : loseSource src s =
    inSomeOrder (lossConsumers (lossReported src s) src) (consume src .loss) (lossReported src s) := rfl

/-- The trackers that a loss reaches, in the order they come in. -/
theorem loseSource_trackersDone (src : Fin 8) (s : State) :
    ∃ l : List (Fin 2), l.Nodup ∧ (∀ t, t ∈ l ↔ Consumer.tracker t ∈ lossConsumers s src)
      ∧ TrackersDone (lossOutcomes s src) l (lossReported src s) (loseSource src s) := by
  obtain ⟨hcons, hout, htr, _⟩ := lossReported_same src s
  obtain ⟨l, ts, hp, e⟩ := inSomeOrder_cases (lossConsumers (lossReported src s) src) (consume src .loss)
    (lossReported src s)
  have hperm := hp.filterMap Consumer.tracker?
  have hn : (l.filterMap Consumer.tracker?).Nodup := by
    rw [hperm.nodup_iff, lossConsumers_trackers]
    exact (List.nodup_finRange 2).filter _
  have hd := foldl_trackersDone (o := lossOutcomes s src) (s := lossReported src s) (f := consume src .loss) hn
    (fun x hx hw u => ?_) (fun x hx t hw u hg hu => ?_) (.nil _ _ ts) (fun _ _ => by simp)
  · refine ⟨_, hn, fun t => ?_, ?_⟩
    · rw [← hcons, ← hp.mem_iff, List.mem_filterMap]
      constructor
      · rintro ⟨x, hx, hw⟩
        exact Consumer.tracker?_eq_some hw ▸ hx
      · exact fun h => ⟨_, h, rfl⟩
    · rw [List.nil_append] at hd
      rw [loseSource_fold, e]
      exact hd
  · cases x with
    | tracker t => cases hw
    | measurer t r => exact absurd (hp.mem_iff.mp hx) not_mem_lossConsumers_measurer
    | channel c => exact ⟨⟨rfl, rfl, rfl, rfl⟩, rfl, rfl, rfl, rfl, rfl, rfl⟩
    | capture => exact ⟨⟨rfl, rfl, rfl, rfl⟩, rfl, rfl, rfl, rfl, rfl, rfl⟩
  · obtain rfl := Consumer.tracker?_eq_some hw
    rw [← hout]
    exact trackerLoses_outcome (lossReported src s) src t hg hu

theorem mem_loss_order {s : State} {src : Fin 8} {l : List Consumer}
    (hp : l.Perm (lossConsumers (lossReported src s) src)) {x : Consumer} :
    x ∈ l ↔ x ∈ lossConsumers s src := by
  rw [hp.mem_iff, (lossReported_same src s).1]

/-- R66, R136, R141: the windows, the engine and the capture unit after a loss. -/
theorem loseSource_elsewhere (src : Fin 8) (s : State) :
    (∀ c : Fin 16,
      if s.active c = true ∧ s.tables.channels[c].source = src then
        (loseSource src s).channels[c] = contextsFreed s.channels[c]
          ∧ (loseSource src s).counters.channels[c]
            = abandonedCounted s.channels[c].held s.counters.channels[c]
      else (loseSource src s).channels[c] = s.channels[c]
        ∧ (loseSource src s).counters.channels[c] = s.counters.channels[c])
      ∧ (loseSource src s).engine = s.engine
      ∧ (loseSource src s).capture = (if (s.capture.state = .armed ∨ s.capture.state = .post)
        ∧ s.capture.source = src then runBroken s.capture else s.capture) := by
  obtain ⟨_, _, _, hch, hk, hcap, heng⟩ := lossReported_same src s
  obtain ⟨l, ts, hp, e⟩ := inSomeOrder_cases (lossConsumers (lossReported src s) src) (consume src .loss)
    (lossReported src s)
  rw [loseSource_fold, e]
  have hw := (consume_loss_windows src l { lossReported src s with ties := ts }).trans
    (windowsFreed_congr (s := s) hch hk)
  obtain ⟨h1, h2⟩ := consume_loss_capture src l { lossReported src s with ties := ts }
  have hw1 := congrArg Prod.fst hw
  have hw2 := congrArg Prod.snd hw
  refine ⟨fun c => ?_, h1.trans heng, ?_⟩
  · have hc : l.contains (.channel c) = true ↔ s.active c = true ∧ s.tables.channels[c].source = src := by
      rw [List.contains_iff_mem, mem_loss_order hp, mem_lossConsumers_channel]
    dsimp only at hw1 hw2
    rw [hw1, hw2]
    unfold windowsFreed
    simp only [Fin.getElem_fin, Vector.getElem_ofFn] at hc ⊢
    by_cases h : l.contains (.channel c) = true
    · rw [if_pos (hc.mp h), if_pos h, if_pos h]
      exact ⟨rfl, rfl⟩
    · rw [if_neg (mt hc.mpr h), if_neg h, if_neg h]
      exact ⟨rfl, rfl⟩
  · dsimp only at h2
    rw [h2, hcap]
    exact if_congr ((mem_loss_order hp).trans mem_lossConsumers_capture) rfl rfl

theorem loseSource_apart (src : Fin 8) (s : State) : Apart (markLost src s) (loseSource src s) :=
  (lossReported_reports src s).apart.trans (deliverLoss_talks (a := False) src _).apart

theorem loseSource_grows (src : Fin 8) (s : State) : FaultGrows (lossReported src s) (loseSource src s) :=
  (deliverLoss_talks (a := False) src _).grows

theorem loseSource_reported (src : Fin 8) (s : State) : Reported .sourceLost s (loseSource src s) :=
  Reported.grows (s := s) (t := lossReported src s)
    (reportFault_reported .sourceLost src.val s.sources[src].lossDetail (markLost src s))
    (loseSource_grows src s)

/-- R19, R42, R43, R45, R46, R66, R67, R136, R141: what the loss of a source does. -/
theorem loseSource_lossTaken (src : Fin 8) (s : State) : LossTaken src s (loseSource src s) := by
  obtain ⟨l, _, hmem, hd⟩ := loseSource_trackersDone src s
  obtain ⟨hw, heng, hcap⟩ := loseSource_elsewhere src s
  have htr := (lossReported_same src s).2.2.1
  refine ⟨(loseSource_apart src s).lostSources, loseSource_reported src s, eq_ofFn fun i => ?_,
    fun i k hk => ?_, hcap, hw, heng⟩
  · rw [hd.trackers i, htr]
    split
    · rfl
    · next hi => exact (lossOutcomes_unread (mt (hmem i).mpr hi)).1.symm
  · by_cases hi : i ∈ l
    · exact (hd.fault i hi k hk).1
    · have hn := (lossOutcomes_unread (mt (hmem i).mpr hi)).2
      exact absurd (hn.symm.trans hk) (by simp)

theorem loseSource_record (src : Fin 8) (s : State) : (loseSource src s).fault.record
    = some (s.fault.record.getD { kind := .sourceLost, subject := src.val, time := s.localTime
                                  detail := s.sources[src].lossDetail }) :=
  (loseSource_grows src s).2 _ (reportFault_record _ _ _ _)

/-- R51, R180, R181: the records that the loss of a source offers to a queue with room. -/
theorem loseSource_offered (src : Fin 8) {s : State} (hs : LineSettled .b s)
    (hn : s.records.length + 3 ≤ 16) :
    ∃ l : List (Fin 2),
      l.Perm ((List.finRange 2).filter fun i =>
        (loseSource src s).trackers[i].state != s.trackers[i].state)
        ∧ Offered ((if s.fault.record.isSome then []
            else [.alarm (builtNow (.faultCaptured .sourceLost src.val) s)])
          ++ l.map fun i => .alarm (builtNow (.trackerState i (loseSource src s).trackers[i].state
            (loseSource src s).trackers[i].freq) s)) s (loseSource src s) := by
  obtain ⟨l, hnodup, hmem, hd⟩ := loseSource_trackersDone src s
  have htr := (lossReported_same src s).2.2.1
  have ho := reportFault_offered (s := markLost src s) hs (show s.records.length < 16 by omega) .sourceLost
    src.val s.sources[src].lossDetail
  have ho' := ho.congr (s' := s) (t' := lossReported src s) ⟨rfl, rfl⟩ ⟨rfl, rfl⟩
  have hlen : l.length ≤ 2 := by simpa using hnodup.length_le_card
  have hlen1 := ho'.length
  have hone : (if (markLost src s).fault.record.isSome then ([] : List OutRecord)
      else [.alarm (builtNow (.faultCaptured .sourceLost src.val) (markLost src s))]).length ≤ 1 := by
    split <;> simp
  have hheld : (lossReported src s).fault.record.isSome = true := by
    rw [show (lossReported src s).fault.record = _ from reportFault_record _ _ _ _]
    rfl
  have hq := hd.queue (.inr hheld) (ho'.settled hs) (by omega)
  refine ⟨l.filter (lossOutcomes s src).moved, ?_, ?_⟩
  · refine (List.perm_ext_iff_of_nodup (hnodup.filter _) ((List.nodup_finRange 2).filter _)).mpr fun i => ?_
    have hmoved : (lossOutcomes s src).moved i
        = ((trackerAfterLoss s src i).state != s.trackers[i].state) := failureFault_isSome _ _ _
    have hti := hd.trackers i
    rw [htr] at hti
    rw [List.mem_filter, List.mem_filter, hmoved, hti]
    by_cases hi : i ∈ l
    · rw [if_pos hi]
      exact and_congr_left fun _ => iff_of_true hi (List.mem_finRange i)
    · rw [if_neg hi]
      simp [hi]
  · have hrec : (l.filter (lossOutcomes s src).moved).map (fun i =>
          movedRecord i ((lossOutcomes s src).new i) (lossReported src s))
        = (l.filter (lossOutcomes s src).moved).map fun i => OutRecord.alarm
          (builtNow (.trackerState i (loseSource src s).trackers[i].state
            (loseSource src s).trackers[i].freq) s) := by
      refine List.map_congr_left fun i hi => ?_
      have hti := hd.trackers i
      rw [if_pos (List.mem_filter.mp hi).1] at hti
      rw [(lossReported_ground src s).movedRecord, hti]
      rfl
    rw [← hrec]
    exact ho'.trans hq

/-- Settles O33: SOURCE_LOST is reported, and then the loss reaches each consumer once, in some order. -/
theorem silenceLosesASource : Obligations.SilenceLosesASource := by
  intro src ties s hp
  have hexec : exec (.silenceTimeout src ties) s = .next (if s.sources[src].state = .running
      then withTies ties (loseSource src) s else s) := congrArg Host.Outcome.next (if_pos hp)
  refine ⟨fun h => hexec.trans (congrArg Host.Outcome.next (if_neg h)), fun h => ?_⟩
  let w : State := { s with ties := ties }
  have ha := loseSource_apart src w
  obtain ⟨hA, hC⟩ := (loseSource_talks (a := False) src w).spareLineA fun _ _ h => h.spareLineA
  refine ⟨{ loseSource src w with ties := [] }, hexec.trans (congrArg Host.Outcome.next (if_pos h)), ha.sources,
    ha.sourceCounters, loseSource_lossTaken src w, loseSource_record src w, fun hs hn => ?_, ha.tables,
    ha.opState, hC, ha.store, hA⟩
  obtain ⟨l, hl, ho⟩ := loseSource_offered src (s := w) hs hn
  exact ⟨l, hl, ho.congr ⟨rfl, rfl⟩ ⟨rfl, rfl⟩⟩

end Sys2Proof.Machine

namespace Sys2Proof.Machine
open Sys2Proof.Claims

/-! ## O31: the order of a delivery (R18, R48, log 5) -/

/-! ### Series woven into one -/

theorem filter_of_sublist {α : Type} {p : α → Bool} {xs l : List α} (h : xs.Sublist l)
    (hn : (l.filter p).length = (xs.filter p).length) : l.filter p = xs.filter p :=
  ((h.filter p).eq_of_length hn.symm).symm

/-- Where one series alone holds the happenings that `p` picks, the woven list has them in its order. -/
theorem weaveAll_filter {α : Type} {p : α → Bool} {l : List (List α)} {xs : List α} (hx : xs ∈ l)
    (hn : (l.flatten.filter p).length = (xs.filter p).length) (ts : Ties) :
    (weaveAll l ts).1.filter p = xs.filter p :=
  filter_of_sublist (weaveAll_sublists l ts xs hx)
    ((((weaveAll_perm l ts).filter p).length_eq).trans hn)

theorem weaveAll_filter_none {α : Type} {p : α → Bool} {l : List (List α)} (h : l.flatten.filter p = [])
    (ts : Ties) : (weaveAll l ts).1.filter p = [] :=
  List.length_eq_zero_iff.mp
    ((((weaveAll_perm l ts).filter p).length_eq).trans (List.length_eq_zero_iff.mpr h))

/-- The first series keeps its own order. -/
theorem weave_filter_left {α : Type} {p : α → Bool} (after : List Bool) {xs ys : List α}
    (h : ys.filter p = []) (ts : Ties) : (weave after xs ys ts).1.filter p = xs.filter p :=
  filter_of_sublist (weave_sublists after xs ys ts).1
    ((((weave_perm after xs ys ts).filter p).length_eq).trans (by simp [h]))

/-- So does the second. -/
theorem weave_filter_right {α : Type} {p : α → Bool} (after : List Bool) {xs ys : List α}
    (h : xs.filter p = []) (ts : Ties) : (weave after xs ys ts).1.filter p = ys.filter p :=
  filter_of_sublist (weave_sublists after xs ys ts).2
    ((((weave_perm after xs ys ts).filter p).length_eq).trans (by simp [h]))

/-- Where `after` says so, a happening of the first series comes after the one that stands in its place of the
second; `j` is that place in what is left of the second series. -/
theorem weave_after {α : Type} (after : List Bool) (xs ys : List α) (ts : Ties) {k j : Nat} {x y : α}
    (ha : after[k]? = some true) (hx : xs[k]? = some x) (hy : ys[j]? = some y)
    (hj : j + xs.length = ys.length + k) :
    ∃ pre rest, (weave after xs ys ts).1 = pre ++ x :: rest ∧ y ∈ pre := by
  induction xs generalizing after ys ts k j with
  | nil => simp at hx
  | cons x' xs ih =>
    unfold weave
    dsimp only
    generalize hn : max (if after.headD false = true then ys.length - xs.length else 0)
      (ts.headD 0 % (ys.length + 1)) = n
    rw [List.length_cons] at hj
    have hjl : j < ys.length := (List.getElem?_eq_some_iff.mp hy).1
    cases k with
    | zero =>
      obtain rfl : x' = x := by simpa using hx
      have hd : after.headD false = true := by
        cases after with
        | nil => cases ha
        | cons b l => exact Option.some.inj ha
      have hjn : j < n := by
        rw [hd, if_pos rfl] at hn
        omega
      refine ⟨ys.take n, _, rfl, ?_⟩
      rw [List.mem_iff_getElem?]
      exact ⟨j, by rw [List.getElem?_take_of_lt hjn, hy]⟩
    | succ k =>
      by_cases hjn : j < n
      · have hxs : x ∈ (weave after.tail xs (ys.drop n) ts.tail).1 :=
          (weave_sublists _ _ _ _).1.subset (List.mem_of_getElem? (by simpa using hx))
        obtain ⟨a, b, hab⟩ := List.append_of_mem hxs
        refine ⟨ys.take n ++ x' :: a, b, by rw [hab]; simp, ?_⟩
        refine List.mem_append_left _ (List.mem_iff_getElem?.mpr ⟨j, ?_⟩)
        rw [List.getElem?_take_of_lt hjn, hy]
      · obtain ⟨pre, rest, e, hm⟩ := ih after.tail (ys.drop n) ts.tail (k := k) (j := j - n)
          (by rw [List.getElem?_tail]; exact ha) (by simpa using hx)
          (by rw [List.getElem?_drop, Nat.add_sub_cancel' (by omega)]; exact hy)
          (by rw [List.length_drop]; omega)
        exact ⟨ys.take n ++ x' :: pre, rest, by rw [e]; simp, by simp [hm]⟩

theorem append_cons_inj_of_nodup {α : Type} {pre pre' rest rest' : List α} {x : α}
    (hn : (pre ++ x :: rest).Nodup) (h : pre ++ x :: rest = pre' ++ x :: rest') : pre = pre' := by
  induction pre generalizing pre' with
  | nil =>
    cases pre' with
    | nil => rfl
    | cons y pre' =>
      obtain ⟨rfl, rfl⟩ := List.cons.inj h
      simp at hn
  | cons z pre ih =>
    cases pre' with
    | nil =>
      obtain ⟨rfl, _⟩ := List.cons.inj h
      simp at hn
    | cons y pre' =>
      obtain ⟨hz, h'⟩ := List.cons.inj h
      rw [hz, ih (List.nodup_cons.mp hn).2 h']

end Sys2Proof.Machine

namespace Sys2Proof.Machine
open Sys2Proof.Claims

/-! ### What each consumer has in the order of a delivery -/

/-- A happening's part in the series of tracker `i`: which of its measurers takes what. -/
def measurerPart (i : Fin 2) : Consumer × Item → Option (Role × Item)
  | (.measurer t r, item) => if t = i then some (r, item) else none
  | _ => none

theorem measurerPart_eq_some {i : Fin 2} {x : Consumer × Item} {r : Role} {item : Item} :
    measurerPart i x = some (r, item) ↔ x = (.measurer i r, item) := by
  obtain ⟨who, it⟩ := x
  cases who with
  | measurer t r' =>
    unfold measurerPart
    by_cases h : t = i <;> simp [h]
  | _ => simp [measurerPart]

theorem mem_seriesOf {items : List Item} {who : Consumer} {x : Consumer × Item} :
    x ∈ seriesOf items who ↔ x.1 = who ∧ x.2 ∈ items := by
  unfold seriesOf
  obtain ⟨w, it⟩ := x
  simp only [List.mem_map, Prod.mk.injEq]
  constructor
  · rintro ⟨a, ha, rfl, rfl⟩
    exact ⟨rfl, ha⟩
  · rintro ⟨rfl, h⟩
    exact ⟨it, h, rfl, rfl⟩

theorem seriesOf_filter_self (items : List Item) (who : Consumer) :
    (seriesOf items who).filter (fun x => decide (x.1 = who)) = seriesOf items who :=
  List.filter_eq_self.mpr fun _ hx => decide_eq_true (mem_seriesOf.mp hx).1

theorem seriesOf_filter_other {who who' : Consumer} (h : who' ≠ who) (items : List Item) :
    (seriesOf items who').filter (fun x => decide (x.1 = who)) = [] :=
  List.filter_eq_nil_iff.mpr fun _ hx => by
    rw [(mem_seriesOf.mp hx).1]
    simpa using h

section
variable (s : State) (src : Fin 8) (items : List Item) (t : Fin 2) (ts : Ties)

theorem measurerSeries_both {p q : Fin 8} (hp : s.referenceSlot t .primary src = some p)
    (hq : s.referenceSlot t .secondary src = some q) : (s.measurerSeries src items t ts).1
      = (weave (s.bothQualify t src items) (seriesOf items (.measurer t .secondary))
          (seriesOf items (.measurer t .primary)) ts).1 := by
  simp [State.measurerSeries, State.measurersOn, hp, hq]

theorem measurerSeries_primary {p : Fin 8} (hp : s.referenceSlot t .primary src = some p)
    (hq : s.referenceSlot t .secondary src = none) :
    (s.measurerSeries src items t ts).1 = seriesOf items (.measurer t .primary) := by
  simp [State.measurerSeries, State.measurersOn, hp, hq]

theorem measurerSeries_secondary {q : Fin 8} (hp : s.referenceSlot t .primary src = none)
    (hq : s.referenceSlot t .secondary src = some q) :
    (s.measurerSeries src items t ts).1 = seriesOf items (.measurer t .secondary) := by
  simp [State.measurerSeries, State.measurersOn, hp, hq]

theorem measurerSeries_none (hp : s.referenceSlot t .primary src = none)
    (hq : s.referenceSlot t .secondary src = none) : (s.measurerSeries src items t ts).1 = [] := by
  simp [State.measurerSeries, State.measurersOn, hp, hq]

/-- R18: each measurer that reads the source has the whole series in its order. -/
theorem measurerSeries_filter (r : Role) :
    (s.measurerSeries src items t ts).1.filter (fun x => decide (x.1 = .measurer t r))
      = if (s.referenceSlot t r src).isSome then seriesOf items (.measurer t r) else [] := by
  have hne : Consumer.measurer t .primary ≠ .measurer t .secondary := by simp
  cases hp : s.referenceSlot t .primary src with
  | none =>
    cases hq : s.referenceSlot t .secondary src with
    | none =>
      rw [measurerSeries_none s src items t ts hp hq]
      cases r <;> simp [hp, hq]
    | some q =>
      rw [measurerSeries_secondary s src items t ts hp hq]
      cases r with
      | primary => simp [hp, seriesOf_filter_other hne.symm]
      | secondary => simp [hq, seriesOf_filter_self]
  | some p =>
    cases hq : s.referenceSlot t .secondary src with
    | none =>
      rw [measurerSeries_primary s src items t ts hp hq]
      cases r with
      | primary => simp [hp, seriesOf_filter_self]
      | secondary => simp [hq, seriesOf_filter_other hne]
    | some q =>
      rw [measurerSeries_both s src items t ts hp hq]
      cases r with
      | primary =>
        rw [weave_filter_right _ (seriesOf_filter_other hne.symm items), seriesOf_filter_self, hp]
        rfl
      | secondary =>
        rw [weave_filter_left _ (seriesOf_filter_other hne items), seriesOf_filter_self, hq]
        rfl

variable {s src items t ts}

theorem mem_measurerSeries {x : Consumer × Item} (h : x ∈ (s.measurerSeries src items t ts).1) :
    (∃ r, x.1 = .measurer t r) ∧ x.2 ∈ items := by
  have hs : ∀ {r}, x ∈ seriesOf items (.measurer t r) → (∃ r, x.1 = .measurer t r) ∧ x.2 ∈ items :=
    fun hx => ⟨⟨_, (mem_seriesOf.mp hx).1⟩, (mem_seriesOf.mp hx).2⟩
  cases hp : s.referenceSlot t .primary src with
  | none =>
    cases hq : s.referenceSlot t .secondary src with
    | none =>
      rw [measurerSeries_none s src items t ts hp hq] at h
      cases h
    | some q =>
      rw [measurerSeries_secondary s src items t ts hp hq] at h
      exact hs h
  | some p =>
    cases hq : s.referenceSlot t .secondary src with
    | none =>
      rw [measurerSeries_primary s src items t ts hp hq] at h
      exact hs h
    | some q =>
      rw [measurerSeries_both s src items t ts hp hq, (weave_perm _ _ _ _).mem_iff, List.mem_append] at h
      exact h.elim hs hs

end

/-! ### The order of a delivery -/

section
variable (s : State) (src : Fin 8) (items : List Item)

/-- The happenings of a delivery, in their order. -/
def happenings : List (Consumer × Item) := (s.delivery src items).1

theorem setConsumers_nodup : (s.setConsumers src).Nodup := by
  unfold State.setConsumers
  refine List.Nodup.append ?_ ?_ ?_
  · exact ((List.nodup_finRange 16).filter _).map fun a b h => Consumer.channel.inj h
  · split <;> simp
  · intro x hx hy
    obtain ⟨c, _, rfl⟩ := List.mem_map.mp hx
    split at hy <;> simp at hy

theorem setConsumers_not_measurer {t : Fin 2} {r : Role} : Consumer.measurer t r ∉ s.setConsumers src := by
  unfold State.setConsumers
  simp

theorem setConsumers_not_tracker {t : Fin 2} : Consumer.tracker t ∉ s.setConsumers src := by
  unfold State.setConsumers
  simp

theorem flatten_series_filter (l : List Consumer) (hl : l.Nodup) (who : Consumer) :
    ((l.map (seriesOf items)).flatten.filter fun x => decide (x.1 = who))
      = if who ∈ l then seriesOf items who else [] := by
  induction l with
  | nil => rfl
  | cons w l ih =>
    obtain ⟨hw, hl⟩ := List.nodup_cons.mp hl
    rw [List.map_cons, List.flatten_cons, List.filter_append, ih hl]
    by_cases h : w = who
    · subst h
      rw [seriesOf_filter_self, if_neg hw, if_pos (by simp), List.append_nil]
    · rw [seriesOf_filter_other h, List.nil_append]
      exact if_congr (by simp [Ne.symm h]) rfl rfl

theorem measurerSeries_filter_other {who : Consumer} (h : ∀ r t, who ≠ .measurer t r) (t : Fin 2) (ts : Ties) :
    (s.measurerSeries src items t ts).1.filter (fun x => decide (x.1 = who)) = [] :=
  List.filter_eq_nil_iff.mpr fun x hx hw => by
    obtain ⟨⟨r, hr⟩, _⟩ := mem_measurerSeries hx
    rw [decide_eq_true_iff] at hw
    exact h r t (hw.symm.trans hr)

/-- R18: a channel unit or the capture unit, where it is a consumer, has the whole series in its order. -/
theorem happenings_filter {who : Consumer} (h : ∀ r t, who ≠ .measurer t r) :
    (happenings s src items).filter (fun x => decide (x.1 = who))
      = if who ∈ s.setConsumers src then seriesOf items who else [] := by
  unfold happenings State.delivery
  dsimp only
  generalize (s.measurerSeries src items 0 s.ties).2 = t1
  generalize (s.measurerSeries src items 1 t1).2 = t2
  have hf : (((s.measurerSeries src items 0 s.ties).1 :: (s.measurerSeries src items 1 t1).1
      :: (s.setConsumers src).map (seriesOf items)).flatten.filter fun x => decide (x.1 = who))
      = if who ∈ s.setConsumers src then seriesOf items who else [] := by
    rw [List.flatten_cons, List.flatten_cons, List.filter_append, List.filter_append,
      measurerSeries_filter_other s src items h, measurerSeries_filter_other s src items h,
      flatten_series_filter _ _ (setConsumers_nodup s src)]
    rfl
  by_cases hw : who ∈ s.setConsumers src
  · rw [if_pos hw] at hf ⊢
    rw [weaveAll_filter (xs := seriesOf items who) (by simp [List.mem_map]; exact .inr (.inr ⟨who, hw, rfl⟩))
      (by rw [hf, seriesOf_filter_self]), seriesOf_filter_self]
  · rw [if_neg hw] at hf ⊢
    exact weaveAll_filter_none hf _

theorem filterMap_of_filter {α β : Type} {f : α → Option β} {l l' : List α}
    (h : l.filter (fun x => (f x).isSome) = l'.filter (fun x => (f x).isSome)) :
    l.filterMap f = l'.filterMap f := by
  have hf : ∀ l : List α, (l.filter fun x => (f x).isSome).filterMap f = l.filterMap f := fun l => by
    rw [List.filterMap_filter]
    refine List.filterMap_congr fun x _ => ?_
    cases f x <;> rfl
  rw [← hf l, h, hf l']

theorem measurerSeries_filter_part {i t : Fin 2} (h : t ≠ i) (ts : Ties) :
    (s.measurerSeries src items t ts).1.filter (fun x => (measurerPart i x).isSome) = [] :=
  List.filter_eq_nil_iff.mpr fun x hx hw => by
    obtain ⟨⟨r, hr⟩, _⟩ := mem_measurerSeries hx
    obtain ⟨⟨r', it⟩, hw⟩ := Option.isSome_iff_exists.mp hw
    rw [measurerPart_eq_some.mp hw] at hr
    exact h (by simpa using hr.symm |> congrArg (fun | .measurer t _ => t | _ => 0))

theorem flatten_series_filter_part (i : Fin 2) :
    (((s.setConsumers src).map (seriesOf items)).flatten.filter fun x => (measurerPart i x).isSome) = [] :=
  List.filter_eq_nil_iff.mpr fun x hx hw => by
    obtain ⟨l, hl, hx⟩ := List.mem_flatten.mp hx
    obtain ⟨who, hwho, rfl⟩ := List.mem_map.mp hl
    obtain ⟨⟨r, it⟩, hw⟩ := Option.isSome_iff_exists.mp hw
    rw [measurerPart_eq_some.mp hw] at hx
    obtain ⟨rfl, _⟩ := mem_seriesOf.mp hx
    exact setConsumers_not_measurer s src hwho

/-- The measurers of a tracker have, in a delivery, what their own series give. -/
theorem happenings_part (i : Fin 2) : ∃ ts, (happenings s src items).filterMap (measurerPart i)
    = (s.measurerSeries src items i ts).1.filterMap (measurerPart i) := by
  unfold happenings State.delivery
  dsimp only
  generalize (s.measurerSeries src items 0 s.ties).2 = t1
  generalize (s.measurerSeries src items 1 t1).2 = t2
  have h0 := flatten_series_filter_part s src items i
  fin_cases i
  · refine ⟨s.ties, filterMap_of_filter (weaveAll_filter (by simp) ?_ t2)⟩
    simp only [Fin.zero_eta] at h0 ⊢
    rw [List.flatten_cons, List.flatten_cons, List.filter_append, List.filter_append, h0,
      measurerSeries_filter_part s src items (t := 1) (by decide), List.append_nil, List.append_nil]
  · refine ⟨t1, filterMap_of_filter (weaveAll_filter (by simp) ?_ t2)⟩
    simp only [Fin.mk_one] at h0 ⊢
    rw [List.flatten_cons, List.flatten_cons, List.filter_append, List.filter_append, h0,
      measurerSeries_filter_part s src items (t := 0) (by decide), List.append_nil, List.nil_append]

theorem mem_happenings {x : Consumer × Item} (h : x ∈ happenings s src items) :
    x.1.tracker? = none ∧ x.2 ∈ items := by
  unfold happenings State.delivery at h
  dsimp only at h
  rw [(weaveAll_perm _ _).mem_iff, List.flatten_cons, List.flatten_cons, List.mem_append, List.mem_append] at h
  have hm : ∀ {t ts}, x ∈ (s.measurerSeries src items t ts).1 → x.1.tracker? = none ∧ x.2 ∈ items :=
    fun hx => by
      obtain ⟨⟨r, hr⟩, hi⟩ := mem_measurerSeries hx
      exact ⟨by rw [hr]; rfl, hi⟩
  obtain h | h | h := h
  · exact hm h
  · exact hm h
  · obtain ⟨l, hl, hx⟩ := List.mem_flatten.mp h
    obtain ⟨who, hwho, rfl⟩ := List.mem_map.mp hl
    obtain ⟨rfl, hi⟩ := mem_seriesOf.mp hx
    refine ⟨?_, hi⟩
    cases hw : x.1 with
    | tracker t => exact absurd (hw ▸ hwho) (setConsumers_not_tracker s src)
    | _ => rfl

end

end Sys2Proof.Machine

namespace Sys2Proof.Machine
open Sys2Proof.Claims

/-! ### The two measurers of a tracker in a delivery (R46, R48, log 5) -/

section
variable (s : State) (src : Fin 8) (items : List Item) (i : Fin 2)

/-- What the measurers of tracker `i` take in a delivery, in the order of it. -/
def measurersOrder : List (Role × Item) := (happenings s src items).filterMap (measurerPart i)

theorem measurerPart_isSome_and {i : Fin 2} {r : Role} (x : Consumer × Item) :
    (measurerPart i x).filter (fun y => decide (y.1 = r))
      = (if decide (x.1 = .measurer i r) then measurerPart i x else none) := by
  cases hx : measurerPart i x with
  | none =>
    split <;> rfl
  | some y =>
    obtain ⟨r', it⟩ := y
    rw [measurerPart_eq_some.mp hx]
    by_cases h : r' = r <;> simp [h]

theorem filterMap_part_seriesOf (r : Role) :
    (seriesOf items (.measurer i r)).filterMap (measurerPart i) = items.map fun it => (r, it) := by
  unfold seriesOf
  rw [List.filterMap_map]
  exact (List.filterMap_congr fun it _ => measurerPart_eq_some.mpr rfl).trans (congrFun List.filterMap_eq_map _)

/-- R18: each measurer that reads the source takes the whole series in its order. -/
theorem measurersOrder_filter (r : Role) :
    ((measurersOrder s src items i).filter fun x => decide (x.1 = r)).map Prod.snd
      = if (s.referenceSlot i r src).isSome then items else [] := by
  obtain ⟨ts, h⟩ := happenings_part s src items i
  have hf : ((s.measurerSeries src items i ts).1.filterMap (measurerPart i)).filter (fun x => decide (x.1 = r))
      = ((s.measurerSeries src items i ts).1.filter fun x => decide (x.1 = .measurer i r)).filterMap
        (measurerPart i) := by
    rw [List.filter_filterMap, List.filterMap_filter]
    exact List.filterMap_congr fun x _ => measurerPart_isSome_and x
  unfold measurersOrder
  rw [h, hf, measurerSeries_filter]
  split
  · rw [filterMap_part_seriesOf, List.map_map]
    exact List.map_id _
  · rfl

variable {s src items i}

/-- R48: on an item on which both measurers qualify the primary comes first. -/
theorem measurersOrder_primary_first (hn : items.Nodup) {k : Nat} {it : Item} (hk : items[k]? = some it)
    (hb : (s.bothQualify i src items)[k]? = some true) {pre rest : List (Role × Item)}
    (ho : measurersOrder s src items i = pre ++ (.secondary, it) :: rest) : (.primary, it) ∈ pre := by
  obtain ⟨p, q, hp, hq⟩ : ∃ p q, s.referenceSlot i .primary src = some p
      ∧ s.referenceSlot i .secondary src = some q := by
    unfold State.bothQualify at hb
    split at hb
    · next p q hp hq => exact ⟨p, q, hp, hq⟩
    · cases hb
  have hser : ∀ who, (seriesOf items who)[k]? = some (who, it) := fun who => by
    unfold seriesOf
    rw [List.getElem?_map, hk]
    rfl
  have hlen : ∀ who, (seriesOf items who).length = items.length := fun who => List.length_map ..
  have hnd : ∀ who, (seriesOf items who).Nodup := fun who => hn.map fun a b h => (Prod.mk.inj h).2
  obtain ⟨ts, h⟩ := happenings_part s src items i
  rw [measurerSeries_both s src items i ts hp hq] at h
  obtain ⟨a, b, e, hm⟩ := weave_after (s.bothQualify i src items) (seriesOf items (.measurer i .secondary))
    (seriesOf items (.measurer i .primary)) ts (j := k) hb (hser _) (hser _) (by rw [hlen, hlen]; omega)
  have hw : (weave (s.bothQualify i src items) (seriesOf items (.measurer i .secondary))
      (seriesOf items (.measurer i .primary)) ts).1.Nodup := by
    rw [(weave_perm _ _ _ _).nodup_iff]
    refine (hnd _).append (hnd _) fun x hx hy => ?_
    have := (mem_seriesOf.mp hx).1.symm.trans (mem_seriesOf.mp hy).1
    simp at this
  have hsplit : measurersOrder s src items i
      = a.filterMap (measurerPart i) ++ (.secondary, it) :: b.filterMap (measurerPart i) := by
    unfold measurersOrder
    rw [h, e, List.filterMap_append, List.filterMap_cons_some (measurerPart_eq_some.mpr rfl)]
  have hon : (measurersOrder s src items i).Nodup := by
    unfold measurersOrder
    rw [h]
    refine List.Nodup.filterMap (fun x y z hx hy => ?_) hw
    exact (measurerPart_eq_some.mp hx).trans (measurerPart_eq_some.mp hy).symm
  rw [hsplit] at hon ho
  rw [← append_cons_inj_of_nodup hon ho]
  exact List.mem_filterMap.mpr ⟨_, hm, measurerPart_eq_some.mpr rfl⟩

end

/-! ### Whether a measurer qualifies on an item -/

theorem qualifyings_getElem? (floor : Nat) (slot : Fin 8) (m : Measurer) {items : List Item} {k : Nat}
    {it : Item} (h : items[k]? = some it) : (m.qualifyings floor slot items)[k]?
      = some (((items.take k).foldl (fun m it => (m.item floor slot it).1) m).item floor slot it).2.qualifies := by
  induction items generalizing m k with
  | nil => cases h
  | cons it' items ih =>
    cases k with
    | zero =>
      obtain rfl : it' = it := by simpa using h
      rfl
    | succ k => exact ih _ (by simpa using h)

theorem qualifies_eq_true {e : MeasurerEvent} : e.qualifies = true ↔ ∃ f, e = .valid f true := by
  cases e with
  | valid f q => simp [MeasurerEvent.qualifies]
  | _ => simp [MeasurerEvent.qualifies]

/-- The items of a taken frame that does not realign its source: its start notice, where it has one, and its
sets. -/
def takenItems (started : Bool) (sets : List SampleSet) : List Item :=
  (if started then [.start] else []) ++ sets.map .set

theorem takenItems_nodup {started : Bool} {sets : List SampleSet} (h : sets.Nodup) :
    (takenItems started sets).Nodup := by
  have hs : (sets.map Item.set).Nodup := h.map fun a b e => Item.set.inj e
  unfold takenItems
  split
  · exact List.nodup_cons.mpr ⟨by simp, hs⟩
  · exact hs

/-- A measurer after the start notice and the first sets of a frame. -/
theorem foldl_takenItems (started : Bool) (sets : List SampleSet) (floor : Nat) (slot : Fin 8) (n : Nat)
    (m : Measurer) :
    ((takenItems started sets).take (n + if started then 1 else 0)).foldl
        (fun m it => (m.item floor slot it).1) m
      = (sets.take n).foldl (fun m ss => (m.takes floor (ss.slot? slot)).1)
          (if started then sought m else m) := by
  have hf : ∀ (m : Measurer), ((sets.map Item.set).take n).foldl (fun m it => (m.item floor slot it).1) m
      = (sets.take n).foldl (fun m ss => (m.takes floor (ss.slot? slot)).1) m := fun m => by
    rw [← List.map_take, List.foldl_map]
    rfl
  cases started with
  | false => exact hf m
  | true =>
    change ((sets.map Item.set).take n).foldl _ m.toSeeking = _
    rw [hf, toSeeking_eq]
    rfl

theorem takenItems_getElem? (started : Bool) (sets : List SampleSet) (n : Nat) :
    (takenItems started sets)[n + if started then 1 else 0]? = sets[n]?.map .set := by
  cases started with
  | false => exact List.getElem?_map ..
  | true => exact (List.getElem?_cons_succ ..).trans (List.getElem?_map ..)

/-- R42, R48: both measurers of a tracker qualify on a set of a taken frame, as the order of a delivery asks. -/
theorem bothQualify_getElem? {s : State} {src : Fin 8} {i : Fin 2} {started : Bool} {sets : List SampleSet}
    {n : Nat} {ss : SampleSet} (hn : sets[n]? = some ss)
    (hq : ∀ r, ∃ p f, s.referenceSlot i r src = some p ∧ ((((sets.take n).foldl (fun m x =>
      (m.takes s.tables.trackers[i].floor (x.slot? p)).1)
        (if started then sought (s.trackers[i].measurer r) else s.trackers[i].measurer r)).takes
          s.tables.trackers[i].floor (ss.slot? p)).2 = .valid f true)) :
    (s.bothQualify i src (takenItems started sets))[n + if started then 1 else 0]? = some true := by
  have hk := takenItems_getElem? started sets n
  rw [hn, Option.map_some] at hk
  have hone : ∀ r p f, ((((sets.take n).foldl (fun m x =>
      (m.takes s.tables.trackers[i].floor (x.slot? p)).1)
        (if started then sought (s.trackers[i].measurer r) else s.trackers[i].measurer r)).takes
          s.tables.trackers[i].floor (ss.slot? p)).2 = .valid f true) →
      ((s.trackers[i].measurer r).qualifyings s.tables.trackers[i].floor p
        (takenItems started sets))[n + if started then 1 else 0]? = some true := by
    intro r p f h
    rw [qualifyings_getElem? _ _ _ hk, foldl_takenItems]
    exact congrArg some (qualifies_eq_true.mpr ⟨f, h⟩)
  obtain ⟨p, f, hp, hp'⟩ := hq .primary
  obtain ⟨q, g, hq, hq'⟩ := hq .secondary
  unfold State.bothQualify
  rw [hp, hq]
  dsimp only
  rw [List.getElem?_zipWith]
  have h1 := hone .primary p f hp'
  have h2 := hone .secondary q g hq'
  unfold Tracker.measurer at h1 h2
  dsimp only at h1 h2
  rw [h1, h2]
  rfl

end Sys2Proof.Machine

namespace Sys2Proof.Machine
open Sys2Proof.Claims

/-! ### A tracker along a delivery (R38, R39, R42, R45, R46, R48) -/

/-- A tracker once one of its measurers has taken one item of its source's series. -/
def itemTaken (e : TrackerEntry) (slot : Role → Option (Fin 8)) (tr : Tracker) (x : Role × Item) : Tracker :=
  match x.2 with
  | .set ss => trackerTakes e slot tr (x.1, ss)
  | .start | .realign =>
    if (slot x.1).isSome then tr.setMeasurer x.1 (sought (tr.measurer x.1)) else tr
  | .loss => tr

/-- R44: the state in which a tracker follows a measurer. -/
def followState : Role → TrackerState
  | .primary => .followPrimary
  | .secondary => .followSecondary

theorem followState_ne_fixed (r : Role) : followState r ≠ .fixed := by
  cases r <;> simp [followState]

section
variable {r : Role} {f : Nat} {q : Bool} {tr : Tracker}

theorem steered_eq : steered r f q tr =
    if tr.state = followState r then tr.setFrequency f
    else if q = true ∧ (tr.state = .hold ∨ tr.state = .free ∨ (tr.state = .followSecondary ∧ r = .primary)) then
      tr.follow r f
    else tr := by
  cases r <;> rfl

/-- R44: a tracker that follows the measurer takes its frequency. -/
theorem steered_own (h : tr.state = followState r) : steered r f q tr = tr.setFrequency f := by
  rw [steered_eq, if_pos h]

/-- R45, R46, R48: a tracker that follows no measurer, or the secondary while the primary measures, takes up a
measurer that qualifies. -/
theorem steered_recovered (h : tr.state = .hold ∨ tr.state = .free
    ∨ tr.state = .followSecondary ∧ r = .primary) :
    steered r f q tr = if q then tr.follow r f else tr := by
  have hn : tr.state ≠ followState r := by
    obtain h | h | ⟨h, rfl⟩ := h
    · rw [h]; cases r <;> simp [followState]
    · rw [h]; cases r <;> simp [followState]
    · rw [h]; simp [followState]
  rw [steered_eq, if_neg hn]
  exact if_congr (and_iff_left h) rfl rfl

theorem steered_none (h1 : tr.state ≠ followState r)
    (h2 : ¬ (tr.state = .hold ∨ tr.state = .free ∨ tr.state = .followSecondary ∧ r = .primary)) :
    steered r f q tr = tr := by
  rw [steered_eq, if_neg h1, if_neg fun h => h2 h.2]

end

theorem measurerSucceeded_reports (t : Fin 2) (r : Role) (f : Nat) (q : Bool) (s : State) :
    Reports (putTrackerAt t (steered r f q s.trackers[t]) s) (measurerSucceeded t r f q s) := by
  have hsame : Reports (putTrackerAt t s.trackers[t] s) s := TrackerBecomes.same.reports
  have hrec : ∀ tr, Reports (putTrackerAt t (if q then tr else s.trackers[t]) s)
      (if q then trackerMoved t none (putTrackerAt t tr s) else s) := fun tr => by
    split
    · exact trackerMoved_reports t none _
    · exact hsame
  unfold measurerSucceeded
  dsimp only
  split
  · next h => rw [steered_own h]; exact .refl _
  · next h => rw [steered_own h]; exact .refl _
  · next h => rw [steered_recovered (.inr (.inr ⟨h, rfl⟩))]; exact hrec _
  · next h => rw [steered_recovered (.inl h)]; exact hrec _
  · next h => rw [steered_recovered (.inr (.inl h))]; exact hrec _
  · next h => rw [steered_none (by rw [h]; simp [followState]) (by rw [h]; simp)]; exact hsame
  · next h => rw [steered_none (by rw [h]; exact (followState_ne_fixed _).symm) (by rw [h]; simp)]; exact hsame

theorem trackerTakes_none {e : TrackerEntry} {slot : Role → Option (Fin 8)} {r : Role} (h : slot r = none)
    (tr : Tracker) (ss : SampleSet) : trackerTakes e slot tr (r, ss) = tr := by
  simp only [trackerTakes, h]

theorem itemTaken_none {e : TrackerEntry} {slot : Role → Option (Fin 8)} {r : Role} (h : slot r = none)
    (tr : Tracker) (item : Item) : itemTaken e slot tr (r, item) = tr := by
  cases item with
  | set ss => exact trackerTakes_none h tr ss
  | loss => rfl
  | _ => exact if_neg (by simp [h])

theorem setMeasurer_self (tr : Tracker) (r : Role) : tr.setMeasurer r (tr.measurer r) = tr := by
  cases r <;> rfl

/-- R39, R45, R46, R48: what an item does to the tracker of the measurer that it reaches; nothing else moves but
what reports. -/
theorem measurerItem_reports (t : Fin 2) (r : Role) (src : Fin 8) (item : Item) (s : State) :
    Reports (putTrackerAt t (itemTaken s.tables.trackers[t] (fun r => s.referenceSlot t r src)
      s.trackers[t] (r, item)) s) (measurerItem t r src item s) := by
  have hsame : Reports (putTrackerAt t s.trackers[t] s) s := TrackerBecomes.same.reports
  unfold measurerItem
  split
  · next h => rw [itemTaken_none h]; exact hsame
  · next slot h =>
    have hsome : (s.referenceSlot t r src).isSome = true := by rw [h]; rfl
    dsimp only
    cases item with
    | loss =>
      change Reports _ (putTrackerAt t (s.trackers[t].setMeasurer r (s.trackers[t].measurer r)) s)
      rw [setMeasurer_self]
      exact .refl _
    | start =>
      change Reports (putTrackerAt t (if _ then _ else _) s)
        (putTrackerAt t (s.trackers[t].setMeasurer r (s.trackers[t].measurer r).toSeeking) s)
      rw [if_pos hsome, toSeeking_eq]
      exact .refl _
    | realign =>
      change Reports (putTrackerAt t (if _ then _ else _) s)
        (putTrackerAt t (s.trackers[t].setMeasurer r (s.trackers[t].measurer r).toSeeking) s)
      rw [if_pos hsome, toSeeking_eq]
      exact .refl _
    | set ss =>
      have hp : ∀ new : Tracker, (putTrackerAt t new s).trackers[t] = new := fun _ => putAt_same _ _ _
      simp only [itemTaken, trackerTakes, h, Measurer.item]
      generalize (s.trackers[t].measurer r).takes s.tables.trackers[t].floor (ss.slot? slot) = res
      obtain ⟨m, ev⟩ := res
      dsimp only
      cases ev with
      | nothing => exact .refl _
      | valid f q =>
        have hr := measurerSucceeded_reports t r f q (putTrackerAt t (s.trackers[t].setMeasurer r m) s)
        rw [hp, putTrackerAt_put] at hr
        exact hr
      | unusable =>
        have hr := (measurerFailed_becomes t r (putTrackerAt t (s.trackers[t].setMeasurer r m) s)).reports
        rw [hp, putTrackerAt_put] at hr
        exact hr

end Sys2Proof.Machine

namespace Sys2Proof.Machine
open Sys2Proof.Claims

/-! ### Trackers, seen by what opens a window -/

/-- Two trackers that give a window opened under them the same length and marks (R57). -/
def SameSteer (a b : Tracker) : Prop := a.freq = b.freq ∧ a.state = b.state ∧ a.atLimit = b.atLimit

theorem opened_congr {a b : Tracker} (h : SameSteer a b) (u : ChannelUnit) (stamp : Stamp) :
    u.opened a stamp = u.opened b stamp := by
  obtain ⟨h1, h2, h3⟩ := h
  unfold ChannelUnit.opened
  rw [h1, h2, h3]

/-- A tracker of which the measurers that `b` names have returned to SEEKING. -/
def seeking (b : Role → Bool) (tr : Tracker) : Tracker :=
  withMeasurers (fun r => if b r then sought (tr.measurer r) else tr.measurer r) tr

theorem seeking_none {b : Role → Bool} (h : ∀ r, b r = false) (tr : Tracker) : seeking b tr = tr := by
  unfold seeking withMeasurers
  simp only [h]
  rfl

theorem seeking_steer (b : Role → Bool) (tr : Tracker) : SameSteer (seeking b tr) tr := ⟨rfl, rfl, rfl⟩

theorem seeking_measurer {b : Role → Bool} {r : Role} (h : b r = false) (tr : Tracker) :
    (seeking b tr).measurer r = tr.measurer r := by
  cases r <;> simp [seeking, withMeasurers, Tracker.measurer, h]

theorem seeking_setMeasurer {b : Role → Bool} {r : Role} (h : b r = false) (tr : Tracker) (m : Measurer) :
    (seeking b tr).setMeasurer r m = seeking b (tr.setMeasurer r m) := by
  cases r <;> simp [seeking, withMeasurers, Tracker.measurer, Tracker.setMeasurer, h]

theorem seeking_steered (b : Role → Bool) (r : Role) (f : Nat) (q : Bool) (tr : Tracker) :
    steered r f q (seeking b tr) = seeking b (steered r f q tr) := by
  rw [steered_eq, steered_eq]
  have hst : (seeking b tr).state = tr.state := rfl
  rw [hst]
  split
  · rfl
  · split <;> rfl

theorem sought_usable (m : Measurer) : (sought m).usable = m.usable ∧ (sought m).last = m.last := by
  unfold sought
  split <;> exact ⟨rfl, rfl⟩

theorem seeking_afterFailure (b failed : Role → Bool) (hold : Nat) (tr : Tracker) :
    afterFailure failed hold (seeking b tr) = seeking b (afterFailure failed hold tr) := by
  have hs : (seeking b tr).secondary.usable = tr.secondary.usable
      ∧ (seeking b tr).secondary.last = tr.secondary.last := by
    change Measurer.usable (if b .secondary then _ else _) = _ ∧ Measurer.last (if b .secondary then _ else _) = _
    split
    · exact sought_usable _
    · exact ⟨rfl, rfl⟩
  unfold afterFailure
  have hst : (seeking b tr).state = tr.state := rfl
  rw [hst, hs.1, hs.2]
  split
  · split <;> rfl
  · split <;> rfl

/-- A measurer that seeks anew is not what the other measurer's samples do anything to. -/
theorem seeking_trackerTakes {b : Role → Bool} {r : Role} (h : b r = false) (e : TrackerEntry)
    (slot : Role → Option (Fin 8)) (tr : Tracker) (ss : SampleSet) :
    trackerTakes e slot (seeking b tr) (r, ss) = seeking b (trackerTakes e slot tr (r, ss)) := by
  unfold trackerTakes
  dsimp only
  cases slot r with
  | none => rfl
  | some p =>
    dsimp only
    rw [seeking_measurer h, seeking_setMeasurer h]
    generalize (tr.measurer r).takes e.floor (ss.slot? p) = res
    cases res.2 with
    | nothing => rfl
    | valid f q => exact seeking_steered b r f q _
    | unusable => exact seeking_afterFailure b _ _ _

/-! ### The start notices of a delivery -/

/-- The sets among the items that the measurers of a tracker take. -/
def setPart (x : Role × Item) : Option (Role × SampleSet) :=
  match x.2 with
  | .set ss => some (x.1, ss)
  | _ => none

theorem seeking_start {e : TrackerEntry} {slot : Role → Option (Fin 8)} {b : Role → Bool} {r : Role}
    (h : b r = true) (hs : (slot r).isSome = true) (tr : Tracker) :
    seeking (fun x => b x && decide (x ≠ r)) (itemTaken e slot tr (r, .start)) = seeking b tr := by
  have hi : itemTaken e slot tr (r, .start) = tr.setMeasurer r (sought (tr.measurer r)) := if_pos hs
  rw [hi]
  cases r <;> simp [seeking, withMeasurers, Tracker.setMeasurer, Tracker.measurer, h]

theorem prefix_takenItems_cons {b : Bool} {item : Item} {l : List Item} {sets : List SampleSet}
    (h : item :: l <+: takenItems b sets) :
    (b = true ∧ item = .start ∧ l <+: takenItems false sets)
      ∨ (b = false ∧ ∃ ss rest, item = .set ss ∧ l <+: takenItems false rest) := by
  cases b with
  | true =>
    obtain ⟨rfl, hl⟩ := List.cons_prefix_cons.mp h
    exact .inl ⟨rfl, rfl, hl⟩
  | false =>
    cases sets with
    | nil => simp [takenItems] at h
    | cons ss sets =>
      obtain ⟨rfl, hl⟩ := List.cons_prefix_cons.mp h
      exact .inr ⟨rfl, ss, sets, rfl, hl⟩

/-- R18, R39: the start notices of a delivery could all have come before it: a tracker at any point of it is one
whose measurers have had theirs from the beginning, but for those that have not had it yet. -/
theorem foldl_itemTaken {e : TrackerEntry} {slot : Role → Option (Fin 8)} (l : List (Role × Item))
    (b : Role → Bool) (tr : Tracker) (hb : ∀ r, b r = true → (slot r).isSome = true)
    (hl : ∀ r, ∃ sets, (l.filter fun x => decide (x.1 = r)).map Prod.snd <+: takenItems (b r) sets) :
    ∃ b', (∀ r, b' r = true → b r = true ∧ ∀ x ∈ l, x.1 ≠ r)
      ∧ seeking b' (l.foldl (itemTaken e slot) tr)
        = (l.filterMap setPart).foldl (trackerTakes e slot) (seeking b tr) := by
  induction l generalizing b tr with
  | nil => exact ⟨b, fun r h => ⟨h, by simp⟩, rfl⟩
  | cons x l ih =>
    obtain ⟨r, item⟩ := x
    have hother : ∀ r', r' ≠ r → ((r, item) :: l).filter (fun x => decide (x.1 = r'))
        = l.filter fun x => decide (x.1 = r') := fun r' h => by
      rw [List.filter_cons_of_neg (by simpa using h.symm)]
    obtain ⟨sets, hr⟩ := hl r
    rw [List.filter_cons_of_pos (by simp), List.map_cons] at hr
    obtain ⟨hbr, rfl, hrest⟩ | ⟨hbr, ss, sets', rfl, hrest⟩ := prefix_takenItems_cons hr
    · obtain ⟨b', h1, h2⟩ := ih (fun x => b x && decide (x ≠ r)) (itemTaken e slot tr (r, .start))
        (fun r' h => hb r' (by simp at h; exact h.1)) fun r' => by
          by_cases h : r' = r
          · subst h
            exact ⟨sets, by simpa using hrest⟩
          · obtain ⟨sets', hp⟩ := hl r'
            rw [hother r' h] at hp
            exact ⟨sets', by simpa [h] using hp⟩
      refine ⟨b', fun r' h => ?_, ?_⟩
      · obtain ⟨h3, h4⟩ := h1 r' h
        rw [Bool.and_eq_true, decide_eq_true_iff] at h3
        exact ⟨h3.1, List.forall_mem_cons.mpr ⟨h3.2.symm, h4⟩⟩
      · rw [seeking_start hbr (hb r hbr)] at h2
        exact h2
    · obtain ⟨b', h1, h2⟩ := ih b (itemTaken e slot tr (r, .set ss)) hb fun r' => by
        by_cases h : r' = r
        · subst h
          exact ⟨sets', by rw [hbr]; exact hrest⟩
        · obtain ⟨sets'', hp⟩ := hl r'
          rw [hother r' h] at hp
          exact ⟨sets'', hp⟩
      refine ⟨b', fun r' h => ?_, ?_⟩
      · obtain ⟨h3, h4⟩ := h1 r' h
        refine ⟨h3, List.forall_mem_cons.mpr ⟨fun e => ?_, h4⟩⟩
        subst e
        rw [hbr] at h3
        cases h3
      · have hc : ((r, Item.set ss) :: l).filterMap setPart = (r, ss) :: l.filterMap setPart := rfl
        rw [List.foldl_cons, h2, hc, List.foldl_cons, seeking_trackerTakes hbr]
        rfl

/-! ### The frequency of a tracker -/

/-- Whether the frequency in use lies in its range (R44). -/
def InRange (tr : Tracker) : Prop := 47000 ≤ tr.freq ∧ tr.freq ≤ 53000

theorem limited_bounds (f : Nat) : 47000 ≤ limited f ∧ limited f ≤ 53000 := by
  unfold limited
  omega

theorem steered_inRange {tr : Tracker} (h : InRange tr) (r : Role) (f : Nat) (q : Bool) :
    InRange (steered r f q tr) := by
  rw [steered_eq]
  split
  · exact limited_bounds f
  · split
    · exact limited_bounds f
    · exact h

theorem afterFailure_inRange {tr : Tracker} (h : InRange tr) (failed : Role → Bool) (hold : Nat) :
    InRange (afterFailure failed hold tr) := by
  unfold afterFailure
  dsimp only
  split
  · split
    · exact limited_bounds _
    · exact h
  · split
    · exact h
    · exact h

theorem setMeasurer_freq (tr : Tracker) (r : Role) (m : Measurer) : (tr.setMeasurer r m).freq = tr.freq := by
  cases r <;> rfl

theorem itemTaken_inRange (e : TrackerEntry) (slot : Role → Option (Fin 8)) {tr : Tracker} (h : InRange tr)
    (x : Role × Item) : InRange (itemTaken e slot tr x) := by
  have hm : ∀ r m, InRange (tr.setMeasurer r m) := fun r m => by
    unfold InRange
    rw [setMeasurer_freq]
    exact h
  obtain ⟨r, item⟩ := x
  unfold itemTaken
  cases item with
  | set ss =>
    unfold trackerTakes
    dsimp only
    split
    · exact h
    · split
      · exact hm _ _
      · exact steered_inRange (hm _ _) _ _ _
      · exact afterFailure_inRange (hm _ _) _ _
  | loss => exact h
  | _ =>
    dsimp only
    split
    · exact hm _ _
    · exact h

theorem foldl_itemTaken_inRange (e : TrackerEntry) (slot : Role → Option (Fin 8)) (l : List (Role × Item))
    {tr : Tracker} (h : InRange tr) : InRange (l.foldl (itemTaken e slot) tr) := by
  induction l generalizing tr with
  | nil => exact h
  | cons x l ih => exact ih (itemTaken_inRange e slot h x)

theorem windowLength_lower {f : Nat} (h1 : 47000 ≤ f) (h2 : f ≤ 53000) : 2415 ≤ windowLength f := by
  unfold windowLength
  rw [Nat.le_div_iff_mul_le (by omega)]
  omega

/-- R52: a window opened under a tracker in range is longer than any gap synthesised. -/
theorem opened_len {tr : Tracker} (h : InRange tr) (u : ChannelUnit) (stamp : Stamp) :
    2415 ≤ (u.opened tr stamp).len := windowLength_lower h.1 h.2

end Sys2Proof.Machine

namespace Sys2Proof.Machine
open Sys2Proof.Claims

/-! ### A channel unit along a delivery (R57, R60, R63, R64) -/

/-- What one sample set does to a channel unit under a tracker. -/
def setStep (slot : Fin 8) (tr : Tracker) (ss : SampleSet) (u : ChannelUnit) : SetResult :=
  match ss.slot? slot with
  | some v => (u.openIfNone (u.opened tr ss.stamp)).advance v ss.test
  | none => { unit := u, closed := false, missed := none }

section
variable {slot : Fin 8} {tr : Tracker} {ss : SampleSet} {u : ChannelUnit}

theorem setStep_none (h : ss.slot? slot = none) :
    setStep slot tr ss u = { unit := u, closed := false, missed := none } := by
  simp only [setStep, h]

theorem setStep_some {v : SlotValue} (h : ss.slot? slot = some v) :
    setStep slot tr ss u = (u.openIfNone (u.opened tr ss.stamp)).advance v ss.test := by
  simp only [setStep, h]

theorem setStep_congr {tr' : Tracker} (h : SameSteer tr tr') : setStep slot tr ss u = setStep slot tr' ss u := by
  unfold setStep
  rw [opened_congr h]

end

theorem unitTakes_nil (slot : Fin 8) (u : ChannelUnit) : unitTakes slot u [] = (u, []) := rfl

/-- One set of a series that a channel unit takes, with the numbers of the windows missed so far. -/
def unitStep (slot : Fin 8) (x : ChannelUnit × List Nat) (set : Tracker × SampleSet) :
    ChannelUnit × List Nat :=
  ((setStep slot set.1 set.2 x.1).unit, x.2 ++ (setStep slot set.1 set.2 x.1).missed.toList)

theorem unitTakes_eq (slot : Fin 8) (u : ChannelUnit) (l : List (Tracker × SampleSet)) :
    unitTakes slot u l = l.foldl (unitStep slot) (u, []) := by
  unfold unitTakes
  congr 1
  funext x set
  unfold unitStep
  cases hs : set.2.slot? slot with
  | none =>
    rw [setStep_none hs]
    simp
  | some v => rw [setStep_some hs]

theorem foldl_unitStep (slot : Fin 8) (l : List (Tracker × SampleSet)) (u : ChannelUnit) (ms : List Nat) :
    l.foldl (unitStep slot) (u, ms)
      = ((unitTakes slot u l).1, ms ++ (unitTakes slot u l).2) := by
  induction l generalizing u ms with
  | nil => simp [unitTakes_nil]
  | cons x l ih =>
    have hstep : ∀ ms, unitStep slot (u, ms) x
        = ((setStep slot x.1 x.2 u).unit, ms ++ (setStep slot x.1 x.2 u).missed.toList) := fun _ => rfl
    rw [unitTakes_eq, List.foldl_cons, List.foldl_cons, hstep, hstep, ih, ih]
    simp

/-- A series of sets taken, set by set. -/
theorem unitTakes_cons (slot : Fin 8) (u : ChannelUnit) (tr : Tracker) (ss : SampleSet)
    (l : List (Tracker × SampleSet)) : unitTakes slot u ((tr, ss) :: l)
      = ((unitTakes slot (setStep slot tr ss u).unit l).1,
        (setStep slot tr ss u).missed.toList ++ (unitTakes slot (setStep slot tr ss u).unit l).2) := by
  rw [unitTakes_eq, List.foldl_cons]
  exact foldl_unitStep slot l _ _

theorem unitTakes_append (slot : Fin 8) (u : ChannelUnit) (l l' : List (Tracker × SampleSet)) :
    unitTakes slot u (l ++ l') = ((unitTakes slot (unitTakes slot u l).1 l').1,
      (unitTakes slot u l).2 ++ (unitTakes slot (unitTakes slot u l).1 l').2) := by
  induction l generalizing u with
  | nil => simp [unitTakes_nil]
  | cons x l ih =>
    rw [List.cons_append, unitTakes_cons, unitTakes_cons, ih]
    simp

/-- What a channel unit takes depends on a tracker only by what it gives a window opened under it. -/
theorem unitTakes_congr {slot : Fin 8} {l l' : List (Tracker × SampleSet)}
    (h : List.Forall₂ (fun x y => SameSteer x.1 y.1 ∧ x.2 = y.2) l l') (u : ChannelUnit) :
    unitTakes slot u l = unitTakes slot u l' := by
  induction h generalizing u with
  | nil => rfl
  | @cons x y l l' hxy _ ih =>
    obtain ⟨a, ss⟩ := x
    obtain ⟨b, ss'⟩ := y
    obtain ⟨hab, rfl⟩ := hxy
    rw [unitTakes_cons, unitTakes_cons, setStep_congr hab, ih]

/-! #### Windows that stay open -/

/-- Whether no window of a channel unit closes within the next `n` sample sets. -/
def UnitOpen (n : Nat) (u : ChannelUnit) : Prop :=
  ∀ w, u.ctx0 = .filling w ∨ u.ctx1 = .filling w → w.count + n < w.len

theorem UnitOpen.mono {m n : Nat} (h : m ≤ n) {u : ChannelUnit} (hu : UnitOpen n u) : UnitOpen m u :=
  fun w hw => by
    have := hu w hw
    omega

theorem openIfNone_open {n : Nat} {u : ChannelUnit} {w : Window} (hu : UnitOpen n u)
    (hw : w.count + n < w.len) : UnitOpen n (u.openIfNone w) := by
  unfold ChannelUnit.openIfNone
  split
  · exact hu
  · split
    · rintro x (h | h)
      · obtain rfl := Context.filling.inj h
        exact hw
      · exact hu x (.inr h)
    · split
      · rintro x (h | h)
        · exact hu x (.inl h)
        · obtain rfl := Context.filling.inj h
          exact hw
      · exact hu

theorem window_add_len (w : Window) (v : SlotValue) (test : Bool) :
    (w.add v test).len = w.len ∧ (w.add v test).count = w.count + 1 := ⟨rfl, rfl⟩

theorem advance_open {n : Nat} {u : ChannelUnit} (hu : UnitOpen (n + 1) u) (v : SlotValue) (test : Bool) :
    (u.advance v test).closed = false ∧ (u.advance v test).missed = none
      ∧ UnitOpen n (u.advance v test).unit := by
  unfold ChannelUnit.advance
  split
  · next w h0 =>
    have hw := hu w (.inl h0)
    dsimp only
    rw [if_neg (by rw [(window_add_len w v test).1, (window_add_len w v test).2]; omega)]
    refine ⟨rfl, rfl, ?_⟩
    rintro x (h | h)
    · obtain rfl := Context.filling.inj h
      rw [(window_add_len w v test).1, (window_add_len w v test).2]
      omega
    · exact hu.mono (Nat.le_succ n) x (.inr h)
  · next w h1 _ =>
    have hw := hu w (.inr h1)
    dsimp only
    rw [if_neg (by rw [(window_add_len w v test).1, (window_add_len w v test).2]; omega)]
    refine ⟨rfl, rfl, ?_⟩
    rintro x (h | h)
    · exact hu.mono (Nat.le_succ n) x (.inl h)
    · obtain rfl := Context.filling.inj h
      rw [(window_add_len w v test).1, (window_add_len w v test).2]
      omega
  · exact ⟨rfl, rfl, hu.mono (Nat.le_succ n)⟩

theorem setStep_open {n : Nat} {slot : Fin 8} {tr : Tracker} {ss : SampleSet} {u : ChannelUnit}
    (hn : n + 1 < 2415) (ht : InRange tr) (hu : UnitOpen (n + 1) u) :
    (setStep slot tr ss u).closed = false ∧ (setStep slot tr ss u).missed = none
      ∧ UnitOpen n (setStep slot tr ss u).unit := by
  cases hs : ss.slot? slot with
  | none =>
    rw [setStep_none hs]
    exact ⟨rfl, rfl, hu.mono (Nat.le_succ n)⟩
  | some v =>
    rw [setStep_some hs]
    have hl := opened_len ht u ss.stamp
    exact advance_open (openIfNone_open hu
      (show 0 + (n + 1) < (u.opened tr ss.stamp).len by omega)) v ss.test

/-- R52, R63: where no window closes within the sets to come, none is missed. -/
theorem unitTakes_open {slot : Fin 8} {l : List (Tracker × SampleSet)} {n : Nat} {u : ChannelUnit}
    (hn : l.length + n < 2415) (ht : ∀ x ∈ l, InRange x.1) (hu : UnitOpen (l.length + n) u) :
    (unitTakes slot u l).2 = [] ∧ UnitOpen n (unitTakes slot u l).1 := by
  induction l generalizing u with
  | nil => exact ⟨rfl, hu.mono (Nat.le_add_left _ _)⟩
  | cons x l ih =>
    obtain ⟨tr, ss⟩ := x
    rw [List.length_cons] at hn hu
    have hs := setStep_open (slot := slot) (ss := ss) (n := l.length + n) (by omega) (ht _ List.mem_cons_self)
      (show UnitOpen (l.length + n + 1) u from hu.mono (by omega))
    obtain ⟨h1, h2⟩ := ih (u := (setStep slot tr ss u).unit) (by omega)
      (fun x hx => ht x (List.mem_cons_of_mem _ hx)) hs.2.2
    rw [unitTakes_cons]
    exact ⟨by rw [h1, hs.2.1]; rfl, h2⟩

/-! #### A window alone -/

/-- Whether the window `w` alone is in a channel unit, and is open. -/
def UnitFills (w : Window) (u : ChannelUnit) : Prop :=
  u.ctx0 = .filling w ∧ u.ctx1 = .free ∨ u.ctx0 = .free ∧ u.ctx1 = .filling w

/-- Whether the window `w` alone is in a channel unit, and waits for the engine. -/
def UnitWaits (w : Window) (u : ChannelUnit) : Prop :=
  u.ctx0 = .pending w ∧ u.ctx1 = .free ∨ u.ctx0 = .free ∧ u.ctx1 = .pending w

theorem UnitFills.openIfNone {w : Window} {u : ChannelUnit} (h : UnitFills w u) (x : Window) :
    u.openIfNone x = u := by
  unfold ChannelUnit.openIfNone
  obtain ⟨h0, _⟩ | ⟨_, h1⟩ := h
  · exact if_pos (by rw [h0]; rfl)
  · exact if_pos (by rw [h1]; simp [Context.isFilling])

/-- R63: the window alone in a channel unit takes a set, and closes on the one that completes it. -/
theorem UnitFills.advance {w : Window} {u : ChannelUnit} (h : UnitFills w u) (v : SlotValue) (test : Bool) :
    (u.advance v test).missed = none
      ∧ contextsFreed (u.advance v test).unit = contextsFreed u
      ∧ (u.advance v test).closed = decide (w.len ≤ w.count + 1)
      ∧ (w.count + 1 < w.len → UnitFills (w.add v test) (u.advance v test).unit)
      ∧ (w.len ≤ w.count + 1 → UnitWaits (w.add v test) (u.advance v test).unit) := by
  obtain ⟨hl, hc⟩ := window_add_len w v test
  unfold ChannelUnit.advance
  obtain ⟨h0, h1⟩ | ⟨h0, h1⟩ := h
  · rw [h0, h1]
    dsimp only
    rw [hl, hc]
    by_cases hw : w.len ≤ w.count + 1
    · rw [if_pos hw]
      exact ⟨rfl, rfl, (decide_eq_true hw).symm, fun h => absurd h (by omega), fun _ => .inl ⟨rfl, rfl⟩⟩
    · rw [if_neg hw]
      exact ⟨rfl, rfl, (decide_eq_false hw).symm, fun _ => .inl ⟨rfl, rfl⟩, fun h => absurd h hw⟩
  · rw [h0, h1]
    dsimp only
    rw [hl, hc]
    by_cases hw : w.len ≤ w.count + 1
    · rw [if_pos hw]
      exact ⟨rfl, rfl, (decide_eq_true hw).symm, fun h => absurd h (by omega), fun _ => .inr ⟨rfl, rfl⟩⟩
    · rw [if_neg hw]
      exact ⟨rfl, rfl, (decide_eq_false hw).symm, fun _ => .inr ⟨rfl, rfl⟩, fun h => absurd h hw⟩

/-- R60: a window after it has taken the values of its slot in a series of sets. -/
def windowTakes (slot : Fin 8) (sets : List SampleSet) (w : Window) : Window :=
  sets.foldl (fun w ss =>
    match ss.slot? slot with
    | some v => w.add v ss.test
    | none => w) w

theorem windowTakes_cons {slot : Fin 8} {ss : SampleSet} {v : SlotValue} (h : ss.slot? slot = some v)
    (sets : List SampleSet) (w : Window) :
    windowTakes slot (ss :: sets) w = windowTakes slot sets (w.add v ss.test) := by
  unfold windowTakes
  rw [List.foldl_cons]
  simp only [h]

theorem windowTakes_len {slot : Fin 8} {sets : List SampleSet}
    (h : ∀ ss ∈ sets, (ss.slot? slot).isSome = true) (w : Window) :
    (windowTakes slot sets w).len = w.len ∧ (windowTakes slot sets w).count = w.count + sets.length := by
  induction sets generalizing w with
  | nil => exact ⟨rfl, rfl⟩
  | cons ss sets ih =>
    obtain ⟨v, hv⟩ := Option.isSome_iff_exists.mp (h ss List.mem_cons_self)
    rw [windowTakes_cons hv]
    obtain ⟨h1, h2⟩ := ih (fun x hx => h x (List.mem_cons_of_mem _ hx)) (w.add v ss.test)
    obtain ⟨h3, h4⟩ := window_add_len w v ss.test
    exact ⟨h1.trans h3, by rw [h2, h4, List.length_cons]; omega⟩

/-- R60, R63: the window alone in a channel unit takes sets that do not complete it. -/
theorem UnitFills.unitTakes {slot : Fin 8} {l : List (Tracker × SampleSet)} {w : Window} {u : ChannelUnit}
    (hu : UnitFills w u) (hs : ∀ x ∈ l, (x.2.slot? slot).isSome = true) (hw : w.count + l.length < w.len) :
    UnitFills (windowTakes slot (l.map Prod.snd) w) (unitTakes slot u l).1
      ∧ (Claims.unitTakes slot u l).2 = []
      ∧ contextsFreed (Claims.unitTakes slot u l).1 = contextsFreed u := by
  induction l generalizing u w with
  | nil => exact ⟨hu, rfl, rfl⟩
  | cons x l ih =>
    obtain ⟨tr, ss⟩ := x
    rw [List.length_cons] at hw
    obtain ⟨v, hv⟩ := Option.isSome_iff_exists.mp (hs _ List.mem_cons_self)
    obtain ⟨h1, h2, _, h3, _⟩ := hu.advance v ss.test
    obtain ⟨hl, hc⟩ := window_add_len w v ss.test
    obtain ⟨k1, k2, k3⟩ := ih (h3 (by omega)) (fun x hx => hs x (List.mem_cons_of_mem _ hx)) (by omega)
    rw [unitTakes_cons, setStep_some hv, hu.openIfNone, List.map_cons, windowTakes_cons hv]
    exact ⟨k1, by rw [h1, k2]; rfl, k3.trans h2⟩

theorem UnitWaits.takePending {w : Window} {u : ChannelUnit} (h : UnitWaits w u) :
    u.takePending = some (w, contextsFreed u) ∧ u.requests = true := by
  unfold ChannelUnit.takePending ChannelUnit.requests contextsFreed
  obtain ⟨h0, h1⟩ | ⟨h0, h1⟩ := h
  · rw [h0, h1]
    exact ⟨rfl, rfl⟩
  · rw [h0, h1]
    exact ⟨rfl, rfl⟩

end Sys2Proof.Machine

namespace Sys2Proof.Machine
open Sys2Proof.Claims

variable {a : Prop}

/-! ### A delivery, projected on one consumer (R18) -/

/-- The happenings of a delivery, one after another. -/
def delivered (src : Fin 8) (l : List (Consumer × Item)) (s : State) : State :=
  l.foldl (fun s x => consume src x.2 x.1 s) s

section
variable {src : Fin 8} {l l' : List (Consumer × Item)} {x : Consumer × Item} {s : State}

theorem delivered_cons : delivered src (x :: l) s = delivered src l (consume src x.2 x.1 s) := rfl

theorem delivered_append : delivered src (l ++ l') s = delivered src l' (delivered src l s) :=
  List.foldl_append

variable (src l s)

theorem delivered_talks : Talks Within a s (delivered src l s) :=
  foldl_talks l (fun x => consume src x.2 x.1) (fun x _ s => consume_talks src x.2 x.1 s) s

theorem delivered_apart : Apart s (delivered src l s) := (delivered_talks (a := False) src l s).apart

theorem delivered_delivers : Delivers s (delivered src l s) :=
  foldl_keeps (P := Delivers s) l (fun x => consume src x.2 x.1)
    (fun x _ _ h => h.trans (consume_delivers src x.2 x.1 _)) s (.refl s)

end

theorem referenceSlot_of_tables {s t : State} (h : t.tables = s.tables) (i : Fin 2) (r : Role) (src : Fin 8) :
    t.referenceSlot i r src = s.referenceSlot i r src := by
  unfold State.referenceSlot
  rw [h]

/-- The parts of the state that no measurer and no report touches. -/
structure Elsewhere (s t : State) : Prop where
  channels : t.channels = s.channels
  channelCounters : t.counters.channels = s.counters.channels
  capture : t.capture = s.capture
  engine : t.engine = s.engine
  rotation : t.rotation = s.rotation
  memOwner : t.memOwner = s.memOwner

theorem TrackersMove.elsewhere' {s u : State} (h : TrackersMove s u) : Elsewhere s u := by
  obtain ⟨_, _, _, _, _, _, _, rfl⟩ := h
  exact ⟨rfl, rfl, rfl, rfl, rfl, rfl⟩

theorem measurerItem_move (t : Fin 2) (r : Role) (src : Fin 8) (item : Item) (s : State) :
    TrackersMove s (measurerItem t r src item s) := ⟨_, measurerItem_reports t r src item s⟩

theorem Reports.trackers {s t : State} (h : Reports s t) : t.trackers = s.trackers := by
  obtain ⟨_, _, _, _, _, _, rfl⟩ := h
  rfl

/-! #### Trackers -/

theorem arbitrate_trackers (s : State) : (arbitrate s).trackers = s.trackers ∧ (arbitrate s).capture = s.capture := by
  obtain ⟨_, _, _, _, h⟩ := arbitrate_frame s
  rw [h]
  exact ⟨rfl, rfl⟩

theorem reportMissed_same (c : Fin 16) (m : Option Nat) (s : State) :
    (reportMissed c m s).trackers = s.trackers ∧ (reportMissed c m s).capture = s.capture := by
  unfold reportMissed
  split
  · exact ⟨rfl, rfl⟩
  · obtain ⟨_, _, _, _, _, _, h⟩ := reportFault_reports .windowMissed c.val (.number _)
      (onChannelCounters c (fun k => { k with missed := countUp k.missed 1 }) s)
    rw [h]
    exact ⟨rfl, rfl⟩

/-- R57, R60, R63, R64: a sample set reaches a channel in ANALYSING. -/
theorem channelTakes_analysing (c : Fin 16) (ss : SampleSet) {s : State} (h : s.opState = .analysing) :
    let r := setStep s.tables.channels[c].slot (s.trackerOf c) ss s.channels[c]
    let u := reportMissed c r.missed { s with channels := putAt s.channels c r.unit }
    channelTakes c ss s = if r.closed then arbitrate u else u := by
  dsimp only
  unfold channelTakes
  split
  · next v _ hv => rw [setStep_some hv]
  · next hno =>
    have hs : ss.slot? s.tables.channels[c].slot = none :=
      Option.eq_none_iff_forall_ne_some.mpr fun v hv => hno v h hv
    rw [setStep_none hs]
    simp [reportMissed, putAt]

theorem channelTakes_idle (c : Fin 16) (ss : SampleSet) {s : State} (h : s.opState ≠ .analysing) :
    channelTakes c ss s = s := by
  unfold channelTakes
  split
  · next h' _ => exact absurd h' h
  · rfl

/-- R60: a channel unit moves no tracker and leaves the capture unit alone. -/
theorem channelItem_same (c : Fin 16) (item : Item) (s : State) :
    (channelItem c item s).trackers = s.trackers ∧ (channelItem c item s).capture = s.capture := by
  cases item with
  | set ss =>
    change (channelTakes c ss s).trackers = _ ∧ (channelTakes c ss s).capture = _
    by_cases ha : s.opState = .analysing
    · rw [channelTakes_analysing c ss ha]
      generalize setStep s.tables.channels[c].slot (s.trackerOf c) ss s.channels[c] = r
      obtain ⟨h1, h2⟩ := reportMissed_same c r.missed { s with channels := putAt s.channels c r.unit }
      split
      · exact ⟨(arbitrate_trackers _).1.trans h1, (arbitrate_trackers _).2.trans h2⟩
      · exact ⟨h1, h2⟩
    · rw [channelTakes_idle c ss ha]
      exact ⟨rfl, rfl⟩
  | _ => exact ⟨rfl, rfl⟩

theorem consume_tracker {src : Fin 8} {x : Consumer × Item} (hx : x.1.tracker? = none) (s : State) (i : Fin 2) :
    (consume src x.2 x.1 s).trackers[i] = (measurerPart i x).elim s.trackers[i]
      (itemTaken s.tables.trackers[i] (fun r => s.referenceSlot i r src) s.trackers[i]) := by
  obtain ⟨who, item⟩ := x
  cases who with
  | tracker t => cases hx
  | measurer t r =>
    change (measurerItem t r src item s).trackers[i] = _
    rw [(measurerItem_reports t r src item s).trackers, putTrackerAt_trackers, putAt_get]
    by_cases h : i = t
    · subst h
      rw [if_pos rfl, measurerPart_eq_some.mpr rfl]
      rfl
    · rw [if_neg h]
      have hp : measurerPart i (.measurer t r, item) = none := if_neg (Ne.symm h)
      rw [hp]
      rfl
  | channel c => exact congrArg (·[i]) (channelItem_same c item s).1
  | capture => rfl

/-- R18: along a delivery a tracker becomes what its measurers' items make of it. -/
theorem delivered_tracker {src : Fin 8} {l : List (Consumer × Item)} (hl : ∀ x ∈ l, x.1.tracker? = none)
    (s : State) (i : Fin 2) : (delivered src l s).trackers[i]
      = (l.filterMap (measurerPart i)).foldl
        (itemTaken s.tables.trackers[i] fun r => s.referenceSlot i r src) s.trackers[i] := by
  induction l generalizing s with
  | nil => rfl
  | cons x l ih =>
    have ht := (consume_talks (a := False) src x.2 x.1 s).apart.tables
    rw [delivered_cons, ih (fun y hy => hl y (List.mem_cons_of_mem _ hy)), consume_tracker (hl x List.mem_cons_self),
      ht]
    simp only [referenceSlot_of_tables ht]
    cases hp : measurerPart i x with
    | none => rw [List.filterMap_cons_none hp]; rfl
    | some y => rw [List.filterMap_cons_some hp]; rfl

/-! #### The capture unit -/

/-- A happening's part in the series of the capture unit. -/
def capturePart (x : Consumer × Item) : Option Item :=
  match x.1 with
  | .capture => some x.2
  | _ => none

theorem consume_capture {src : Fin 8} {x : Consumer × Item} (hx : x.1.tracker? = none) (s : State) :
    (consume src x.2 x.1 s).capture = (capturePart x).elim s.capture s.capture.item := by
  obtain ⟨who, item⟩ := x
  cases who with
  | tracker t => cases hx
  | measurer t r => exact (measurerItem_move t r src item s).elsewhere'.capture
  | channel c => exact (channelItem_same c item s).2
  | capture => rfl

theorem delivered_capture {src : Fin 8} {l : List (Consumer × Item)} (hl : ∀ x ∈ l, x.1.tracker? = none)
    (s : State) : (delivered src l s).capture = (l.filterMap capturePart).foldl CaptureUnit.item s.capture := by
  induction l generalizing s with
  | nil => rfl
  | cons x l ih =>
    rw [delivered_cons, ih (fun y hy => hl y (List.mem_cons_of_mem _ hy)), consume_capture (hl x List.mem_cons_self)]
    cases hp : capturePart x with
    | none => rw [List.filterMap_cons_none hp]; rfl
    | some y => rw [List.filterMap_cons_some hp]; rfl

/-! #### Channel units -/

/-- R64: a channel's counters with a missed window counted. -/
def missedCounted (m : Option Nat) (k : ChannelCounters) : ChannelCounters :=
  match m with
  | none => k
  | some _ => { k with missed := raised k.missed 1 }

/-- What an item does to a channel unit and its counters under a tracker; sets are taken in ANALYSING alone
(R59). -/
def unitItem (o : OpState) (slot : Fin 8) (p : ChannelUnit × ChannelCounters)
    (y : Tracker × Item) : ChannelUnit × ChannelCounters :=
  match y.2 with
  | .start => p
  | .realign | .loss => (contextsFreed p.1, abandonedCounted p.1.held p.2)
  | .set ss => if o = .analysing then
      ((setStep slot y.1 ss p.1).unit, missedCounted (setStep slot y.1 ss p.1).missed p.2) else p

/-- Whether a happening closes a window (R63). -/
def closesOn (x : Consumer × Item) (s : State) : Prop :=
  ∃ c ss, x = (.channel c, .set ss) ∧ s.opState = .analysing
    ∧ (setStep s.tables.channels[c].slot (s.trackerOf c) ss s.channels[c]).closed = true

/-- A channel's unit and its counters. -/
def unitOf (c : Fin 16) (s : State) : ChannelUnit × ChannelCounters := (s.channels[c], s.counters.channels[c])

theorem arbitrate_busy {s : State} (h : s.engine ≠ .idle) : arbitrate s = s := by
  unfold arbitrate
  split
  · next h' => exact absurd h' h
  · rfl
  · rfl

/-- R64: what the report of a missed window leaves. -/
theorem reportMissed_unit (c : Fin 16) (m : Option Nat) (s : State) :
    (reportMissed c m s).channels = s.channels
      ∧ (reportMissed c m s).counters.channels = updAt s.counters.channels c (missedCounted m)
      ∧ (reportMissed c m s).engine = s.engine ∧ (reportMissed c m s).rotation = s.rotation
      ∧ (reportMissed c m s).memOwner = s.memOwner := by
  unfold reportMissed
  split
  · refine ⟨rfl, ?_, rfl, rfl, rfl⟩
    simp [missedCounted, updAt]
  · obtain ⟨_, _, _, _, _, _, h⟩ := reportFault_reports .windowMissed c.val (.number _)
      (onChannelCounters c (fun k => { k with missed := countUp k.missed 1 }) s)
    rw [h]
    exact ⟨rfl, rfl, rfl, rfl, rfl⟩

/-- The close arbiter, the engine and the table memory stand as they stood. -/
def EngineStands (s t : State) : Prop :=
  t.engine = s.engine ∧ t.rotation = s.rotation ∧ t.memOwner = s.memOwner

theorem EngineStands.refl (s : State) : EngineStands s s := ⟨rfl, rfl, rfl⟩

theorem EngineStands.trans {s t u : State} (h : EngineStands s t) (k : EngineStands t u) : EngineStands s u :=
  ⟨k.1.trans h.1, k.2.1.trans h.2.1, k.2.2.trans h.2.2⟩

/-- R60, R63, R64: where a set closes no window, or the engine is not IDLE, it does to its channel what it does
to it alone. -/
theorem channelTakes_plain {c : Fin 16} {ss : SampleSet} {s : State}
    (hq : s.engine ≠ .idle ∨ ¬ closesOn (.channel c, .set ss) s) :
    EngineStands s (channelTakes c ss s) ∧ ∀ c', unitOf c' (channelTakes c ss s)
      = if c = c' then unitItem s.opState s.tables.channels[c].slot (unitOf c s)
          (s.trackerOf c, .set ss) else unitOf c' s := by
  by_cases ha : s.opState = .analysing
  · have he := channelTakes_analysing c ss ha
    dsimp only at he
    generalize hr : setStep s.tables.channels[c].slot (s.trackerOf c) ss s.channels[c] = r at he
    obtain ⟨h1, h2, h3, h4, h5⟩ := reportMissed_unit c r.missed { s with channels := putAt s.channels c r.unit }
    have he' : channelTakes c ss s = reportMissed c r.missed { s with channels := putAt s.channels c r.unit } := by
      rw [he]
      split
      · next hc =>
        refine arbitrate_busy ?_
        rw [h3]
        exact hq.resolve_right fun h => h ⟨c, ss, rfl, ha, hr ▸ hc⟩
      · rfl
    rw [he']
    refine ⟨⟨h3, h4, h5⟩, fun c' => ?_⟩
    unfold unitOf
    rw [h1, h2, putAt_get, updAt_get]
    by_cases hc : c' = c
    · subst hc
      rw [if_pos rfl, if_pos rfl, if_pos rfl]
      unfold unitItem
      dsimp only
      rw [if_pos ha, hr]
    · rw [if_neg hc, if_neg hc, if_neg (Ne.symm hc)]
  · rw [channelTakes_idle c ss ha]
    refine ⟨.refl s, fun c' => ?_⟩
    split
    · next h =>
      subst h
      unfold unitItem
      dsimp only
      rw [if_neg ha]
    · rfl

theorem Elsewhere.unitOf {s t : State} (h : Elsewhere s t) (c : Fin 16) : unitOf c t = unitOf c s := by
  unfold Machine.unitOf
  rw [h.channels, h.channelCounters]

theorem consume_unit {src : Fin 8} {x : Consumer × Item} (hx : x.1.tracker? = none) {s : State}
    (hq : s.engine ≠ .idle ∨ ¬ closesOn x s) :
    EngineStands s (consume src x.2 x.1 s) ∧ ∀ c, unitOf c (consume src x.2 x.1 s)
      = if x.1 = .channel c then unitItem s.opState s.tables.channels[c].slot (unitOf c s)
          (s.trackerOf c, x.2) else unitOf c s := by
  obtain ⟨who, item⟩ := x
  cases who with
  | tracker t => cases hx
  | measurer t r =>
    have h := (measurerItem_move t r src item s).elsewhere'
    exact ⟨⟨h.engine, h.rotation, h.memOwner⟩, fun c => by rw [if_neg (by simp)]; exact h.unitOf c⟩
  | capture => exact ⟨.refl s, fun c => by rw [if_neg (by simp)]; rfl⟩
  | channel c =>
    have hone : ∀ c' (y : ChannelUnit × ChannelCounters), (if Consumer.channel c = .channel c' then
        unitItem s.opState s.tables.channels[c'].slot (unitOf c' s) (s.trackerOf c', item)
        else y) = if c = c' then
          unitItem s.opState s.tables.channels[c].slot (unitOf c s) (s.trackerOf c, item)
        else y := fun c' y => by
      by_cases h : c = c'
      · subst h
        rw [if_pos rfl, if_pos rfl]
      · rw [if_neg h, if_neg (by simpa using h)]
    have hends : ∀ c', unitOf c' (endWindows c s) = if c = c' then
        (contextsFreed (unitOf c s).1, abandonedCounted (unitOf c s).1.held (unitOf c s).2) else unitOf c' s := by
      intro c'
      rw [endWindows_eq]
      unfold unitOf
      dsimp only
      rw [updAt_get, updAt_get]
      by_cases h : c' = c
      · subst h
        rw [if_pos rfl, if_pos rfl, if_pos rfl]
      · rw [if_neg h, if_neg h, if_neg (Ne.symm h)]
    simp only [hone]
    cases item with
    | start => exact ⟨.refl s, fun c' => by split <;> [(next h => subst h; rfl); rfl]⟩
    | realign => exact ⟨⟨rfl, rfl, rfl⟩, hends⟩
    | loss => exact ⟨⟨rfl, rfl, rfl⟩, hends⟩
    | set ss => exact channelTakes_plain hq

/-- No window closes along these happenings. -/
def Unclosed (src : Fin 8) : List (Consumer × Item) → State → Prop
  | [], _ => True
  | x :: l, s => ¬ closesOn x s ∧ Unclosed src l (consume src x.2 x.1 s)

/-- What channel `c` receives along these happenings, each item with the tracker of its group as it stands
there. -/
def heard (src : Fin 8) (c : Fin 16) : List (Consumer × Item) → State → List (Tracker × Item)
  | [], _ => []
  | x :: l, s =>
    (if x.1 = .channel c then [(s.trackerOf c, x.2)] else []) ++ heard src c l (consume src x.2 x.1 s)

theorem heard_cons {src : Fin 8} {c : Fin 16} {x : Consumer × Item} {l : List (Consumer × Item)} {s : State} :
    heard src c (x :: l) s = (if x.1 = .channel c then [(s.trackerOf c, x.2)] else [])
      ++ heard src c l (consume src x.2 x.1 s) := rfl

theorem delivered_unit {src : Fin 8} {l : List (Consumer × Item)} (hl : ∀ x ∈ l, x.1.tracker? = none) {s : State}
    (hq : s.engine ≠ .idle ∨ Unclosed src l s) :
    EngineStands s (delivered src l s) ∧ ∀ c, unitOf c (delivered src l s)
      = (heard src c l s).foldl (unitItem s.opState s.tables.channels[c].slot) (unitOf c s) := by
  induction l generalizing s with
  | nil => exact ⟨.refl s, fun c => rfl⟩
  | cons x l ih =>
    obtain ⟨h1, h2⟩ := consume_unit (src := src) (hl x List.mem_cons_self) (hq.imp id fun h => h.1)
    have ha := (consume_talks (a := False) src x.2 x.1 s).apart
    obtain ⟨h3, h4⟩ := ih (fun y hy => hl y (List.mem_cons_of_mem _ hy)) (s := consume src x.2 x.1 s)
      (hq.imp (fun h => h1.1 ▸ h) fun h => h.2)
    refine ⟨h1.trans h3, fun c => ?_⟩
    rw [delivered_cons, h4 c, h2 c]
    rw [ha.opState, ha.tables, heard_cons, List.foldl_append]
    split <;> rfl

end Sys2Proof.Machine

namespace Sys2Proof.Machine
open Sys2Proof.Claims

/-! ### What a channel hears of a delivery -/

section
variable {src : Fin 8} {c : Fin 16} {l l' : List (Consumer × Item)} {s : State}

theorem heard_append : heard src c (l ++ l') s = heard src c l s ++ heard src c l' (delivered src l s) := by
  induction l generalizing s with
  | nil => rfl
  | cons x l ih => rw [List.cons_append, heard_cons, heard_cons, ih, List.append_assoc]; rfl

/-- R18: a channel hears its own items of the delivery in their order. -/
theorem heard_items : (heard src c l s).map Prod.snd
    = (l.filter fun x => decide (x.1 = .channel c)).map Prod.snd := by
  induction l generalizing s with
  | nil => rfl
  | cons x l ih =>
    rw [heard_cons, List.map_append, ih]
    by_cases h : x.1 = .channel c
    · rw [if_pos h, List.filter_cons_of_pos (by simpa using h)]
      rfl
    · rw [if_neg h, List.filter_cons_of_neg (by simpa using h)]
      rfl

/-- It hears each under the tracker of its group as the delivery so far has left it. -/
theorem mem_heard {y : Tracker × Item} (h : y ∈ heard src c l s) :
    ∃ pre, pre <+: l ∧ y.1 = (delivered src pre s).trackerOf c := by
  induction l generalizing s with
  | nil => cases h
  | cons x l ih =>
    rw [heard_cons, List.mem_append] at h
    obtain h | h := h
    · split at h
      · rw [List.mem_singleton] at h
        exact ⟨[], List.nil_prefix, by rw [h]; rfl⟩
      · cases h
    · obtain ⟨pre, hp, e⟩ := ih h
      exact ⟨x :: pre, List.cons_prefix_cons.mpr ⟨rfl, hp⟩, e⟩

end

/-- The set of an item heard, if it is one. -/
def heardSet (y : Tracker × Item) : Option (Tracker × SampleSet) :=
  match y.2 with
  | .set ss => some (y.1, ss)
  | _ => none

/-- The sets that channel `c` receives along these happenings, each with the tracker of its group. -/
def setsHeard (src : Fin 8) (c : Fin 16) (l : List (Consumer × Item)) (s : State) : List (Tracker × SampleSet) :=
  (heard src c l s).filterMap heardSet

/-- Whether an item is a start notice or a set. -/
def Item.isTaken : Item → Bool
  | .start => true
  | .set _ => true
  | _ => false

theorem isTaken_takenItems {started : Bool} {sets : List SampleSet} {it : Item}
    (h : it ∈ takenItems started sets) : it.isTaken = true := by
  unfold takenItems at h
  rw [List.mem_append] at h
  obtain h | h := h
  · split at h
    · rw [List.mem_singleton] at h
      rw [h]
      rfl
    · cases h
  · obtain ⟨ss, _, rfl⟩ := List.mem_map.mp h
    rfl

/-- A channel's counters with the missed windows of a series counted. -/
def missesCounted (ms : List Nat) (k : ChannelCounters) : ChannelCounters :=
  { k with missed := if ms = [] then k.missed else raised k.missed ms.length }

theorem missesCounted_cons (m : Option Nat) (ms : List Nat) (k : ChannelCounters) :
    missesCounted ms (missedCounted m k) = missesCounted (m.toList ++ ms) k := by
  cases m with
  | none => rfl
  | some n =>
    change missesCounted ms { k with missed := raised k.missed 1 } = missesCounted (n :: ms) k
    cases ms with
    | nil => rfl
    | cons m ms =>
      unfold missesCounted raised
      rw [if_neg (List.cons_ne_nil _ _), if_neg (List.cons_ne_nil _ _)]
      congr 1
      simp only [List.length_cons]
      omega

/-- R59: outside ANALYSING a channel takes nothing. -/
theorem foldl_unitItem_idle {o : OpState} (ho : o ≠ .analysing) (slot : Fin 8) {h : List (Tracker × Item)}
    (hi : ∀ y ∈ h, y.2.isTaken = true) (p : ChannelUnit × ChannelCounters) :
    h.foldl (unitItem o slot) p = p := by
  induction h with
  | nil => rfl
  | cons y h ih =>
    have hy : unitItem o slot p y = p := by
      have := hi y List.mem_cons_self
      obtain ⟨tr, it⟩ := y
      cases it with
      | set ss => exact if_neg ho
      | start => rfl
      | realign => cases this
      | loss => cases this
    rw [List.foldl_cons, hy]
    exact ih fun y hy => hi y (List.mem_cons_of_mem _ hy)

/-- R57, R60, R63, R64: in ANALYSING it takes the sets it hears one by one. -/
theorem foldl_unitItem_sets (slot : Fin 8) {h : List (Tracker × Item)} (hi : ∀ y ∈ h, y.2.isTaken = true)
    (u : ChannelUnit) (k : ChannelCounters) : h.foldl (unitItem .analysing slot) (u, k)
      = ((unitTakes slot u (h.filterMap heardSet)).1, missesCounted (unitTakes slot u (h.filterMap heardSet)).2 k) := by
  induction h generalizing u k with
  | nil => rfl
  | cons y h ih =>
    have hy := hi y List.mem_cons_self
    have hr := fun y hy => hi y (List.mem_cons_of_mem _ hy)
    obtain ⟨tr, it⟩ := y
    cases it with
    | start => exact ih hr u k
    | realign => cases hy
    | loss => cases hy
    | set ss =>
      have hc : ((tr, Item.set ss) :: h).filterMap heardSet = (tr, ss) :: h.filterMap heardSet := rfl
      have hs : unitItem .analysing slot (u, k) (tr, .set ss)
          = ((setStep slot tr ss u).unit, missedCounted (setStep slot tr ss u).missed k) := rfl
      rw [List.foldl_cons, hs, ih hr, hc, unitTakes_cons, missesCounted_cons]

/-! ### Where no window closes -/

/-- How many sets channel `c` receives along these happenings. -/
def setCount (c : Fin 16) : List (Consumer × Item) → Nat
  | [] => 0
  | (who, .set _) :: l => (if who = .channel c then 1 else 0) + setCount c l
  | _ :: l => setCount c l

theorem setCount_cons_le (c : Fin 16) (x : Consumer × Item) (l : List (Consumer × Item)) :
    setCount c l ≤ setCount c (x :: l) := by
  obtain ⟨who, it⟩ := x
  cases it <;> simp [setCount]

theorem consume_inRange {src : Fin 8} {x : Consumer × Item} (hx : x.1.tracker? = none) {s : State}
    (h : ∀ i : Fin 2, InRange s.trackers[i]) (i : Fin 2) : InRange (consume src x.2 x.1 s).trackers[i] := by
  rw [consume_tracker hx]
  cases measurerPart i x with
  | none => exact h i
  | some y => exact itemTaken_inRange _ _ (h i) y

theorem unitOpen_freed (n : Nat) (u : ChannelUnit) : UnitOpen n (contextsFreed u) := by
  rintro w (h | h) <;> cases h

/-- Whether the first that channel `c` receives along these happenings is a realign notice. -/
def RealignFirst (c : Fin 16) (l : List (Consumer × Item)) : Prop :=
  ∃ rest, (l.filter fun x => decide (x.1 = .channel c)).map Prod.snd = .realign :: rest

theorem RealignFirst.cons {c : Fin 16} {x : Consumer × Item} {l : List (Consumer × Item)}
    (h : RealignFirst c (x :: l)) : (x.1 ≠ .channel c ∧ RealignFirst c l) ∨ x = (.channel c, .realign) := by
  obtain ⟨rest, h⟩ := h
  obtain ⟨who, it⟩ := x
  by_cases hw : who = .channel c
  · rw [List.filter_cons_of_pos (by simpa using hw)] at h
    obtain ⟨rfl, _⟩ := List.cons_eq_cons.mp h
    exact .inr (by rw [hw])
  · rw [List.filter_cons_of_neg (by simpa using hw)] at h
    exact .inl ⟨hw, rest, h⟩

/-- R52, R63, R66: where the windows stay open for the sets to come, or end before them, none closes. -/
theorem unclosed_of_open {src : Fin 8} {l : List (Consumer × Item)} (hl : ∀ x ∈ l, x.1.tracker? = none) {s : State}
    (ht : ∀ i : Fin 2, InRange s.trackers[i]) (hn : ∀ c, setCount c l < 2415)
    (ho : ∀ c : Fin 16, 0 < setCount c l → UnitOpen (setCount c l) s.channels[c] ∨ RealignFirst c l) :
    Unclosed src l s := by
  induction l generalizing s with
  | nil => trivial
  | cons x l ih =>
    have hx := hl x List.mem_cons_self
    have hcount : ∀ {c ss}, setCount c ((.channel c, .set ss) :: l) = setCount c l + 1 := fun {c ss} => by
      simp [setCount, Nat.add_comm]
    have hset : ∀ {c ss}, x = (.channel c, .set ss) → InRange (s.trackerOf c) ∧ setCount c l + 1 < 2415
        ∧ UnitOpen (setCount c l + 1) s.channels[c] := fun {c ss} hxe => by
      subst hxe
      have hnc := hn c
      have hoc := ho c
      rw [hcount] at hnc hoc
      refine ⟨ht _, hnc, (hoc (by omega)).resolve_right fun hr => ?_⟩
      obtain ⟨h, _⟩ | h := hr.cons
      · exact h rfl
      · cases h
    have hcl : ¬ closesOn x s := by
      rintro ⟨c, ss, rfl, _, hc⟩
      obtain ⟨htr, hnc, hoc⟩ := hset rfl
      rw [(setStep_open hnc htr hoc).1] at hc
      cases hc
    refine ⟨hcl, ih (fun y hy => hl y (List.mem_cons_of_mem _ hy)) (consume_inRange hx ht)
      (fun c => (setCount_cons_le c x l).trans_lt (hn c)) fun c hpos => ?_⟩
    have hu := congrArg Prod.fst ((consume_unit (src := src) hx (.inr hcl)).2 c)
    change (consume src x.2 x.1 s).channels[c] = _ at hu
    rw [hu]
    split
    · next hw =>
      obtain ⟨who, it⟩ := x
      obtain rfl : who = .channel c := hw
      have hoc := ho c (hpos.trans_le (setCount_cons_le c _ l))
      cases it with
      | start =>
        obtain h | h := hoc
        · exact .inl (h.mono (setCount_cons_le c _ l))
        · obtain ⟨h, _⟩ | h := h.cons
          · exact absurd rfl h
          · cases h
      | realign => exact .inl (unitOpen_freed _ _)
      | loss => exact .inl (unitOpen_freed _ _)
      | set ss =>
        obtain ⟨htr, hnc, hoc⟩ := hset rfl
        refine .inl ?_
        unfold unitItem
        dsimp only
        split
        · exact (setStep_open hnc htr hoc).2.2
        · exact hoc.mono (Nat.le_succ _)
    · next hw =>
      obtain h | h := ho c (hpos.trans_le (setCount_cons_le c x l))
      · exact .inl (h.mono (setCount_cons_le c x l))
      · exact .inr ((h.cons.resolve_right fun h => hw (by rw [h])).2)

/-- Along happenings no window closes, or there is one that is the first to close. -/
theorem unclosed_or_first (src : Fin 8) (l : List (Consumer × Item)) (s : State) :
    Unclosed src l s ∨ ∃ l₁ x l₂, l = l₁ ++ x :: l₂ ∧ Unclosed src l₁ s ∧ closesOn x (delivered src l₁ s) := by
  induction l generalizing s with
  | nil => exact .inl trivial
  | cons x l ih =>
    by_cases hx : closesOn x s
    · exact .inr ⟨[], x, l, rfl, trivial, hx⟩
    · obtain h | ⟨l₁, y, l₂, rfl, h1, h2⟩ := ih (consume src x.2 x.1 s)
      · exact .inl ⟨hx, h⟩
      · exact .inr ⟨x :: l₁, y, l₂, rfl, ⟨hx, h1⟩, h2⟩

end Sys2Proof.Machine

namespace Sys2Proof.Machine
open Sys2Proof.Claims

/-! ### Windows missed (R64) -/

/-- The number of the window that channel `c` misses on a happening, if it misses one. -/
def missedOn (c : Fin 16) (x : Consumer × Item) (s : State) : Option Nat :=
  match x with
  | (.channel c', .set ss) =>
    if c' = c then (setStep s.tables.channels[c].slot (s.trackerOf c) ss s.channels[c]).missed else none
  | _ => none

theorem setsHeard_cons {src : Fin 8} {c : Fin 16} {x : Consumer × Item} {l : List (Consumer × Item)} {s : State} :
    setsHeard src c (x :: l) s
      = ((if x.1 = .channel c then [(s.trackerOf c, x.2)] else []).filterMap heardSet)
        ++ setsHeard src c l (consume src x.2 x.1 s) := by
  unfold setsHeard
  rw [heard_cons, List.filterMap_append]

/-- What a channel takes of a delivery, happening by happening. -/
theorem unitTakes_heard_cons {src : Fin 8} {c : Fin 16} {x : Consumer × Item} {l : List (Consumer × Item)}
    {s : State} (ha : s.opState = .analysing) (hx : x.1.tracker? = none) (hi : x.2.isTaken = true)
    (hq : s.engine ≠ .idle ∨ ¬ closesOn x s) :
    unitTakes s.tables.channels[c].slot s.channels[c] (setsHeard src c (x :: l) s)
      = ((unitTakes s.tables.channels[c].slot (consume src x.2 x.1 s).channels[c]
            (setsHeard src c l (consume src x.2 x.1 s))).1,
        (missedOn c x s).toList ++ (unitTakes s.tables.channels[c].slot (consume src x.2 x.1 s).channels[c]
            (setsHeard src c l (consume src x.2 x.1 s))).2) := by
  have hu := congrArg Prod.fst ((consume_unit (src := src) hx hq).2 c)
  change (consume src x.2 x.1 s).channels[c] = _ at hu
  rw [setsHeard_cons]
  by_cases hw : x.1 = .channel c
  · rw [if_pos hw] at hu ⊢
    obtain ⟨who, it⟩ := x
    obtain rfl : who = .channel c := hw
    cases it with
    | start => rw [hu]; rfl
    | realign => cases hi
    | loss => cases hi
    | set ss =>
      have hu' : (consume src (.set ss) (.channel c) s).channels[c]
          = (setStep s.tables.channels[c].slot (s.trackerOf c) ss s.channels[c]).unit := by
        rw [hu]
        exact congrArg Prod.fst (if_pos ha)
      have hm : missedOn c (.channel c, .set ss) s
          = (setStep s.tables.channels[c].slot (s.trackerOf c) ss s.channels[c]).missed := if_pos rfl
      rw [hm, hu']
      exact unitTakes_cons _ _ _ _ _
  · rw [if_neg hw] at hu ⊢
    have hm : missedOn c x s = none := by
      unfold missedOn
      split
      · next c' _ => exact if_neg fun h => hw (congrArg Consumer.channel h)
      · rfl
    rw [hm, hu]
    rfl

theorem arbitrate_fault (s : State) : (arbitrate s).fault = s.fault := (arbitrate_within s).fault

/-- R64: a window missed is reported. -/
theorem consume_missed {src : Fin 8} {c : Fin 16} {x : Consumer × Item} {s : State} {seq : Nat}
    (ha : s.opState = .analysing) (h : missedOn c x s = some seq) :
    Reported .windowMissed s (consume src x.2 x.1 s)
      ∧ (s.fault.record = none → (consume src x.2 x.1 s).fault.record
        = some { kind := .windowMissed, subject := c.val, detail := .number seq, time := s.localTime }) := by
  obtain ⟨who, it⟩ := x
  unfold missedOn at h
  split at h
  · next c' ss heq =>
    obtain ⟨rfl, rfl⟩ := Prod.mk.inj heq
    split at h
    · next hc =>
      subst hc
      have he := channelTakes_analysing c' ss ha
      dsimp only at he
      generalize setStep s.tables.channels[c'].slot (s.trackerOf c') ss s.channels[c'] = r at h he
      rw [h] at he
      have hrep : reportMissed c' (some seq) { s with channels := putAt s.channels c' r.unit }
          = reportFault .windowMissed c'.val (.number seq) (onChannelCounters c'
            (fun k => { k with missed := countUp k.missed 1 })
            { s with channels := putAt s.channels c' r.unit }) := rfl
      have hf : (channelTakes c' ss s).fault
          = (reportMissed c' (some seq) { s with channels := putAt s.channels c' r.unit }).fault := by
        rw [he]
        split
        · exact arbitrate_fault _
        · rfl
      change Reported .windowMissed s (channelTakes c' ss s) ∧ (_ → (channelTakes c' ss s).fault.record = _)
      unfold Reported
      rw [hf, hrep]
      refine ⟨reportFault_reported .windowMissed c'.val (.number seq) (onChannelCounters c'
            (fun k => { k with missed := countUp k.missed 1 })
            { s with channels := putAt s.channels c' r.unit }), fun hn => ?_⟩
      rw [reportFault_record]
      change some (s.fault.record.getD _) = _
      rw [hn]
      rfl
    · cases h
  · cases h

/-- A happening of no measurer on which no window is missed reports nothing. -/
theorem consume_silent {src : Fin 8} {x : Consumer × Item} {s : State} (hx : x.1.tracker? = none)
    (hm : ∀ i r, x.1 ≠ .measurer i r) (h : ∀ c, missedOn c x s = none) :
    (consume src x.2 x.1 s).fault = s.fault := by
  obtain ⟨who, it⟩ := x
  cases who with
  | tracker t => cases hx
  | measurer t r => exact absurd rfl (hm t r)
  | capture => rfl
  | channel c =>
    cases it with
    | set ss =>
      have hc : (setStep s.tables.channels[c].slot (s.trackerOf c) ss s.channels[c]).missed = none :=
        (if_pos rfl).symm.trans (h c)
      by_cases ha : s.opState = .analysing
      · have he := channelTakes_analysing c ss ha
        dsimp only at he
        rw [hc] at he
        change (channelTakes c ss s).fault = _
        rw [he]
        split
        · exact arbitrate_fault _
        · rfl
      · exact congrArg State.fault (channelTakes_idle c ss ha)
    | _ => rfl

section
variable {src : Fin 8} {l : List (Consumer × Item)}

/-- R64: where a channel misses a window along a delivery, that is reported. -/
theorem delivered_missed (hl : ∀ x ∈ l, x.1.tracker? = none ∧ x.2.isTaken = true) {s : State}
    (ha : s.opState = .analysing) (hq : s.engine ≠ .idle ∨ Unclosed src l s) {c : Fin 16}
    (hm : (unitTakes s.tables.channels[c].slot s.channels[c] (setsHeard src c l s)).2 ≠ []) :
    (delivered src l s).fault.summary[FaultKind.windowMissed.index] = true := by
  induction l generalizing s with
  | nil => exact absurd rfl hm
  | cons x l ih =>
    obtain ⟨hx, hi⟩ := hl x List.mem_cons_self
    have hap := (consume_talks (a := False) src x.2 x.1 s).apart
    have hq1 : s.engine ≠ .idle ∨ ¬ closesOn x s := hq.imp id fun h => h.1
    rw [unitTakes_heard_cons ha hx hi hq1] at hm
    cases hmo : missedOn c x s with
    | some seq =>
      exact ((delivered_talks (a := False) src l _).grows).1 _ (consume_missed ha hmo).1.1
    | none =>
      rw [hmo, ← hap.tables] at hm
      exact ih (fun y hy => hl y (List.mem_cons_of_mem _ hy)) (hap.opState.trans ha)
        (hq.imp (fun h => (consume_unit hx hq1).1.1 ▸ h) fun h => h.2) hm

/-- R64, R180: where no measurer is reached, the first window missed along a delivery fills an empty fault
record. -/
theorem delivered_missed_record (hl : ∀ x ∈ l, x.1.tracker? = none ∧ x.2.isTaken = true)
    (hmeas : ∀ x ∈ l, ∀ i r, x.1 ≠ .measurer i r) {s : State} (ha : s.opState = .analysing)
    (hq : s.engine ≠ .idle ∨ Unclosed src l s) (hr : s.fault.record = none) :
    (∀ c, (unitTakes s.tables.channels[c].slot s.channels[c] (setsHeard src c l s)).2 = [])
      ∨ ∃ c seq, seq ∈ (unitTakes s.tables.channels[c].slot s.channels[c] (setsHeard src c l s)).2
        ∧ (delivered src l s).fault.record
          = some { kind := .windowMissed, subject := c.val, detail := .number seq, time := s.localTime } := by
  induction l generalizing s with
  | nil => exact .inl fun c => rfl
  | cons x l ih =>
    obtain ⟨hx, hi⟩ := hl x List.mem_cons_self
    have hap := (consume_talks (a := False) src x.2 x.1 s).apart
    have hq1 : s.engine ≠ .idle ∨ ¬ closesOn x s := hq.imp id fun h => h.1
    have hc := fun c => unitTakes_heard_cons (src := src) (c := c) (l := l) ha hx hi hq1
    by_cases hm : ∃ c seq, missedOn c x s = some seq
    · obtain ⟨c, seq, hmo⟩ := hm
      refine .inr ⟨c, seq, ?_, ((delivered_talks (a := False) src l _).grows).2 _
        ((consume_missed ha hmo).2 hr)⟩
      rw [hc c, hmo]
      simp
    · have hno : ∀ c, missedOn c x s = none := fun c =>
        Option.eq_none_iff_forall_ne_some.mpr fun seq h => hm ⟨c, seq, h⟩
      have hf := consume_silent (src := src) hx (hmeas x List.mem_cons_self) hno
      have := ih (fun y hy => hl y (List.mem_cons_of_mem _ hy)) (fun y hy => hmeas y (List.mem_cons_of_mem _ hy))
        (hap.opState.trans ha) (hq.imp (fun h => (consume_unit hx hq1).1.1 ▸ h) fun h => h.2) (hf ▸ hr)
      rw [hap.localTime, hap.tables] at this
      simp only [hc, hno, Option.toList_none, List.nil_append]
      exact this

end

end Sys2Proof.Machine

namespace Sys2Proof.Machine
open Sys2Proof.Claims

/-! ### The first window of a delivery that closes (R63, R75, R76, R77, R79) -/

section
variable {src : Fin 8} {c : Fin 16} {l l' : List (Consumer × Item)} {s : State}

theorem setsHeard_append :
    setsHeard src c (l ++ l') s = setsHeard src c l s ++ setsHeard src c l' (delivered src l s) := by
  unfold setsHeard
  rw [heard_append, List.filterMap_append]

theorem setsHeard_length : (setsHeard src c l s).length = setCount c l := by
  induction l generalizing s with
  | nil => rfl
  | cons x l ih =>
    rw [setsHeard_cons, List.length_append, ih]
    obtain ⟨who, it⟩ := x
    by_cases h : who = .channel c
    · cases it <;> simp [setCount, heardSet, h]
    · cases it <;> simp [setCount, h]

end

theorem advance_requests {u : ChannelUnit} (h : u.requests = false) (v : SlotValue) (test : Bool)
    (hc : (u.advance v test).closed = false) : (u.advance v test).unit.requests = false := by
  unfold ChannelUnit.requests at h ⊢
  rw [Bool.or_eq_false_iff] at h
  unfold ChannelUnit.advance at hc ⊢
  split
  · next w h0 =>
    rw [h0] at hc
    dsimp only at hc
    split at hc
    · cases hc
    · next hw =>
      dsimp only
      rw [if_neg hw]
      exact h.2
  · next w h1 hn =>
    split at hc
    · next w' h0 => exact absurd h0 (hn w')
    · next w' h1' _ =>
      obtain rfl := Context.filling.inj (h1.symm.trans h1')
      dsimp only at hc ⊢
      split at hc
      · cases hc
      · next hw =>
        rw [if_neg hw]
        exact Bool.or_eq_false_iff.mpr ⟨h.1, rfl⟩
    · next hn' => exact absurd h1 (hn' w)
  · exact Bool.or_eq_false_iff.mpr h

theorem openIfNone_requests {u : ChannelUnit} (h : u.requests = false) (w : Window) :
    (u.openIfNone w).requests = false := by
  unfold ChannelUnit.requests at h ⊢
  rw [Bool.or_eq_false_iff] at h ⊢
  unfold ChannelUnit.openIfNone
  split
  · exact h
  · split
    · exact ⟨rfl, h.2⟩
    · split
      · exact ⟨h.1, rfl⟩
      · exact h

theorem setStep_requests {slot : Fin 8} {tr : Tracker} {ss : SampleSet} {u : ChannelUnit}
    (h : u.requests = false) (hc : (setStep slot tr ss u).closed = false) :
    (setStep slot tr ss u).unit.requests = false := by
  cases hs : ss.slot? slot with
  | none =>
    rw [setStep_none hs]
    exact h
  | some v =>
    rw [setStep_some hs] at hc ⊢
    exact advance_requests (openIfNone_requests h _) v _ hc

/-- R63: a channel that closes no window does not begin to request. -/
theorem consume_requests {src : Fin 8} {x : Consumer × Item} (hx : x.1.tracker? = none) {s : State}
    (hc : ¬ closesOn x s) {c : Fin 16} (h : s.channels[c].requests = false) :
    (consume src x.2 x.1 s).channels[c].requests = false := by
  have hu := congrArg Prod.fst ((consume_unit (src := src) hx (.inr hc)).2 c)
  change (consume src x.2 x.1 s).channels[c] = _ at hu
  rw [hu]
  split
  · next hw =>
    obtain ⟨who, it⟩ := x
    obtain rfl : who = .channel c := hw
    cases it with
    | start => exact h
    | realign => rfl
    | loss => rfl
    | set ss =>
      unfold unitItem
      dsimp only
      split
      · next ha =>
        exact setStep_requests h (Bool.eq_false_iff.mpr fun hcl => hc ⟨c, ss, rfl, ha, hcl⟩)
      · exact h
  · exact h

theorem delivered_requests {src : Fin 8} {l : List (Consumer × Item)} (hl : ∀ x ∈ l, x.1.tracker? = none)
    {s : State} (hu : Unclosed src l s) {c : Fin 16} (h : s.channels[c].requests = false) :
    (delivered src l s).channels[c].requests = false := by
  induction l generalizing s with
  | nil => exact h
  | cons x l ih =>
    exact ih (fun y hy => hl y (List.mem_cons_of_mem _ hy)) hu.2 (consume_requests (hl x List.mem_cons_self) hu.1 h)

/-- R60, R63: the window alone in a channel unit takes what the channel hears and stays open while none closes. -/
theorem delivered_fills {src : Fin 8} {l : List (Consumer × Item)}
    (hl : ∀ x ∈ l, x.1.tracker? = none ∧ x.2.isTaken = true) {s : State} (ha : s.opState = .analysing)
    (hu : Unclosed src l s) {c : Fin 16} {w : Window} (hf : UnitFills w s.channels[c]) (hw : w.count < w.len)
    (hs : ∀ y ∈ setsHeard src c l s, (y.2.slot? s.tables.channels[c].slot).isSome = true) :
    UnitFills (windowTakes s.tables.channels[c].slot ((setsHeard src c l s).map Prod.snd) w)
        (delivered src l s).channels[c]
      ∧ w.count + (setsHeard src c l s).length < w.len := by
  induction l generalizing s w with
  | nil => exact ⟨hf, hw⟩
  | cons x l ih =>
    obtain ⟨hx, hi⟩ := hl x List.mem_cons_self
    have hap := (consume_talks (a := False) src x.2 x.1 s).apart
    have hun := congrArg Prod.fst ((consume_unit (src := src) hx (.inr hu.1)).2 c)
    change (consume src x.2 x.1 s).channels[c] = _ at hun
    have ih' := fun w => ih (fun y hy => hl y (List.mem_cons_of_mem _ hy)) (hap.opState.trans ha) hu.2 (w := w)
    rw [hap.tables] at ih'
    have hsame (h1 : (consume src x.2 x.1 s).channels[c] = s.channels[c])
        (h2 : setsHeard src c (x :: l) s = setsHeard src c l (consume src x.2 x.1 s)) :
        UnitFills (windowTakes s.tables.channels[c].slot ((setsHeard src c (x :: l) s).map Prod.snd) w)
            (delivered src (x :: l) s).channels[c]
          ∧ w.count + (setsHeard src c (x :: l) s).length < w.len := by
      rw [h2] at hs ⊢
      exact ih' w (h1.symm ▸ hf) hw hs
    by_cases hw' : x.1 = .channel c
    · rw [if_pos hw'] at hun
      obtain ⟨who, it⟩ := x
      obtain rfl : who = .channel c := hw'
      cases it with
      | start => exact hsame hun (by rw [setsHeard_cons]; simp [heardSet])
      | realign => cases hi
      | loss => cases hi
      | set ss =>
        have hcons : setsHeard src c ((.channel c, .set ss) :: l) s
            = (s.trackerOf c, ss) :: setsHeard src c l (consume src (.set ss) (.channel c) s) := by
          rw [setsHeard_cons, if_pos rfl]
          rfl
        rw [hcons] at hs ⊢
        obtain ⟨v, hv⟩ := Option.isSome_iff_exists.mp (hs _ List.mem_cons_self)
        have hstep : setStep s.tables.channels[c].slot (s.trackerOf c) ss s.channels[c]
            = s.channels[c].advance v ss.test := by
          rw [setStep_some hv, hf.openIfNone]
        obtain ⟨_, _, hclosed, hopen, _⟩ := hf.advance v ss.test
        have hlt : w.count + 1 < w.len := by
          by_contra hge
          exact hu.1 ⟨c, ss, rfl, ha, by rw [hstep, hclosed]; exact decide_eq_true (by omega)⟩
        obtain ⟨hlen, hcount⟩ := window_add_len w v ss.test
        have hun' : (consume src (.set ss) (.channel c) s).channels[c] = (s.channels[c].advance v ss.test).unit := by
          rw [hun, ← hstep]
          exact congrArg Prod.fst (if_pos ha)
        obtain ⟨h1, h2⟩ := ih' (w.add v ss.test) (hun'.symm ▸ hopen hlt) (by omega)
          fun y hy => hs y (List.mem_cons_of_mem _ hy)
        rw [List.map_cons, windowTakes_cons hv, List.length_cons]
        exact ⟨h1, by dsimp only at h2; omega⟩
    · rw [if_neg hw'] at hun
      exact hsame hun (by rw [setsHeard_cons, if_neg hw']; rfl)

theorem mem_arbiterOrder (s : State) (c : Fin 16) : c ∈ s.arbiterOrder := by
  unfold State.arbiterOrder
  split
  · exact List.mem_finRange c
  · exact List.mem_map.mpr ⟨c - s.rotation, List.mem_finRange _, by abel⟩

theorem rotation_wraps : ∀ c : Fin 16, c + 1 = if c = 15 then 0 else c + 1 := by decide

/-- R75, R76, R77, R79: the close arbiter, with one channel requesting and the engine IDLE. -/
theorem arbitrate_only {s : State} (he : s.engine = .idle) {c : Fin 16} {w : Window}
    (hw : UnitWaits w s.channels[c]) (ho : ∀ x, x ≠ c → s.channels[x].requests = false) :
    arbitrate s = { s with
      channels := putAt s.channels c (contextsFreed s.channels[c])
      rotation := rotatedPast s c
      engine := if s.memOwner = .free then .evaluating c w else .waiting c (some w)
      memOwner := if s.memOwner = .free then .engine else s.memOwner } := by
  obtain ⟨hp, hr⟩ := hw.takePending
  have hn : s.nextGrant = some c := by
    unfold State.nextGrant
    have hsome : (s.arbiterOrder.find? fun c => s.channels[c].requests).isSome = true :=
      List.find?_isSome.mpr ⟨c, mem_arbiterOrder s c, hr⟩
    obtain ⟨x, hx⟩ := Option.isSome_iff_exists.mp hsome
    have hxr := List.find?_some hx
    by_cases hxc : x = c
    · rw [hx, hxc]
    · rw [ho x hxc] at hxr
      cases hxr
  have hg : arbitrate s = grant c s := by
    unfold arbitrate
    rw [he, hn]
  obtain ⟨hno, _⟩ | ⟨w', u, hp', e⟩ := grant_cases c s
  · rw [hp] at hno
    cases hno
  · obtain ⟨rfl, rfl⟩ := Prod.mk.inj (Option.some.inj (hp.symm.trans hp'))
    rw [hg, e]
    congr 1
    unfold rotatedPast
    rw [← rotation_wraps c]
    cases s.tables.general.arbiterMode <;> rfl

end Sys2Proof.Machine

namespace Sys2Proof.Machine
open Sys2Proof.Claims

/-! ### The channels after a delivery -/

theorem heard_isTaken {src : Fin 8} {c : Fin 16} {l : List (Consumer × Item)} {s : State}
    (hl : ∀ x ∈ l, x.1.tracker? = none ∧ x.2.isTaken = true) {y : Tracker × Item} (hy : y ∈ heard src c l s) :
    y.2.isTaken = true := by
  have hm : y.2 ∈ (heard src c l s).map Prod.snd := List.mem_map_of_mem hy
  rw [heard_items] at hm
  obtain ⟨x, hx, e⟩ := List.mem_map.mp hm
  rw [← e]
  exact (hl x (List.mem_filter.mp hx).1).2

/-- A channel's unit and counters after a delivery of sets in ANALYSING in which no window of its own is
granted. -/
def unitPlain (src : Fin 8) (c : Fin 16) (l : List (Consumer × Item)) (s : State) : ChannelUnit × ChannelCounters :=
  ((unitTakes s.tables.channels[c].slot s.channels[c] (setsHeard src c l s)).1,
    missesCounted (unitTakes s.tables.channels[c].slot s.channels[c] (setsHeard src c l s)).2
      s.counters.channels[c])

section
variable {src : Fin 8} {l : List (Consumer × Item)} (hl : ∀ x ∈ l, x.1.tracker? = none ∧ x.2.isTaken = true)
  {s : State}
include hl

/-- R57, R60, R63, R64: where no window closes, or the engine is not IDLE, each channel takes what it hears. -/
theorem delivered_plain (ha : s.opState = .analysing) (hq : s.engine ≠ .idle ∨ Unclosed src l s) :
    EngineStands s (delivered src l s) ∧ ∀ c, unitOf c (delivered src l s) = unitPlain src c l s := by
  obtain ⟨h1, h2⟩ := delivered_unit (fun x hx => (hl x hx).1) hq
  refine ⟨h1, fun c => ?_⟩
  rw [h2 c, ha]
  exact foldl_unitItem_sets _ (fun y hy => heard_isTaken hl hy) _ _

/-- R59: outside ANALYSING the channels take nothing. -/
theorem delivered_unanalysed (ha : s.opState ≠ .analysing) :
    EngineStands s (delivered src l s) ∧ ∀ c, unitOf c (delivered src l s) = unitOf c s := by
  have hu : ∀ (l : List (Consumer × Item)) (s : State), (∀ x ∈ l, x.1.tracker? = none) →
      s.opState ≠ .analysing → Unclosed src l s := by
    intro l
    induction l with
    | nil => exact fun _ _ _ => trivial
    | cons x l ih =>
      intro s hl ha
      refine ⟨fun ⟨_, _, _, h, _⟩ => ha h, ih _ (fun y hy => hl y (List.mem_cons_of_mem _ hy)) ?_⟩
      rw [(consume_talks (a := False) src x.2 x.1 s).apart.opState]
      exact ha
  obtain ⟨h1, h2⟩ := delivered_unit (fun x hx => (hl x hx).1) (.inr (hu l s (fun x hx => (hl x hx).1) ha))
  exact ⟨h1, fun c => (h2 c).trans (foldl_unitItem_idle ha _ (fun y hy => heard_isTaken hl hy) _)⟩

end

/-- Whether channel `c`, with the window `w` alone, closes it on one of the sets that it hears. -/
def Closes (src : Fin 8) (l : List (Consumer × Item)) (s : State) (c : Fin 16) (w : Window) : Prop :=
  UnitFills w s.channels[c] ∧ w.count < w.len ∧ w.len ≤ w.count + setCount c l
    ∧ ∀ y ∈ setsHeard src c l s, (y.2.slot? s.tables.channels[c].slot).isSome = true

theorem setCount_append (c : Fin 16) (l l' : List (Consumer × Item)) :
    setCount c (l ++ l') = setCount c l + setCount c l' := by
  induction l with
  | nil => simp [setCount]
  | cons x l ih =>
    obtain ⟨who, it⟩ := x
    cases it <;> simp [setCount, ih, Nat.add_assoc]

theorem unitPlain_append {src : Fin 8} {c : Fin 16} {l l' : List (Consumer × Item)} {s : State}
    (h : unitOf c (delivered src l s) = unitPlain src c l s) :
    unitPlain src c (l ++ l') s = unitPlain src c l' (delivered src l s) := by
  have ht := (delivered_apart src l s).tables
  have h1 : (delivered src l s).channels[c] = _ := congrArg Prod.fst h
  have h2 : (delivered src l s).counters.channels[c] = _ := congrArg Prod.snd h
  unfold unitPlain at h1 h2 ⊢
  dsimp only at h1 h2
  rw [ht, h2, h1, setsHeard_append, unitTakes_append]
  refine Prod.ext rfl ?_
  generalize (unitTakes _ s.channels[c] (setsHeard src c l s)).2 = ms
  generalize (unitTakes _ _ (setsHeard src c l' (delivered src l s))).2 = ms'
  unfold missesCounted raised
  dsimp only
  congr 1
  cases ms with
  | nil => rfl
  | cons m ms =>
    cases ms' with
    | nil => simp
    | cons m' ms' =>
      rw [if_neg (by simp), if_neg (by simp), if_neg (by simp)]
      simp only [List.length_append, List.length_cons]
      omega

theorem trackerOf_inRange {src : Fin 8} {c : Fin 16} {l : List (Consumer × Item)}
    (hl : ∀ x ∈ l, x.1.tracker? = none) {s : State} (ht : ∀ i : Fin 2, InRange s.trackers[i])
    {y : Tracker × SampleSet} (hy : y ∈ setsHeard src c l s) : InRange y.1 := by
  obtain ⟨z, hz, hs⟩ := List.mem_filterMap.mp hy
  have hzy : y.1 = z.1 := by
    unfold heardSet at hs
    split at hs
    · exact (congrArg Prod.fst (Option.some.inj hs)).symm
    · cases hs
  obtain ⟨pre, hp, e⟩ := mem_heard hz
  rw [hzy, e]
  unfold State.trackerOf
  rw [delivered_tracker fun x hx => hl x (hp.subset hx)]
  exact foldl_itemTaken_inRange _ _ _ (ht _)

end Sys2Proof.Machine

namespace Sys2Proof.Machine
open Sys2Proof.Claims

/-! ### The window that closes first (R63, R75, R76, R77, R79, log 5) -/

theorem unitOpen_delivered {src : Fin 8} {c : Fin 16} {l : List (Consumer × Item)}
    (hl : ∀ x ∈ l, x.1.tracker? = none ∧ x.2.isTaken = true) {s : State} (ha : s.opState = .analysing)
    (hu : Unclosed src l s) (ht : ∀ i : Fin 2, InRange s.trackers[i]) {n : Nat} (hn : setCount c l + n < 2415)
    (ho : UnitOpen (setCount c l + n) s.channels[c]) : UnitOpen n (delivered src l s).channels[c] := by
  have h : (delivered src l s).channels[c] = _ := congrArg Prod.fst ((delivered_plain hl ha (.inr hu)).2 c)
  rw [h]
  have hlen : (setsHeard src c l s).length = setCount c l := setsHeard_length
  exact (unitTakes_open (by rw [hlen]; exact hn)
    (fun x hx => trackerOf_inRange (fun y hy => (hl y hy).1) ht hx) (by rw [hlen]; exact ho)).2

section
variable {src : Fin 8} {c : Fin 16} {l₁ l₂ : List (Consumer × Item)} {ss : SampleSet} {s : State}

/-- The state in which the first window closes, once the closing set has reached its channel. -/
theorem consume_closes {v : State} (ha : v.opState = .analysing) (he : v.engine = .idle)
    (hreq : ∀ x : Fin 16, v.channels[x].requests = false) {w : Window} (hf : UnitFills w v.channels[c])
    {val : SlotValue} (hv : ss.slot? v.tables.channels[c].slot = some val) (hw : w.len ≤ w.count + 1) :
    let full := w.add val ss.test
    consume src (.set ss) (.channel c) v = { v with
      channels := putAt v.channels c (contextsFreed v.channels[c])
      rotation := rotatedPast v c
      engine := if v.memOwner = .free then .evaluating c full else .waiting c (some full)
      memOwner := if v.memOwner = .free then .engine else v.memOwner } := by
  dsimp only
  obtain ⟨hmiss, hfreed, hclosed, _, hwait⟩ := hf.advance val ss.test
  have hstep : setStep v.tables.channels[c].slot (v.trackerOf c) ss v.channels[c]
      = v.channels[c].advance val ss.test := by
    rw [setStep_some hv, hf.openIfNone]
  have h := channelTakes_analysing c ss ha
  rw [hstep] at h
  dsimp only at h
  rw [hmiss, if_pos (hclosed.trans (decide_eq_true hw))] at h
  generalize hu : (v.channels[c].advance val ss.test).unit = u at h hfreed hwait
  have hget : (putAt v.channels c u)[c] = u := putAt_same _ _ _
  have hwaits : UnitWaits (w.add val ss.test)
      (State.channels { v with channels := putAt v.channels c u })[c] := by
    change UnitWaits _ (putAt v.channels c u)[c]
    rw [hget]
    exact hwait hw
  have hg := arbitrate_only (s := { v with channels := putAt v.channels c u }) he hwaits fun x hx => by
    change (putAt v.channels c u)[x].requests = false
    rw [putAt_get, if_neg hx]
    exact hreq x
  refine (h.trans hg).trans ?_
  have hput : putAt (putAt v.channels c u) c (contextsFreed (putAt v.channels c u)[c])
      = putAt v.channels c (contextsFreed v.channels[c]) := by
    rw [hget, hfreed]
    simp [putAt]
  dsimp only
  rw [hput]
  rfl

end

theorem windowTakes_append_one {slot : Fin 8} {ss : SampleSet} {val : SlotValue} (h : ss.slot? slot = some val)
    (sets : List SampleSet) (w : Window) :
    windowTakes slot (sets ++ [ss]) w = (windowTakes slot sets w).add val ss.test := by
  unfold windowTakes
  rw [List.foldl_append, List.foldl_cons, List.foldl_nil]
  simp only [h]

theorem missesCounted_of_nil {ms : List Nat} (h : ms = []) (k : ChannelCounters) : missesCounted ms k = k := by
  rw [h]
  rfl

/-- The rest of a delivery from the closing set on: the engine has taken the window, and is busy with it. -/
theorem delivered_closes {src : Fin 8} {c : Fin 16} {l : List (Consumer × Item)} {ss : SampleSet} {v : State}
    (hl : ∀ x ∈ l, x.1.tracker? = none ∧ x.2.isTaken = true) (ha : v.opState = .analysing)
    (he : v.engine = .idle) (ht : ∀ i : Fin 2, InRange v.trackers[i])
    (hreq : ∀ x : Fin 16, v.channels[x].requests = false) {w : Window} (hf : UnitFills w v.channels[c])
    {val : SlotValue} (hv : ss.slot? v.tables.channels[c].slot = some val) (hw : w.len ≤ w.count + 1)
    (hn : setCount c l < 2415) :
    let full := w.add val ss.test
    let x₀ : Consumer × Item := (.channel c, .set ss)
    let t := delivered src (x₀ :: l) v
    t.engine = (if v.memOwner = .free then .evaluating c full else .waiting c (some full))
      ∧ t.memOwner = (if v.memOwner = .free then .engine else v.memOwner)
      ∧ t.rotation = rotatedPast v c
      ∧ t.channels[c] = (unitTakes v.tables.channels[c].slot (contextsFreed v.channels[c])
          (setsHeard src c l (consume src (.set ss) (.channel c) v))).1
      ∧ t.counters.channels[c] = v.counters.channels[c]
      ∧ ∀ x, x ≠ c → unitOf x t = unitPlain src x (x₀ :: l) v := by
  have hcons := consume_closes (src := src) ha he hreq hf hv hw
  dsimp only at hcons ⊢
  rw [delivered_cons]
  dsimp only
  have hsets : ∀ x, x ≠ c → setsHeard src x ((.channel c, .set ss) :: l) v
      = setsHeard src x l (consume src (.set ss) (.channel c) v) := fun x hx => by
    rw [setsHeard_cons, if_neg (by simpa using hx.symm)]
    rfl
  generalize consume src (.set ss) (.channel c) v = u at *
  have htab : u.tables = v.tables := by rw [hcons]
  have hcnt : u.counters = v.counters := by rw [hcons]
  have hch : u.channels = putAt v.channels c (contextsFreed v.channels[c]) := by rw [hcons]
  have hcc : u.channels[c] = contextsFreed v.channels[c] := by rw [hch]; exact putAt_same _ _ _
  have heng : u.engine = if v.memOwner = .free then .evaluating c (w.add val ss.test)
      else .waiting c (some (w.add val ss.test)) := by rw [hcons]
  have hbusy : u.engine ≠ .idle := by
    rw [heng]
    split <;> simp
  obtain ⟨⟨h1, h2, h3⟩, hunit⟩ := delivered_plain (s := u) hl (by rw [hcons]; exact ha) (.inl hbusy)
  have hc := hunit c
  have hlen : (setsHeard src c l u).length = setCount c l := setsHeard_length
  have hmiss := (unitTakes_open (slot := v.tables.channels[c].slot) (l := setsHeard src c l u) (n := 0)
    (u := contextsFreed v.channels[c]) (by omega)
    (fun y hy => trackerOf_inRange (fun x hx => (hl x hx).1)
      (fun i => by rw [hcons]; exact ht i) hy) (unitOpen_freed _ _)).1
  refine ⟨h1.trans heng, h3.trans (by rw [hcons]), h2.trans (by rw [hcons]),
    (congrArg Prod.fst hc).trans ?_, (congrArg Prod.snd hc).trans ?_, fun x hx => (hunit x).trans ?_⟩
  · unfold unitPlain
    rw [htab, hcc]
  · unfold unitPlain
    dsimp only
    rw [htab, hcc, hcnt]
    exact missesCounted_of_nil hmiss _
  · have hcx : u.channels[x] = v.channels[x] := by rw [hch, putAt_get, if_neg hx]
    unfold unitPlain
    rw [hsets x hx, htab, hcx, hcnt]

/-- The outcome of a delivery in which the engine takes the window `w` of channel `c`. -/
structure Granted (src : Fin 8) (l : List (Consumer × Item)) (c : Fin 16) (w : Window) (s t : State) : Prop where
  engine : t.engine =
    let full := windowTakes s.tables.channels[c].slot
      (((setsHeard src c l s).take (w.len - w.count)).map Prod.snd) w
    if s.memOwner = .free then .evaluating c full else .waiting c (some full)
  memOwner : t.memOwner = if s.memOwner = .free then .engine else s.memOwner
  rotation : t.rotation = rotatedPast s c
  unit : t.channels[c] = (unitTakes s.tables.channels[c].slot (contextsFreed s.channels[c])
    ((setsHeard src c l s).drop (w.len - w.count))).1
  counters : t.counters.channels[c] = s.counters.channels[c]
  others : ∀ x, x ≠ c → unitOf x t = unitPlain src x l s

theorem rotatedPast_congr {s t : State} (h1 : t.tables = s.tables) (h2 : t.rotation = s.rotation) (c : Fin 16) :
    rotatedPast t c = rotatedPast s c := by
  unfold rotatedPast
  rw [h1, h2]

/-- R63, R75, R77, R79: the window that closes first, at the place where it closes. -/
theorem delivered_granted {src : Fin 8} {l₁ l₂ : List (Consumer × Item)} {c : Fin 16} {ss : SampleSet}
    (hl₁ : ∀ x ∈ l₁, x.1.tracker? = none ∧ x.2.isTaken = true)
    (hl₂ : ∀ x ∈ l₂, x.1.tracker? = none ∧ x.2.isTaken = true) {s : State} (ha : s.opState = .analysing)
    (he : s.engine = .idle) (ht : ∀ i : Fin 2, InRange s.trackers[i])
    (hreq : ∀ x : Fin 16, s.channels[x].requests = false) (hu : Unclosed src l₁ s)
    (hcl : closesOn (.channel c, .set ss) (delivered src l₁ s)) (hn : setCount c l₂ < 2415) {w : Window}
    (hw : Closes src (l₁ ++ (.channel c, .set ss) :: l₂) s c w) :
    Granted src (l₁ ++ (.channel c, .set ss) :: l₂) c w s
      (delivered src (l₁ ++ (.channel c, .set ss) :: l₂) s) := by
  obtain ⟨hf, hlt, _, hs⟩ := hw
  obtain ⟨hstand, hunit⟩ := delivered_plain hl₁ ha (.inr hu)
  have hap := delivered_apart src l₁ s
  have hH : setsHeard src c (l₁ ++ (.channel c, .set ss) :: l₂) s = setsHeard src c l₁ s
      ++ ((delivered src l₁ s).trackerOf c, ss) :: setsHeard src c l₂
        (consume src (.set ss) (.channel c) (delivered src l₁ s)) := by
    rw [setsHeard_append, setsHeard_cons, if_pos rfl]
    rfl
  rw [hH] at hs
  obtain ⟨hfv, hlen⟩ := delivered_fills hl₁ ha hu hf hlt fun y hy => hs y (List.mem_append_left _ hy)
  obtain ⟨val, hv⟩ := Option.isSome_iff_exists.mp (hs _ (List.mem_append_right _ List.mem_cons_self))
  obtain ⟨hwl, hwc⟩ := windowTakes_len (slot := s.tables.channels[c].slot)
    (sets := (setsHeard src c l₁ s).map Prod.snd)
    (fun y hy => by
      obtain ⟨z, hz, rfl⟩ := List.mem_map.mp hy
      exact hs z (List.mem_append_left _ hz)) w
  rw [List.length_map] at hwc
  have hv' : ss.slot? (delivered src l₁ s).tables.channels[c].slot = some val := hap.tables ▸ hv
  have hend : (windowTakes s.tables.channels[c].slot ((setsHeard src c l₁ s).map Prod.snd) w).len
      ≤ (windowTakes s.tables.channels[c].slot ((setsHeard src c l₁ s).map Prod.snd) w).count + 1 := by
    obtain ⟨_, _, heq, _, hclosed⟩ := hcl
    obtain ⟨h1, h2⟩ := Prod.mk.inj heq
    obtain rfl := Consumer.channel.inj h1
    obtain rfl := Item.set.inj h2
    rw [setStep_some hv', hfv.openIfNone, (hfv.advance val ss.test).2.2.1] at hclosed
    exact of_decide_eq_true hclosed
  have hn' : w.len - w.count = (setsHeard src c l₁ s).length + 1 := by
    rw [hwl, hwc] at hend
    omega
  obtain ⟨h1, h2, h3, h4, h5, h6⟩ := delivered_closes hl₂ (hap.opState.trans ha) (hstand.1.trans he)
    (fun i => by
      rw [delivered_tracker fun x hx => (hl₁ x hx).1]
      exact foldl_itemTaken_inRange _ _ _ (ht i))
    (fun x => delivered_requests (fun y hy => (hl₁ y hy).1) hu (hreq x)) hfv hv' hend hn
  obtain ⟨_, hmiss, hfree⟩ := hf.unitTakes (fun y hy => hs y (List.mem_append_left _ hy)) hlen
  have hch : (delivered src l₁ s).channels[c] = _ := congrArg Prod.fst (hunit c)
  have hfreed : contextsFreed (delivered src l₁ s).channels[c] = contextsFreed s.channels[c] := by
    rw [hch]
    exact hfree
  have hcnt : (delivered src l₁ s).counters.channels[c] = s.counters.channels[c] :=
    (congrArg Prod.snd (hunit c)).trans (missesCounted_of_nil hmiss _)
  rw [hstand.2.2] at h1 h2
  rw [hap.tables, hfreed] at h4
  rw [hcnt] at h5
  rw [← delivered_append] at h1 h2 h3 h4 h5 h6
  have htake : ((setsHeard src c (l₁ ++ (.channel c, .set ss) :: l₂) s).take (w.len - w.count)).map Prod.snd
      = (setsHeard src c l₁ s).map Prod.snd ++ [ss] := by
    rw [hH, hn', List.take_length_add_append]
    simp
  have hdrop : (setsHeard src c (l₁ ++ (.channel c, .set ss) :: l₂) s).drop (w.len - w.count)
      = setsHeard src c l₂ (consume src (.set ss) (.channel c) (delivered src l₁ s)) := by
    rw [hH, hn', List.drop_length_add_append]
    rfl
  exact {
    engine := by
      rw [htake, windowTakes_append_one hv]
      exact h1
    memOwner := h2
    rotation := h3.trans (rotatedPast_congr hap.tables hstand.2.1 c)
    unit := by
      rw [hdrop]
      exact h4
    counters := h5
    others := fun x hx => (h6 x hx).trans (unitPlain_append (hunit x)).symm }

/-- R63, R75, R77, R79, log 5: where the engine is IDLE and some windows close along a delivery, the engine takes
the one that closes first. -/
theorem delivered_first_close {src : Fin 8} {l : List (Consumer × Item)}
    (hl : ∀ x ∈ l, x.1.tracker? = none ∧ x.2.isTaken = true) {s : State} (ha : s.opState = .analysing)
    (he : s.engine = .idle) (ht : ∀ i : Fin 2, InRange s.trackers[i])
    (hreq : ∀ x : Fin 16, s.channels[x].requests = false) (hn : ∀ c, setCount c l < 2415)
    (hch : ∀ c, (∃ x ∈ l, x.1 = .channel c) → UnitOpen (setCount c l) s.channels[c] ∨ ∃ w, Closes src l s c w)
    (hex : ∃ c w, Closes src l s c w) :
    ∃ c w, (∃ x ∈ l, x.1 = .channel c) ∧ Closes src l s c w ∧ Granted src l c w s (delivered src l s) := by
  obtain hu | ⟨l₁, x, l₂, rfl, hu, hx⟩ := unclosed_or_first src l s
  · obtain ⟨c, w, hf, hw, hle, hs⟩ := hex
    have := (delivered_fills hl ha hu hf hw hs).2
    rw [setsHeard_length] at this
    omega
  have hx' := hx
  obtain ⟨c, ss, rfl, _, hclosed⟩ := hx'
  have hl₁ : ∀ x ∈ l₁, x.1.tracker? = none ∧ x.2.isTaken = true := fun x hx => hl x (by simp [hx])
  have hl₂ : ∀ x ∈ l₂, x.1.tracker? = none ∧ x.2.isTaken = true := fun x hx => hl x (by simp [hx])
  have hcount : setCount c (l₁ ++ (.channel c, .set ss) :: l₂) = setCount c l₁ + (1 + setCount c l₂) := by
    rw [setCount_append]
    simp [setCount]
  have hmem : ∃ x ∈ l₁ ++ (Consumer.channel c, Item.set ss) :: l₂, x.1 = Consumer.channel c :=
    ⟨(.channel c, .set ss), by simp, rfl⟩
  have hnc := hn c
  rw [hcount] at hnc
  obtain hopen | ⟨w, hw⟩ := hch c hmem
  · rw [hcount] at hopen
    have hov := unitOpen_delivered hl₁ ha hu ht (n := 0 + 1) (by omega) (hopen.mono (by omega))
    have htr : InRange ((delivered src l₁ s).trackerOf c) := by
      unfold State.trackerOf
      rw [delivered_tracker fun x hx => (hl₁ x hx).1]
      exact foldl_itemTaken_inRange _ _ _ (ht _)
    rw [(setStep_open (by omega) htr hov).1] at hclosed
    cases hclosed
  · exact ⟨c, w, hmem, hw, delivered_granted hl₁ hl₂ ha he ht hreq hu hx (by omega) hw⟩

end Sys2Proof.Machine

namespace Sys2Proof.Machine
open Sys2Proof.Claims

/-! ### A delivery of a start notice and sets: the capture unit and the trackers -/

/-- The happenings `l` deliver a start notice, where there is one, and sets of source `src` to its consumers, as
R18 and R48 order them. -/
structure DeliversSets (src : Fin 8) (started : Bool) (sets : List SampleSet) (s : State)
    (l : List (Consumer × Item)) : Prop where
  taken : ∀ x ∈ l, x.1.tracker? = none ∧ x.2.isTaken = true
  measurers : ∀ i r, ((l.filterMap (measurerPart i)).filter fun x => decide (x.1 = r)).map Prod.snd
    = if (s.referenceSlot i r src).isSome then takenItems started sets else []
  first : ∀ i n ss pre rest, sets[n]? = some ss →
    (s.bothQualify i src (takenItems started sets))[n + if started then 1 else 0]? = some true →
    l.filterMap (measurerPart i) = pre ++ (.secondary, .set ss) :: rest → (.primary, .set ss) ∈ pre
  channels : ∀ c : Fin 16, (l.filter fun x => decide (x.1 = .channel c)).map Prod.snd
    = if s.active c = true ∧ s.tables.channels[c].source = src then takenItems started sets else []
  capture : l.filterMap capturePart
    = if (s.capture.state = .armed ∨ s.capture.state = .post) ∧ s.capture.source = src
      then takenItems started sets else []

theorem mem_setConsumers_channel {s : State} {src : Fin 8} {c : Fin 16} :
    Consumer.channel c ∈ s.setConsumers src ↔ s.active c = true ∧ s.tables.channels[c].source = src := by
  unfold State.setConsumers
  simp

theorem mem_setConsumers_capture {s : State} {src : Fin 8} : Consumer.capture ∈ s.setConsumers src
    ↔ (s.capture.state = .armed ∨ s.capture.state = .post) ∧ s.capture.source = src := by
  unfold State.setConsumers
  rw [← consumes_iff]
  simp

theorem seriesOf_items (items : List Item) (who : Consumer) : (seriesOf items who).map Prod.snd = items := by
  unfold seriesOf
  rw [List.map_map]
  exact List.map_id _

/-- R18: what a channel or the capture unit has of a delivery. -/
theorem happenings_items {s : State} {src : Fin 8} {items : List Item} {who : Consumer}
    (h : ∀ r t, who ≠ .measurer t r) :
    ((happenings s src items).filter fun x => decide (x.1 = who)).map Prod.snd
      = if who ∈ s.setConsumers src then items else [] := by
  rw [happenings_filter s src items h]
  split
  · exact seriesOf_items items who
  · rfl

theorem filterMap_capturePart (l : List (Consumer × Item)) :
    l.filterMap capturePart = (l.filter fun x => decide (x.1 = .capture)).map Prod.snd := by
  rw [← List.filterMap_eq_map, List.filterMap_filter]
  refine List.filterMap_congr fun x _ => ?_
  obtain ⟨who, it⟩ := x
  cases who <;> simp [capturePart]

theorem happenings_delivers {src : Fin 8} {started : Bool} {sets : List SampleSet} (hn : sets.Nodup) (s : State) :
    DeliversSets src started sets s (happenings s src (takenItems started sets)) where
  taken x hx := by
    obtain ⟨h1, h2⟩ := mem_happenings s src _ hx
    exact ⟨h1, isTaken_takenItems h2⟩
  measurers i r := measurersOrder_filter s src _ i r
  first i n ss pre rest hk hb ho :=
    measurersOrder_primary_first (takenItems_nodup hn) (by rw [takenItems_getElem?, hk]; rfl) hb ho
  channels c := by
    rw [happenings_items (by simp)]
    exact if_congr mem_setConsumers_channel rfl rfl
  capture := by
    rw [filterMap_capturePart, happenings_items (by simp)]
    exact if_congr mem_setConsumers_capture rfl rfl

/-! #### The capture unit -/

theorem foldl_item_takenItems (started : Bool) (sets : List SampleSet) (u : CaptureUnit) :
    (takenItems started sets).foldl CaptureUnit.item u = sets.foldl CaptureUnit.takeSet u := by
  have hs : (sets.map Item.set).foldl CaptureUnit.item u = sets.foldl CaptureUnit.takeSet u := by
    rw [List.foldl_map]
    rfl
  cases started <;> exact hs

/-! #### The trackers -/

/-- The set of an item, if it is one. -/
def Item.set? : Item → Option SampleSet
  | .set ss => some ss
  | _ => none

theorem takenItems_sets (started : Bool) (sets : List SampleSet) :
    (takenItems started sets).filterMap Item.set? = sets := by
  have hs : (sets.map Item.set).filterMap Item.set? = sets := by
    rw [List.filterMap_map]
    exact (List.filterMap_congr fun _ _ => rfl).trans List.filterMap_some
  cases started <;> exact hs

/-- The sets that the measurers of a tracker take, in the order of a delivery. -/
def setsOrder (i : Fin 2) (l : List (Consumer × Item)) : List (Role × SampleSet) :=
  (l.filterMap (measurerPart i)).filterMap setPart

theorem filterMap_setPart_filter (p : List (Role × Item)) (r : Role) :
    ((p.filterMap setPart).filter fun x => decide (x.1 = r)).map Prod.snd
      = ((p.filter fun x => decide (x.1 = r)).map Prod.snd).filterMap Item.set? := by
  induction p with
  | nil => rfl
  | cons x p ih =>
    obtain ⟨r', it⟩ := x
    by_cases h : r' = r
    · rw [List.filter_cons_of_pos (by simpa using h), List.map_cons]
      cases it with
      | set ss =>
        have hc : ((r', Item.set ss) :: p).filterMap setPart = (r', ss) :: p.filterMap setPart := rfl
        rw [hc, List.filter_cons_of_pos (by simpa using h), List.map_cons, ih]
        rfl
      | _ => exact ih
    · rw [List.filter_cons_of_neg (by simpa using h)]
      cases it with
      | set ss =>
        have hc : ((r', Item.set ss) :: p).filterMap setPart = (r', ss) :: p.filterMap setPart := rfl
        rw [hc, List.filter_cons_of_neg (by simpa using h), ih]
      | _ => exact ih

theorem setPart_eq_some {x : Role × Item} {r : Role} {ss : SampleSet} :
    setPart x = some (r, ss) ↔ x = (r, .set ss) := by
  obtain ⟨r', it⟩ := x
  cases it <;> simp [setPart]

/-- Whether a measurer of a tracker has a start notice of a delivery. -/
def startNoticed (src : Fin 8) (started : Bool) (s : State) (i : Fin 2) (r : Role) : Bool :=
  decide (started = true ∧ (s.referenceSlot i r src).isSome = true)

/-- A tracker after a delivery whose start notices have come before it and whose sets have come so far. -/
def trackerAfter (src : Fin 8) (started : Bool) (s : State) (i : Fin 2) (pre : List (Role × SampleSet)) : Tracker :=
  pre.foldl (trackerTakes s.tables.trackers[i] fun r => s.referenceSlot i r src)
    (seeking (startNoticed src started s i) s.trackers[i])

section
variable {src : Fin 8} {started : Bool} {sets : List SampleSet} {s : State} {l : List (Consumer × Item)}
  (hd : DeliversSets src started sets s l)
include hd

/-- A tracker along a delivery, but for the start notices still to come. -/
theorem DeliversSets.tracker_prefix {pre : List (Consumer × Item)} (hp : pre <+: l) (i : Fin 2) :
    ∃ b, (∀ r, b r = true → startNoticed src started s i r = true
        ∧ ∀ x ∈ pre.filterMap (measurerPart i), x.1 ≠ r)
      ∧ seeking b (delivered src pre s).trackers[i] = trackerAfter src started s i (setsOrder i pre) := by
  rw [delivered_tracker fun x hx => (hd.taken x (hp.subset hx)).1]
  refine foldl_itemTaken _ _ _ (fun r h => (of_decide_eq_true h).2) fun r => ⟨sets, ?_⟩
  have hpre : ((pre.filterMap (measurerPart i)).filter fun x => decide (x.1 = r)).map Prod.snd
      <+: ((l.filterMap (measurerPart i)).filter fun x => decide (x.1 = r)).map Prod.snd :=
    ((hp.filterMap _).filter _).map _
  rw [hd.measurers] at hpre
  by_cases hs : (s.referenceSlot i r src).isSome = true
  · rw [if_pos hs] at hpre
    have hb : startNoticed src started s i r = started := by
      unfold startNoticed
      simp [hs]
    rw [hb]
    exact hpre
  · rw [if_neg hs] at hpre
    rw [List.prefix_nil.mp hpre]
    exact List.nil_prefix

theorem DeliversSets.steer {pre : List (Consumer × Item)} (hp : pre <+: l) (i : Fin 2) :
    SameSteer (delivered src pre s).trackers[i] (trackerAfter src started s i (setsOrder i pre)) := by
  obtain ⟨b, _, e⟩ := hd.tracker_prefix hp i
  rw [← e]
  exact seeking_steer b _

/-- R18, R39, R45, R46, R48: what a delivery makes of a tracker. -/
theorem DeliversSets.tracker (i : Fin 2) :
    (delivered src l s).trackers[i] = trackerAfter src started s i (setsOrder i l) := by
  obtain ⟨b, hb, e⟩ := hd.tracker_prefix (List.prefix_refl l) i
  rw [← e, seeking_none fun r => Bool.eq_false_iff.mpr fun hr => ?_]
  obtain ⟨hnot, hno⟩ := hb r hr
  obtain ⟨hst, hs⟩ := of_decide_eq_true hnot
  have hm := hd.measurers i r
  rw [if_pos hs, List.filter_eq_nil_iff.mpr fun x hx => by simpa using hno x hx, hst] at hm
  cases hm

theorem DeliversSets.order_filter (i : Fin 2) (r : Role) :
    ((setsOrder i l).filter fun x => decide (x.1 = r)).map Prod.snd
      = if (s.referenceSlot i r src).isSome then sets else [] := by
  unfold setsOrder
  rw [filterMap_setPart_filter, hd.measurers]
  split
  · exact takenItems_sets started sets
  · rfl

theorem DeliversSets.order_first {i : Fin 2} {n : Nat} {ss : SampleSet} {pre rest : List (Role × SampleSet)}
    (hn : sets[n]? = some ss)
    (hq : (s.bothQualify i src (takenItems started sets))[n + if started then 1 else 0]? = some true)
    (ho : setsOrder i l = pre ++ (.secondary, ss) :: rest) : (.primary, ss) ∈ pre := by
  obtain ⟨l₁, l₂, hl, rfl, h₂⟩ := List.filterMap_eq_append_iff.mp ho
  obtain ⟨l₃, x, l₄, rfl, h₃, hx, _⟩ := List.filterMap_eq_cons_iff.mp h₂
  rw [setPart_eq_some.mp hx, ← List.append_assoc] at hl
  have hm := hd.first i n ss _ _ hn hq hl
  rw [List.mem_append] at hm
  obtain hm | hm := hm
  · exact List.mem_filterMap.mpr ⟨_, hm, setPart_eq_some.mpr rfl⟩
  · exact absurd (h₃ _ hm) (by simp [setPart])

end

end Sys2Proof.Machine

namespace Sys2Proof.Machine
open Sys2Proof.Claims

/-! ### A delivery of sets: the channels (R18, R55, R57, R60, R63, R64) -/

theorem filterMap_heardSet (h : List (Tracker × Item)) :
    (h.filterMap heardSet).map Prod.snd = (h.map Prod.snd).filterMap Item.set? := by
  induction h with
  | nil => rfl
  | cons y h ih =>
    obtain ⟨tr, it⟩ := y
    cases it with
    | set ss => exact congrArg (ss :: ·) ih
    | _ => exact ih

theorem exists_forall₂ {α β : Type} {R : α → β → Prop} {l : List α} (h : ∀ x ∈ l, ∃ y, R x y) :
    ∃ l', List.Forall₂ R l l' := by
  induction l with
  | nil => exact ⟨[], .nil⟩
  | cons x l ih =>
    obtain ⟨y, hy⟩ := h x List.mem_cons_self
    obtain ⟨l', hl'⟩ := ih fun x hx => h x (List.mem_cons_of_mem _ hx)
    exact ⟨y :: l', .cons hy hl'⟩

theorem mem_forall₂_right {α β : Type} {R : α → β → Prop} {l : List α} {l' : List β} (h : List.Forall₂ R l l')
    {y : β} (hy : y ∈ l') : ∃ x, R x y := by
  induction h with
  | nil => cases hy
  | cons hxy _ ih =>
    obtain rfl | hy := List.mem_cons.mp hy
    · exact ⟨_, hxy⟩
    · exact ih hy

theorem groupOf_of_tables {s t : State} (h : t.tables = s.tables) (c : Fin 16) : t.groupOf c = s.groupOf c :=
  congrArg (fun T : Tables => T.groups[T.channels[c].group]) h

theorem forall₂_zip {R : Tracker × SampleSet → Tracker → Prop}
    {l : List (Tracker × SampleSet)} {ts : List Tracker} (h : List.Forall₂ R l ts)
    (hR : ∀ x y, R x y → SameSteer x.1 y) :
    List.Forall₂ (fun x y => SameSteer x.1 y.1 ∧ x.2 = y.2) l (ts.zip (l.map Prod.snd)) := by
  induction h with
  | nil => exact .nil
  | cons hxy _ ih => exact .cons ⟨hR _ _ hxy, rfl⟩ ih

section
variable {src : Fin 8} {started : Bool} {sets : List SampleSet} {s : State} {l : List (Consumer × Item)}
  (hd : DeliversSets src started sets s l)
include hd

theorem DeliversSets.heard (c : Fin 16) : (setsHeard src c l s).map Prod.snd
    = if s.active c = true ∧ s.tables.channels[c].source = src then sets else [] := by
  unfold setsHeard
  rw [filterMap_heardSet, heard_items, hd.channels]
  split
  · exact takenItems_sets started sets
  · rfl

theorem DeliversSets.heard_reads {c : Fin 16} (hc : ReadsSource src s c) :
    (setsHeard src c l s).map Prod.snd = sets := (hd.heard c).trans (if_pos hc)

theorem DeliversSets.heard_nil {c : Fin 16} (hc : ¬ ReadsSource src s c) : setsHeard src c l s = [] :=
  List.map_eq_nil_iff.mp ((hd.heard c).trans (if_neg hc))

theorem DeliversSets.setCount_le (c : Fin 16) : setCount c l ≤ sets.length := by
  rw [← setsHeard_length (src := src) (s := s), ← List.length_map (f := Prod.snd), hd.heard]
  split
  · exact le_refl _
  · exact Nat.zero_le _

theorem DeliversSets.setCount_reads {c : Fin 16} (hc : ReadsSource src s c) : setCount c l = sets.length := by
  rw [← setsHeard_length (src := src) (s := s), ← List.length_map (f := Prod.snd), hd.heard_reads hc]

theorem DeliversSets.reads_of_mem {c : Fin 16} (h : ∃ x ∈ l, x.1 = .channel c) : ReadsSource src s c := by
  obtain ⟨x, hx, hc⟩ := h
  by_contra hn
  have hch := (hd.channels c).trans (if_neg hn)
  rw [List.map_eq_nil_iff, List.filter_eq_nil_iff] at hch
  exact hch x hx (decide_eq_true hc)

/-- R18: each channel takes a set under its tracker as some point of the delivery has left it. -/
theorem DeliversSets.trackers (c : Fin 16) : ∃ ts : List Tracker, ts.length = sets.length
    ∧ (∀ x ∈ ts, ∃ pre, pre <+: setsOrder (s.groupOf c).tracker l
        ∧ x = trackerAfter src started s (s.groupOf c).tracker pre)
    ∧ (ReadsSource src s c → ∀ slot u n, unitTakes slot u ((ts.zip sets).drop n)
        = unitTakes slot u ((setsHeard src c l s).drop n)) := by
  by_cases hc : ReadsSource src s c
  · obtain ⟨ts, hts⟩ := exists_forall₂ (l := setsHeard src c l s) (R := fun x y => SameSteer x.1 y
        ∧ ∃ pre, pre <+: setsOrder (s.groupOf c).tracker l
          ∧ y = trackerAfter src started s (s.groupOf c).tracker pre) fun x hx => by
      obtain ⟨y, hy, hs⟩ := List.mem_filterMap.mp hx
      have hxy : x.1 = y.1 := by
        unfold heardSet at hs
        split at hs
        · exact (congrArg Prod.fst (Option.some.inj hs)).symm
        · cases hs
      obtain ⟨pre, hp, e⟩ := mem_heard hy
      refine ⟨_, ?_, _, (hp.filterMap _).filterMap _, rfl⟩
      have hg := groupOf_of_tables (delivered_apart src pre s).tables c
      rw [hxy, e, show (delivered src pre s).trackerOf c = (delivered src pre s).trackers[(s.groupOf c).tracker] from
        congrArg (fun g : GroupEntry => (delivered src pre s).trackers[g.tracker]) hg]
      exact hd.steer hp _
    have hlen := hts.length_eq
    rw [← List.length_map (f := Prod.snd), hd.heard_reads hc] at hlen
    refine ⟨ts, hlen.symm, fun x hx => ?_, fun _ slot u n => ?_⟩
    · obtain ⟨_, _, h⟩ := mem_forall₂_right hts hx
      exact h
    · have hz := forall₂_zip hts fun _ _ h => h.1
      rw [hd.heard_reads hc] at hz
      exact (unitTakes_congr (List.forall₂_drop n hz) u).symm
  · refine ⟨List.replicate sets.length (trackerAfter src started s (s.groupOf c).tracker []),
      List.length_replicate .., fun x hx => ?_, fun h => absurd h hc⟩
    exact ⟨[], List.nil_prefix, (List.mem_replicate.mp hx).2⟩

end

end Sys2Proof.Machine

namespace Sys2Proof.Machine
open Sys2Proof.Claims

/-! ### What a delivery of sets comes to (R18) -/

/-- A tracker whose measurers have had the start notice of a delivery. -/
def noticed (src : Fin 8) (started : Bool) (s : State) (i : Fin 2) : Tracker :=
  withMeasurers (fun r =>
    if started = true ∧ (s.referenceSlot i r src).isSome = true then sought (s.trackers[i].measurer r)
    else s.trackers[i].measurer r) s.trackers[i]

theorem seeking_startNoticed (src : Fin 8) (started : Bool) (s : State) (i : Fin 2) :
    seeking (startNoticed src started s i) s.trackers[i] = noticed src started s i := by
  unfold seeking startNoticed noticed
  simp only [decide_eq_true_eq]

theorem noticed_measurer {src : Fin 8} {started : Bool} {s : State} {i : Fin 2} {r : Role}
    (h : (s.referenceSlot i r src).isSome = true) : (noticed src started s i).measurer r
      = if started then sought (s.trackers[i].measurer r) else s.trackers[i].measurer r := by
  have hm : ∀ m : Role → Measurer, (withMeasurers m s.trackers[i]).measurer r = m r := fun m => by
    cases r <;> rfl
  exact (hm _).trans (if_congr (and_iff_left h) rfl rfl)

section
variable {src : Fin 8} {started : Bool} {sets : List SampleSet} {s : State} {l : List (Consumer × Item)}
  (hd : DeliversSets src started sets s l)
include hd

theorem DeliversSets.trackersTook : TrackersTook src started sets s (delivered src l s)
    (fun i => setsOrder i l) (trackerAfter src started s) := by
  intro i
  refine ⟨fun pre => ?_, hd.order_filter i, fun n ss pre rest hn hp hs ho => ?_, hd.tracker i⟩
  · unfold trackerAfter
    rw [seeking_startNoticed]
    rfl
  · refine hd.order_first hn (bothQualify_getElem? hn fun r => ?_) ho
    obtain ⟨p, f, hslot, hv⟩ : ∃ p f, s.referenceSlot i r src = some p ∧ ((((sets.take n).foldl (fun m x =>
        (m.takes s.tables.trackers[i].floor (x.slot? p)).1) ((noticed src started s i).measurer r)).takes
          s.tables.trackers[i].floor (ss.slot? p)).2 = .valid f true) := by
      cases r
      · exact hp
      · exact hs
    rw [noticed_measurer (by rw [hslot]; rfl)] at hv
    exact ⟨p, f, hslot, hv⟩

theorem DeliversSets.captureTook : (delivered src l s).capture
    = if (s.capture.state = .armed ∨ s.capture.state = .post) ∧ s.capture.source = src
      then sets.foldl CaptureUnit.takeSet s.capture else s.capture := by
  rw [delivered_capture (fun x hx => (hd.taken x hx).1), hd.capture]
  split
  · exact foldl_item_takenItems started sets _
  · rfl

theorem DeliversSets.closes_iff {c : Fin 16} (hc : ReadsSource src s c) {w : Window} :
    ClosesWithin sets s c w ↔ Closes src l s c w := by
  unfold ClosesWithin Closes UnitFills
  rw [hd.setCount_reads hc]
  refine and_congr_right fun _ => and_congr_right fun _ => and_congr_right fun _ => ?_
  conv_lhs => rw [← hd.heard_reads hc]
  simp only [List.mem_map, forall_exists_index, and_imp, forall_apply_eq_imp_iff₂]

/-- R64: a window missed with no tracker in the way fills an empty fault record. -/
theorem DeliversSets.missed_record (ha : s.opState = .analysing) (hq : s.engine ≠ .idle ∨ Unclosed src l s)
    {c : Fin 16} {seq : Nat}
    (hm : (unitTakes s.tables.channels[c].slot s.channels[c] (setsHeard src c l s)).2 = [seq])
    (ho : ∀ i, setsOrder i l = [])
    (hx : ∀ x, x ≠ c → (unitTakes s.tables.channels[x].slot s.channels[x] (setsHeard src x l s)).2 = [])
    (hr : s.fault.record = none) : (delivered src l s).fault.record
      = some { kind := .windowMissed, subject := c.val, detail := .number seq, time := s.localTime } := by
  have hsets : sets ≠ [] := by
    rintro rfl
    have hh : setsHeard src c l s = [] :=
      List.map_eq_nil_iff.mp ((hd.heard c).trans (ite_self _))
    rw [hh] at hm
    cases hm
  have hmeas : ∀ x ∈ l, ∀ i r, x.1 ≠ .measurer i r := by
    intro x hx i r he
    have hmem : (r, x.2) ∈ l.filterMap (measurerPart i) :=
      List.mem_filterMap.mpr ⟨x, hx, measurerPart_eq_some.mpr (Prod.ext he rfl)⟩
    have hf := hd.measurers i r
    have hof := hd.order_filter i r
    rw [ho i] at hof
    by_cases hs : (s.referenceSlot i r src).isSome = true
    · rw [if_pos hs] at hof
      exact hsets hof.symm
    · rw [if_neg hs, List.map_eq_nil_iff, List.filter_eq_nil_iff] at hf
      exact hf _ hmem (decide_eq_true rfl)
  obtain h | ⟨c', seq', hmem, hrec⟩ := delivered_missed_record hd.taken hmeas ha hq hr
  · rw [h c] at hm
    cases hm
  · by_cases hc : c' = c
    · subst hc
      rw [hm, List.mem_singleton] at hmem
      rw [hrec, hmem]
    · rw [hx c' hc] at hmem
      cases hmem

/-- R52, R63: where the windows of the source's channels stay open for the sets, none closes. -/
theorem DeliversSets.unclosed (h : (sets.length < 2415 ∧ ∀ i : Fin 2, InRange s.trackers[i])
    ∧ ∀ c, ReadsSource src s c → StaysOpen sets.length s c) : Unclosed src l s := by
  obtain ⟨⟨hn, ht⟩, ho⟩ := h
  refine unclosed_of_open (fun x hx => (hd.taken x hx).1) ht (fun c => (hd.setCount_le c).trans_lt hn)
    fun c hpos => ?_
  have hc : ReadsSource src s c := by
    by_contra hn
    rw [← setsHeard_length (src := src) (s := s), hd.heard_nil hn] at hpos
    cases hpos
  rw [hd.setCount_reads hc]
  exact .inl (ho c hc)

/-- R11, R12, R13, R18, R21: a delivery of sets has reached every consumer, whatever waited for line B (`b`). -/
theorem DeliversSets.setsTaken (b : LineOut) :
    SetsTaken src started sets { s with lineB := b } (delivered src l s) := by
  have hrest : (delivered src l s).command = s.command ∧ (delivered src l s).checks = s.checks
      ∧ (delivered src l s).lineA = s.lineA := by
    obtain ⟨_, _, _, _, _, _, _, _, _, _, _, e⟩ := delivered_delivers src l s
    rw [e]
    exact ⟨rfl, rfl, rfl⟩
  have hap := delivered_apart src l s
  refine ⟨fun i => setsOrder i l, trackerAfter src started s, hd.trackersTook, hd.captureTook, fun ha => ?_,
    fun ha => ?_, hap.tables, hap.opState, hrest.1, hap.store, hap.protection, hap.lostSources, hrest.2.1, hrest.2.2,
    hap.localTime⟩
  · obtain ⟨⟨h1, h2, h3⟩, hu⟩ := delivered_unanalysed (s := s) hd.taken ha
    exact ⟨(eq_ofFn fun c => congrArg Prod.fst (hu c)).trans (eq_ofFn fun _ => rfl).symm,
      (eq_ofFn fun c => congrArg Prod.snd (hu c)).trans (eq_ofFn fun _ => rfl).symm, h1, h2, h3⟩
  · choose trackers hlen hpre hzip using hd.trackers
    refine ⟨trackers, ?_⟩
    intro taken plain inRange
    have htaken : ∀ c, ReadsSource src s c → ∀ u n,
        taken c u n = unitTakes s.tables.channels[c].slot u ((setsHeard src c l s).drop n) :=
      fun c hc u n => hzip c hc _ u n
    have hplain : ∀ c, unitOf c (delivered src l s) = unitPlain src c l s → plain c := by
      intro c hc
      have h1 : (delivered src l s).channels[c] = _ := congrArg Prod.fst hc
      have h2 : (delivered src l s).counters.channels[c] = _ := congrArg Prod.snd hc
      by_cases hr : s.active c = true ∧ s.tables.channels[c].source = src
      · refine (if_pos hr).mpr ?_
        dsimp only
        rw [htaken c hr]
        exact ⟨h1, h2⟩
      · refine (if_neg hr).mpr ?_
        unfold unitPlain at h1 h2
        rw [hd.heard_nil hr] at h1 h2
        exact ⟨h1, h2⟩
    refine ⟨fun c => ⟨hlen c, hpre c⟩, fun hq => ?_, fun he hin hreq hch hex => ?_⟩
    · have hq' : s.engine ≠ .idle ∨ Unclosed src l s := hq.imp id hd.unclosed
      obtain ⟨⟨h1, h2, h3⟩, hu⟩ := delivered_plain (s := s) hd.taken ha hq'
      refine ⟨fun c => hplain c (hu c), h1, h2, h3, fun c hc seq hseq => ?_⟩
      have hall : ∀ x, ReadsSource src s x → taken x s.channels[x] 0
          = unitTakes s.tables.channels[x].slot s.channels[x] (setsHeard src x l s) := fun x hx => htaken x hx _ 0
      rw [hall c hc] at hseq
      refine ⟨delivered_missed (s := s) hd.taken ha hq' (c := c) (by rw [hseq]; simp), fun ho hx hr _ =>
        hd.missed_record ha hq' hseq ho (fun x hxc => ?_) hr⟩
      by_cases hrx : ReadsSource src s x
      · rw [← hall x hrx]
        exact hx x hxc hrx
      · rw [hd.heard_nil hrx]
        rfl
    · have hsc : ∀ c, ReadsSource src s c → setCount c l = sets.length := fun c hc => hd.setCount_reads hc
      obtain ⟨c, w, hmem, hw, hg⟩ := delivered_first_close (s := s) hd.taken ha he hin.2 hreq
        (fun c => (hd.setCount_le c).trans_lt hin.1)
        (fun c hmem => by
          have hc := hd.reads_of_mem hmem
          rw [hsc c hc]
          exact (hch c hc).imp id fun ⟨w, hw⟩ => ⟨w, (hd.closes_iff hc).mp hw⟩)
        (by
          obtain ⟨c, w, hc, hw⟩ := hex
          exact ⟨c, w, (hd.closes_iff hc).mp hw⟩)
      have hc := hd.reads_of_mem hmem
      have hheard : ∀ n, ((setsHeard src c l s).take n).map Prod.snd = sets.take n := fun n => by
        rw [List.map_take, hd.heard_reads hc]
      refine ⟨c, w, hc, (hd.closes_iff hc).mpr hw, ?_⟩
      intro n full
      have hfull : full = windowTakes s.tables.channels[c].slot
          (((setsHeard src c l s).take (w.len - w.count)).map Prod.snd) w := by
        rw [hheard]
        rfl
      refine ⟨by rw [hfull]; exact hg.engine, hg.memOwner, hg.rotation, ?_, hg.counters,
        fun x hx => hplain x (hg.others x hx)⟩
      rw [htaken c hc]
      exact hg.unit

end

end Sys2Proof.Machine

namespace Sys2Proof.Machine
open Sys2Proof.Claims

/-! ### A sample frame on its way to the other line (R1, R3, R128) -/

/-- What reports and replies leave of line B's output side, where nothing waits for an IDLE line B, and of what is
counted and flagged of frames dropped. -/
structure Speaks (a : Prop) (s t : State) : Prop where
  settled : LineSettled .b t
  dropsAB : t.counters.forwardDropsAB = s.counters.forwardDropsAB
  dropsBA : t.counters.forwardDropsBA = s.counters.forwardDropsBA
  flag : t.fault.summary[FaultKind.forwardDropped.index] = s.fault.summary[FaultKind.forwardDropped.index]
  forward : t.lineB.forward = s.lineB.forward
  busy : s.lineB.sending.isSome = true →
    t.lineB.sending = s.lineB.sending ∧ t.lineB.passedOver = s.lineB.passedOver
  idle : s.lineB.sending = none → (t.lineB.sending = none ∧ t.lineB.passedOver = s.lineB.passedOver)
    ∨ (t.lineB.passedOver = 0 ∧ ∃ x, t.lineB.sending = some x ∧ ((∃ v, x = sentRecord v) ∨ a))
  held : ∀ r, s.fault.record = some r → t.fault.record = some r
  filled : s.fault.record = none → ∀ r, t.fault.record = some r → r.kind ≠ .forwardDropped
  localTime : t.localTime = s.localTime

variable {a : Prop}

theorem Speaks.trans {s t u : State} (h : Speaks a s t) (k : Speaks a t u) : Speaks a s u where
  settled := k.settled
  dropsAB := k.dropsAB.trans h.dropsAB
  dropsBA := k.dropsBA.trans h.dropsBA
  flag := k.flag.trans h.flag
  forward := k.forward.trans h.forward
  busy hs := by
    obtain ⟨h1, h2⟩ := h.busy hs
    obtain ⟨k1, k2⟩ := k.busy (h1 ▸ hs)
    exact ⟨k1.trans h1, k2.trans h2⟩
  idle hs := by
    obtain ⟨h1, h2⟩ | ⟨h1, x, hx, h2⟩ := h.idle hs
    · obtain ⟨k1, k2⟩ | k := k.idle h1
      · exact .inl ⟨k1, k2.trans h2⟩
      · exact .inr k
    · obtain ⟨k1, k2⟩ := k.busy (by rw [hx]; rfl)
      exact .inr ⟨k2.trans h1, x, k1.trans hx, h2⟩
  held r := k.held r ∘ h.held r
  filled hs r hr := by
    cases ht : t.fault.record with
    | none => exact k.filled ht r hr
    | some r' =>
      obtain rfl := Option.some.inj ((k.held r' ht).symm.trans hr)
      exact h.filled hs r' ht
  localTime := k.localTime.trans h.localTime

/-- What touches neither line B's output side, nor its records, nor the fault unit, nor what is counted of frames
dropped. -/
theorem Speaks.of_same {s t : State} (hs : LineSettled .b s) (hb : t.lineB = s.lineB)
    (hq : t.records = s.records) (hf : t.fault = s.fault) (hl : t.localTime = s.localTime)
    (h1 : t.counters.forwardDropsAB = s.counters.forwardDropsAB)
    (h2 : t.counters.forwardDropsBA = s.counters.forwardDropsBA) : Speaks a s t where
  settled := hs.congr hb hq
  dropsAB := h1
  dropsBA := h2
  flag := by rw [hf]
  forward := by rw [hb]
  busy _ := by rw [hb]; exact ⟨rfl, rfl⟩
  idle h := by rw [hb]; exact .inl ⟨h, rfl⟩
  held r h := by rw [hf, h]
  filled h r hr := by rw [hf, h] at hr; cases hr
  localTime := hl

theorem Speaks.refl {s : State} (hs : LineSettled .b s) : Speaks a s s :=
  .of_same hs rfl rfl rfl rfl rfl rfl

/-- A report or reply that has line B's output side become `o`, the records `q`, and the command unit `cu`. -/
theorem Speaks.of_lineB {s t : State} {o : LineOut} {q : List OutRecord} {cu : CommandUnit}
    (hs : LineSettled .b t) (ht : t = { s with lineB := o, records := q, command := cu })
    (hf : o.forward = s.lineB.forward)
    (hb : s.lineB.sending.isSome = true → o.sending = s.lineB.sending ∧ o.passedOver = s.lineB.passedOver)
    (hi : s.lineB.sending = none → o.passedOver = 0 ∧ ∃ x, o.sending = some x ∧ ((∃ v, x = sentRecord v) ∨ a)) :
    Speaks a s t := by
  subst ht
  exact ⟨hs, rfl, rfl, rfl, hf, hb, fun h => .inr (hi h), fun _ => id,
    fun h r hr => by (rw [h] at hr; cases hr), rfl⟩

theorem kick_busy {l : Line} {s : State} (h : (s.out l).sending.isSome = true) : kick l s = s := by
  obtain ⟨_, e⟩ | ⟨hn, _⟩ := kick_cases l s
  · exact e
  · rw [hn] at h
    cases h

theorem speaks_offered {s : State} (hs : LineSettled .b s) (r : OutRecord) :
    Speaks a s (kick .b { s with records := (enqueue s.records r).2 }) := by
  cases hb : s.lineB.sending with
  | some x =>
    have hbusy : (({ s with records := (enqueue s.records r).2 } : State).out .b).sending.isSome = true := by
      change s.lineB.sending.isSome = true
      rw [hb]
      rfl
    rw [kick_busy hbusy]
    exact .of_lineB (lineSettled_of_sending (r := x) hb) rfl rfl (fun _ => ⟨rfl, rfl⟩)
      fun h => by rw [hb] at h; cases h
  | none =>
    have hq : s.records = [] := (hs hb).2.2
    have hset := kick_settled .b { s with records := (enqueue s.records r).2 }
    rw [enqueue_room (by rw [hq]; simp), offer_room hs] at hset ⊢
    unfold joined at hset ⊢
    rw [if_neg (by rw [hb]; simp)] at hset ⊢
    refine .of_lineB (o := { s.lineB with sending := some (sentRecord r), passedOver := 0 })
      (q := s.records ++ []) (cu := s.command) hset rfl rfl (fun h => ?_) fun _ => ⟨rfl, _, rfl, .inl ⟨r, rfl⟩⟩
    rw [hb] at h
    cases h

/-- The choice of line A leaves line B and the records alone. -/
theorem kick_a_frame (s : State) : ∃ o, kick .a s = { s with lineA := o } := by
  obtain ⟨_, e⟩ | ⟨_, e⟩ := kick_cases .a s
  · exact ⟨s.lineA, e⟩
  · have hr := (choose_other (l := .a) (m := .b) (by simp) s).2
    obtain ⟨o, r, he⟩ := kick_frame .a s
    rw [e] at he
    rw [he] at hr
    obtain rfl : r = s.records := hr
    exact ⟨o, e.trans he⟩

/-- R127, R128: on an IDLE line B for which nothing waits a reply is sent at once. -/
theorem kick_b_reply {s : State} (hs : LineSettled .b s) (hb : s.lineB.sending = none) (r : Reply)
    (cu : CommandUnit) :
    kick .b { s with lineB := { s.lineB with replies := s.lineB.replies ++ [r] }, command := cu }
      = { s with lineB := { s.lineB with sending := some r, passedOver := 0 }, command := cu } := by
  obtain ⟨hf, hr, hq⟩ := hs hb
  change s.lineB.forward = [] at hf
  change s.lineB.replies = [] at hr
  change s.records = [] at hq
  unfold kick
  simp [State.out, hb, choose, State.insertedWaits, State.recordsFor, sendInserted, hf, hr, hq, setOut]

theorem speaks_answered (ha : a) {s : State} (hs : LineSettled .b s) (c : CommandFrame) (st : Status)
    (res : List Byte) : Speaks a s (reply c st res s) := by
  unfold reply replyWith
  dsimp only
  generalize ({ frame := s.replyFrame c st res, restart := false } : Reply) = r
  generalize ({ s.command with queue := s.command.queue.tail, requested := false } : CommandUnit) = cu
  cases c.line with
  | a =>
    obtain ⟨o, e⟩ := kick_a_frame (setOut .a { s.out .a with replies := (s.out .a).replies ++ [r] }
      { s with command := cu })
    rw [e]
    exact .of_same hs rfl rfl rfl rfl rfl rfl
  | b =>
    change Speaks a s (kick .b { s with
      lineB := { s.lineB with replies := s.lineB.replies ++ [r] }, command := cu })
    cases hb : s.lineB.sending with
    | some x =>
      rw [kick_busy (by change s.lineB.sending.isSome = true; rw [hb]; rfl)]
      refine .of_lineB (o := { s.lineB with replies := s.lineB.replies ++ [r] }) (q := s.records) (cu := cu)
        (lineSettled_of_sending (r := x) hb) rfl rfl (fun _ => ⟨rfl, rfl⟩) fun h => ?_
      rw [hb] at h
      cases h
    | none =>
      have hset := kick_settled .b { s with
        lineB := { s.lineB with replies := s.lineB.replies ++ [r] }, command := cu }
      rw [kick_b_reply hs hb] at hset ⊢
      refine .of_lineB (o := { s.lineB with sending := some r, passedOver := 0 }) (q := s.records) (cu := cu)
        hset rfl rfl (fun h => ?_) fun _ => ⟨rfl, r, rfl, .inr ha⟩
      rw [hb] at h
      cases h

theorem eq_forwardDropped {k : FaultKind} (h : FaultKind.forwardDropped.index = k.index) : k = .forwardDropped := by
  revert h
  cases k <;> decide

theorem flag_spared {k : FaultKind} (hk : k ≠ .forwardDropped) (v : Vector Bool 12) :
    (putAt v k.index true)[FaultKind.forwardDropped.index] = v[FaultKind.forwardDropped.index] :=
  (putAt_get _ _ _ _).trans (if_neg fun e => hk (eq_forwardDropped e))

theorem Talks.speaks {s t : State} (h : Talks Beside a s t) (hs : LineSettled .b s) : Speaks a s t := by
  induction h with
  | refl => exact .refl hs
  | quietly _ hw ih =>
    exact ih.trans (.of_same ih.settled hw.lineB hw.records hw.fault hw.localTime hw.dropsAB hw.dropsBA)
  | offered r _ ih => exact ih.trans (speaks_offered ih.settled r)
  | @dropCounted t d _ ih =>
    exact ih.trans (by cases d <;> exact .of_same ih.settled rfl rfl rfl rfl rfl rfl)
  | @noted t k hk _ ih =>
    refine ih.trans ⟨ih.settled, rfl, rfl, flag_spared hk _, rfl, fun _ => ⟨rfl, rfl⟩, fun h => .inl ⟨h, rfl⟩,
      fun _ => id, fun h r hr => ?_, rfl⟩
    rw [show (noteFault k t).fault.record = t.fault.record from rfl, h] at hr
    cases hr
  | @filled t k n d hk hn _ ih =>
    refine ih.trans ⟨ih.settled, rfl, rfl, flag_spared hk _, rfl, fun _ => ⟨rfl, rfl⟩, fun h => .inl ⟨h, rfl⟩,
      fun r h => ?_, fun _ r hr => ?_, rfl⟩
    · rw [hn] at h
      cases h
    · obtain rfl := Option.some.inj hr
      exact hk
  | answered c st res ha _ _ ih => exact ih.trans (speaks_answered ha ih.settled c st res)

/-! #### The frame offered before or after -/

theorem offerForward_room {s : State} (hs : LineSettled .b s) (hn : s.lineB.forward.length < 32) (f : Frame) :
    offerForward .b f s = { s with lineB := forwarded f s.lineB } := by
  obtain ⟨_, e⟩ | ⟨h, _⟩ := offerForward_cases .b f s
  · exact e.trans (kick_joined_forward (l := .b) hs f)
  · exact absurd h (Nat.not_le.mpr hn)

theorem offerForward_full {s : State} (hn : 32 ≤ s.lineB.forward.length) (f : Frame) :
    offerForward .b f s = reportFault .forwardDropped 255 (.number 0) (countForwardDrop .b s) := by
  obtain ⟨h, _⟩ | ⟨_, e⟩ := offerForward_cases .b f s
  · exact absurd h (Nat.not_lt.mpr hn)
  · exact e

theorem speaks_offerWhileHeld {s : State} (hs : LineSettled .b s) (r : OutRecord) :
    Speaks False s (offerWhileHeld r s) :=
  ((offerWhileHeld_talks (Q := Within) (a := False) r s).beside).speaks hs

/-- R3, R126, R180: a report of a frame dropped leaves line B's output side alone, which is busy then. -/
theorem reportFault_line (k : FaultKind) (n : Nat) (d : FaultDetail) {s : State} (hs : LineSettled .b s) :
    (reportFault k n d s).counters.forwardDropsAB = s.counters.forwardDropsAB
      ∧ (reportFault k n d s).counters.forwardDropsBA = s.counters.forwardDropsBA
      ∧ (reportFault k n d s).lineB.forward = s.lineB.forward
      ∧ (s.lineB.sending.isSome = true → (reportFault k n d s).lineB.sending = s.lineB.sending
        ∧ (reportFault k n d s).lineB.passedOver = s.lineB.passedOver) := by
  cases hr : s.fault.record with
  | some r =>
    rw [reportFault_held hr]
    exact ⟨rfl, rfl, rfl, fun _ => ⟨rfl, rfl⟩⟩
  | none =>
    rw [reportFault_empty hr]
    have h := speaks_offerWhileHeld (s := fillFault k n d s) hs
      (.alarm (s.alarm (.faultCaptured k n)))
    exact ⟨h.dropsAB, h.dropsBA, h.forward, h.busy⟩

/-- R1, R3, R128, log 5: a sample frame offered to line B before what else is said. -/
theorem sampleForwarded_before {triggers : List MetTrigger} {f : Frame} {s t : State} (hs : LineSettled .b s)
    (h : Speaks (triggers ≠ []) (offerForward .b f s) t) (hg : FaultGrows (offerForward .b f s) t) :
    SampleForwarded triggers f s t := by
  by_cases hn : s.lineB.forward.length < 32
  · rw [offerForward_room hs hn] at h
    refine ⟨h.dropsBA, fun hb => ?_, fun _ => ⟨h.dropsAB, h.flag, fun hb => ?_, fun hb => .inl ?_⟩,
      fun hf => absurd hn (Nat.not_lt.mpr hf)⟩
    · have he : forwarded f s.lineB = { s.lineB with forward := s.lineB.forward ++ [f] } := if_pos hb
      rw [he] at h
      exact h.busy hb
    · have he : forwarded f s.lineB = { s.lineB with forward := s.lineB.forward ++ [f] } := if_pos hb
      rw [he] at h
      exact h.forward
    · have he : forwarded f s.lineB = { s.lineB with sending := some { frame := f, restart := false } } :=
        if_neg (by rw [hb]; simp)
      rw [he] at h
      obtain ⟨h1, h2⟩ := h.busy rfl
      exact ⟨h.forward.trans (hs hb).1, h1, h2⟩
  · have hf := Nat.not_lt.mp hn
    have hsend : s.lineB.sending.isSome = true := by
      cases hb : s.lineB.sending with
      | some _ => rfl
      | none =>
        have h0 : s.lineB.forward = [] := (hs hb).1
        rw [h0] at hf
        simp at hf
    have hrec := reportFault_record .forwardDropped 255 (.number 0) (countForwardDrop .b s)
    have hrep := reportFault_reported .forwardDropped 255 (.number 0) (countForwardDrop .b s)
    obtain ⟨h1, h2, h3, h4⟩ := reportFault_line .forwardDropped 255 (.number 0) (s := countForwardDrop .b s) hs
    obtain ⟨h5, h6⟩ := h4 hsend
    rw [← offerForward_full hf f] at hrec hrep h1 h2 h3 h5 h6
    obtain ⟨hb1, hb2⟩ := h.busy (by rw [h5]; exact hsend)
    refine ⟨h.dropsBA.trans h2, fun _ => ⟨hb1.trans h5, hb2.trans h6⟩, fun hn' => absurd hn' hn, fun _ =>
      ⟨h.forward.trans h3, h.dropsAB.trans h1, Reported.grows (s := s) hrep hg, fun hno r hr _ => ?_⟩⟩
    have := (h.held _ hrec).symm.trans hr
    rw [show (countForwardDrop .b s).fault.record = none from hno] at this
    exact (Option.some.inj this).symm

/-- The same after it. -/
theorem sampleForwarded_after {triggers : List MetTrigger} {f : Frame} {s u : State} (hs : LineSettled .b s)
    (h : Speaks (triggers ≠ []) s u) (hg : FaultGrows s u) :
    SampleForwarded triggers f s (offerForward .b f u) := by
  by_cases hn : s.lineB.forward.length < 32
  · rw [offerForward_room h.settled (by rw [h.forward]; exact hn)]
    refine ⟨h.dropsBA, fun hb => ?_, fun _ => ⟨h.dropsAB, h.flag, fun hb => ?_, fun hb => ?_⟩,
      fun hf => absurd hn (Nat.not_lt.mpr hf)⟩
    · have hbu : u.lineB.sending.isSome = true := (h.busy hb).1 ▸ hb
      have he : forwarded f u.lineB = { u.lineB with forward := u.lineB.forward ++ [f] } := if_pos hbu
      rw [he]
      exact h.busy hb
    · have hbu : u.lineB.sending.isSome = true := (h.busy hb).1 ▸ hb
      have he : forwarded f u.lineB = { u.lineB with forward := u.lineB.forward ++ [f] } := if_pos hbu
      rw [he]
      exact congrArg (· ++ [f]) h.forward
    · have h0 : u.lineB.forward = [] := h.forward.trans (hs hb).1
      obtain ⟨h1, h2⟩ | ⟨h1, x, hx, h2⟩ := h.idle hb
      · have he : forwarded f u.lineB = { u.lineB with sending := some { frame := f, restart := false } } :=
          if_neg (by rw [h1]; simp)
        rw [he]
        exact .inl ⟨h0, rfl, h2⟩
      · have he : forwarded f u.lineB = { u.lineB with forward := u.lineB.forward ++ [f] } :=
          if_pos (by rw [hx]; rfl)
        rw [he]
        exact .inr ⟨congrArg (· ++ [f]) h0, h1, x, hx, h2⟩
  · have hf := Nat.not_lt.mp hn
    have hfu : 32 ≤ u.lineB.forward.length := by rw [h.forward]; exact hf
    have hrec := reportFault_record .forwardDropped 255 (.number 0) (countForwardDrop .b u)
    have hrep := reportFault_reported .forwardDropped 255 (.number 0) (countForwardDrop .b u)
    obtain ⟨h1, h2, h3, h4⟩ := reportFault_line .forwardDropped 255 (.number 0) (s := countForwardDrop .b u)
      h.settled
    rw [← offerForward_full hfu f] at hrec hrep h1 h2 h3 h4
    refine ⟨h2.trans h.dropsBA, fun hb => ?_, fun hn' => absurd hn' hn, fun _ =>
      ⟨h3.trans h.forward, h1.trans (congrArg (raised · 1) h.dropsAB), Reported.of_grows hg hrep,
        fun hno r hr hk => ?_⟩⟩
    · obtain ⟨hb1, hb2⟩ := h.busy hb
      obtain ⟨hb3, hb4⟩ := h4 (hb1 ▸ hb)
      exact ⟨hb3.trans hb1, hb4.trans hb2⟩
    · rw [hrec] at hr
      obtain rfl := Option.some.inj hr
      cases hu : u.fault.record with
      | some r' =>
        rw [show (countForwardDrop .b u).fault.record = some r' from hu] at hk
        exact absurd hk (h.filled hno r' hu)
      | none =>
        rw [show (countForwardDrop .b u).fault.record = none from hu]
        rw [← h.localTime]
        rfl

end Sys2Proof.Machine

namespace Sys2Proof.Machine
open Sys2Proof.Claims

/-! ### A sample frame of an enabled source arrives on line A -/

/-- What the ruling on a frame does to the parts of the state that a delivery is about: nothing. -/
def Unmoved (s t : State) : Prop :=
  ∃ src gap, ∃ k : Counters, ∃ b r fa ts, t = { s with
    sources := src, lastGap := gap, lineB := b, records := r, fault := fa, ties := ts
    counters := { k with channels := s.counters.channels } }

theorem Unmoved.trans {s t u : State} (h : Unmoved s t) (k : Unmoved t u) : Unmoved s u := by
  obtain ⟨_, _, _, _, _, _, _, rfl⟩ := h
  obtain ⟨src, gap, c, b, r, fa, ts, rfl⟩ := k
  exact ⟨src, gap, c, b, r, fa, ts, rfl⟩

theorem Reports.unmoved {s t : State} (h : Reports s t) : Unmoved s t := by
  obtain ⟨r, b, f, vd, ad, ts, rfl⟩ := h
  exact ⟨s.sources, s.lastGap, { s.counters with verdictDrops := vd, alarmDrops := ad }, b, r, f, ts, rfl⟩

theorem onSource_unmoved (i : Fin 8) (f : SourceRecord → SourceRecord) (s : State) : Unmoved s (onSource i f s) :=
  ⟨updAt s.sources i f, s.lastGap, s.counters, s.lineB, s.records, s.fault, s.ties, rfl⟩

theorem onSourceCounters_unmoved (i : Fin 8) (f : SourceCounters → SourceCounters) (s : State) :
    Unmoved s (onSourceCounters i f s) :=
  ⟨s.sources, s.lastGap, { s.counters with sources := updAt s.counters.sources i f }, s.lineB, s.records,
    s.fault, s.ties, rfl⟩

/-- R18: what a delivery comes to, with the ruling before it and the frame's way to the other line. -/
theorem SetsTaken.around {src : Fin 8} {started : Bool} {sets : List SampleSet} {s u v t : State}
    (hs : Unmoved s u) (h : SetsTaken src started sets { u with lineB := s.lineB } v) (ht : Unmoved v t)
    (hg : FaultGrows v t)
    (he : s.fault.record = none → s.lineB.forward.length < 32 → u.fault.record = none) :
    SetsTaken src started sets s t := by
  obtain ⟨_, _, _, _, _, _, _, rfl⟩ := hs
  obtain ⟨order, after, h1, h2, h3, h4, h5⟩ := h
  have hr : SetsTaken src started sets s v := by
    refine ⟨order, after, h1, h2, h3, fun ha => ?_, h5⟩
    obtain ⟨trackers, k1, k2, k3⟩ := h4 ha
    refine ⟨trackers, k1, fun hq => ?_, k3⟩
    obtain ⟨p1, p2, p3, p4, p5⟩ := k2 hq
    refine ⟨p1, p2, p3, p4, fun c hc seq hseq => ?_⟩
    obtain ⟨q1, q2⟩ := p5 c hc seq hseq
    exact ⟨q1, fun ho hx hn hf => q2 ho hx (he hn hf) hf⟩
  obtain ⟨_, _, _, _, _, _, _, rfl⟩ := ht
  obtain ⟨order, after, h1, h2, h3, h4, h5⟩ := hr
  refine ⟨order, after, h1, h2, h3, fun ha => ?_, h5⟩
  obtain ⟨trackers, k1, k2, k3⟩ := h4 ha
  refine ⟨trackers, k1, fun hq => ?_, k3⟩
  obtain ⟨p1, p2, p3, p4, p5⟩ := k2 hq
  refine ⟨p1, p2, p3, p4, fun c hc seq hseq => ?_⟩
  obtain ⟨q1, q2⟩ := p5 c hc seq hseq
  exact ⟨hg.1 _ q1, fun ho hx hn hf => hg.2 _ (q2 ho hx hn hf)⟩

/-- Reports alone leave line B's output side as it is while it sends. -/
theorem Talks.lineB_busy {Q : State → State → Prop} (hQ : ∀ s t, Q s t → t.lineB = s.lineB) {s t : State}
    (h : Talks Q False s t) (hb : s.lineB.sending.isSome = true) : t.lineB = s.lineB := by
  induction h with
  | refl => rfl
  | quietly _ hw ih => exact (hQ _ _ hw).trans ih
  | @offered t r _ ih =>
    have hk : (({ t with records := (enqueue t.records r).2 } : State).out .b).sending.isSome = true := by
      change t.lineB.sending.isSome = true
      rw [ih]
      exact hb
    rw [kick_busy hk]
    exact ih
  | @dropCounted t d _ ih => cases d <;> exact ih
  | noted _ _ _ ih => exact ih
  | filled _ _ _ _ _ _ ih => exact ih
  | answered _ _ _ ha => exact ha.elim

theorem reportFault_lineB_busy (k : FaultKind) (n : Nat) (d : FaultDetail) {s : State}
    (hb : s.lineB.sending.isSome = true) : (reportFault k n d s).lineB = s.lineB := by
  cases hr : s.fault.record with
  | some r =>
    rw [reportFault_held hr]
    rfl
  | none =>
    rw [reportFault_empty hr]
    exact (offerWhileHeld_talks (Q := Eq) (a := False) _ (fillFault k n d s)).lineB_busy
      (fun _ _ h => by rw [h]) hb

theorem offerForward_settled {s : State} (hs : LineSettled .b s) (f : Frame) :
    LineSettled .b (offerForward .b f s) := by
  obtain ⟨_, e⟩ | ⟨_, e⟩ := offerForward_cases .b f s
  · rw [e]
    exact kick_settled .b _
  · have hc : LineSettled .b (countForwardDrop .b s) := hs
    rw [e]
    cases hr : (countForwardDrop .b s).fault.record with
    | some r =>
      rw [reportFault_held hr]
      exact hc
    | none =>
      rw [reportFault_empty hr]
      exact (speaks_offerWhileHeld (s := fillFault _ _ _ (countForwardDrop .b s)) hc _).settled

/-- What the offer of a frame to line B changes, as the rest of its event sees it. -/
structure Forwards (s u : State) : Prop where
  same : ∃ b r fa ts v a d, u = { s with
    lineB := b, records := r, fault := fa, ties := ts
    counters := { s.counters with verdictDrops := v, alarmDrops := a, forwardDropsAB := d } }
  grows : FaultGrows s u
  empty : s.fault.record = none → s.lineB.forward.length < 32 → u.fault.record = none
  busy : s.lineB.sending.isSome = true → u.lineB.sending.isSome = true ∧ u.lineB.replies = s.lineB.replies

theorem ties_forwards (s : State) (ts : Ties) : Forwards s { s with ties := ts } :=
  ⟨⟨s.lineB, s.records, s.fault, ts, s.counters.verdictDrops, s.counters.alarmDrops,
    s.counters.forwardDropsAB, rfl⟩, .of_fault rfl, fun h _ => h, fun h => ⟨h, rfl⟩⟩

theorem Forwards.ties {s u : State} (h : Forwards s u) (ts : Ties) : Forwards s { u with ties := ts } := by
  obtain ⟨⟨b, r, fa, _, v, a, d, rfl⟩, hg, he, hb⟩ := h
  exact ⟨⟨b, r, fa, ts, v, a, d, rfl⟩, hg, he, hb⟩

theorem offerForward_forwards (f : Frame) (s : State) : Forwards s (offerForward .b f s) := by
  obtain ⟨_, e⟩ | ⟨hn, e⟩ := offerForward_cases .b f s
  · obtain ⟨o, r, hk⟩ := kick_frame .b (setOut .b { s.out .b with forward := (s.out .b).forward ++ [f] } s)
    have he : offerForward .b f s = { s with lineB := o, records := r } := e.trans hk
    rw [he]
    refine ⟨⟨o, r, s.fault, s.ties, s.counters.verdictDrops, s.counters.alarmDrops,
      s.counters.forwardDropsAB, rfl⟩, .of_fault rfl, fun h _ => h, fun hb => ?_⟩
    have hbusy : ((setOut .b { s.out .b with forward := (s.out .b).forward ++ [f] } s).out .b).sending.isSome
        = true := hb
    rw [kick_busy hbusy] at e
    have ho : o = { s.lineB with forward := s.lineB.forward ++ [f] } := congrArg State.lineB (he.symm.trans e)
    rw [ho]
    exact ⟨hb, rfl⟩
  · have hg : FaultGrows s (offerForward .b f s) := by
      rw [e]
      exact FaultGrows.trans (t := countForwardDrop .b s) (.of_fault rfl) (reportFault_grows _ _ _ _)
    refine ⟨?_, hg, fun _ hf => absurd hf (Nat.not_lt.mpr hn), fun hb => ?_⟩
    · obtain ⟨r, b, fa, v, a, ts, hr⟩ := reportFault_reports .forwardDropped 255
        (.number (forwardDirection .b)) (countForwardDrop .b s)
      rw [e, hr]
      exact ⟨b, r, fa, ts, v, a, _, rfl⟩
    · have hl := reportFault_lineB_busy .forwardDropped 255 (.number (forwardDirection .b))
        (s := countForwardDrop .b s) hb
      rw [← e] at hl
      rw [hl]
      exact ⟨hb, rfl⟩

theorem Forwards.unmoved {s u : State} (h : Forwards s u) : Unmoved s u := by
  obtain ⟨⟨b, r, fa, ts, v, a, d, rfl⟩, _⟩ := h
  exact ⟨s.sources, s.lastGap, { s.counters with verdictDrops := v, alarmDrops := a, forwardDropsAB := d }, b, r,
    fa, ts, rfl⟩

/-- R10 to R15: the ruling on a frame of source `src`. -/
def ruled (ties : Meeting) (src : Fin 8) (m : List Byte) (s : State) : State :=
  if sampleMalformed m s.tables.sources[src].channelCount then rejectMalformed src m s
  else ruleFrame ties.expiry (takeTriggers ties.triggers) src m s

theorem monitorFrame_ruled {ties : Meeting} {src : Fin 8} {m : List Byte} {id : Nat} {s : State}
    (hl : s.opState ≠ .loading) (hid : sampleSourceId m = some id) (hsrc : s.sourceOfId id = some src) :
    monitorFrame ties.expiry (takeTriggers ties.triggers) m s = ruled ties src m s := by
  unfold monitorFrame
  rw [if_neg hl, hid, Option.bind_some, hsrc]
  rfl

/-- R1, R5, log 5: a frame of source `src` is offered to line B before or after its ruling. -/
theorem arrival_ruled {f : Frame} {ties : Meeting} {s : State} {src : Fin 8} {id : Nat} (hp : s.powered = true)
    (hf : f.fcsAgrees = true) (ht : f.ftype = s.streamType) (hk : f.payload.head? = some 0x01#8)
    (hl : s.opState ≠ .loading) (hid : sampleSourceId (message f.payload) = some id)
    (hsrc : s.sourceOfId id = some src) :
    ∃ u t, exec (.lineAFrameArrival f ties) s = .next t ∧ Forwards s u
      ∧ Forwards (ruled ties src (message f.payload) u) t
      ∧ (LineSettled .b s → SampleForwarded ties.triggers f s t) := by
  have hc : ({ s with ties := ties.order } : State).classify f = .sample :=
    classify_sample (s := { s with ties := ties.order }) ht hk
  have he := exec_arrival (l := .a) ties hp hf
  rw [sortLine_sample_a hc] at he
  have hm : ∀ u, Forwards s u → monitorFrame ties.expiry (takeTriggers ties.triggers) (message f.payload) u
      = ruled ties src (message f.payload) u := fun u hu => by
    obtain ⟨⟨_, _, _, _, _, _, _, rfl⟩, _⟩ := hu
    exact monitorFrame_ruled hl hid hsrc
  have htalk : ∀ u, Talks Beside (ties.triggers ≠ []) u
      (monitorFrame ties.expiry (takeTriggers ties.triggers) (message f.payload) u) := fun u =>
    monitorFrame_talks ties.expiry _ (takeTriggers_talks ties.triggers) _ u
  have hfault : ∀ {u v}, Talks Beside (ties.triggers ≠ []) u v → FaultGrows u v := fun h =>
    h.faultGrows fun _ _ h => h.fault
  obtain ⟨ts, e | e⟩ := either_cases (offerForward .b f)
    (monitorFrame ties.expiry (takeTriggers ties.triggers) (message f.payload)) { s with ties := ties.order }
  · rw [e] at he
    have hu : Forwards s (offerForward .b f { s with ties := ts }) := by
      obtain ⟨⟨b, r, fa, ts', v, a, d, h⟩, hg, hem, hb⟩ := offerForward_forwards f { s with ties := ts }
      exact ⟨⟨b, r, fa, ts', v, a, d, h⟩, hg, hem, hb⟩
    refine ⟨_, _, he, hu, ?_, fun hs => ?_⟩
    · rw [← hm _ hu]
      exact ties_forwards _ []
    · have h := htalk (offerForward .b f { s with ties := ts })
      have hb := sampleForwarded_before (s := { s with ties := ts }) (f := f) hs
        (h.speaks (offerForward_settled (s := { s with ties := ts }) hs f)) (hfault h)
      exact hb
  · rw [e] at he
    have hu : Forwards s { s with ties := ts } := ties_forwards s ts
    refine ⟨_, _, he, hu, ?_, fun hs => ?_⟩
    · rw [← hm _ hu]
      exact (offerForward_forwards f _).ties []
    · have h := htalk { s with ties := ts }
      have hb := sampleForwarded_after (s := { s with ties := ts }) (f := f) hs (h.speaks hs) (hfault h)
      exact hb

end Sys2Proof.Machine

namespace Sys2Proof.Machine
open Sys2Proof.Claims

/-! ### The sets of a frame and of a gap (R6, R13, R16, R17) -/

theorem preparedSets_eq (src : Fin 8) (m : List Byte) (s : State) :
    preparedSets s.tables.sources[src] s.sources[src].lastValues m = frameSets src m s := by
  unfold preparedSets frameSets preparedValue fillValue stampOf blockPosition
  dsimp only
  cases s.tables.sources[src].fill <;> rfl

theorem synthesised_eq (src : Fin 8) (m : List Byte) (q n : Nat) (s : State) :
    ((List.range n).flatMap fun i =>
      synthesised s.tables.sources[src] s.sources[src].lastValues (sampleTest m) (q + i)) = gapSets src m q n s := by
  unfold gapSets synthesised fillValue stampOf
  dsimp only
  cases s.tables.sources[src].fill <;> rfl

/-- The number of a set since the source's epoch. -/
def stampIndex (ss : SampleSet) : Nat := 12800 * ss.stamp.second + ss.stamp.counter

theorem stampIndex_stamp (p j : Nat) : 12800 * (p / 3200) + (4 * (p % 3200) + j) = 4 * p + j := by omega

theorem frameSets_index (src : Fin 8) (m : List Byte) (s : State) : (frameSets src m s).map stampIndex
    = [0, 1, 2, 3].map (4 * blockPosition m + ·) := by
  unfold frameSets stampIndex blockPosition
  simp only [List.map_cons, List.map_nil, stampIndex_stamp]

theorem gapSets_index (src : Fin 8) (m : List Byte) (q n : Nat) (s : State) :
    (gapSets src m q n s).map stampIndex
      = (List.range n).flatMap fun i => [0, 1, 2, 3].map (4 * (q + i) + ·) := by
  unfold gapSets stampIndex
  rw [List.map_flatMap]
  simp only [List.map_cons, List.map_nil, stampIndex_stamp]

theorem frameSets_nodup (src : Fin 8) (m : List Byte) (s : State) : (frameSets src m s).Nodup := by
  refine List.Nodup.of_map stampIndex ?_
  rw [frameSets_index]
  exact List.Nodup.map (fun a b h => Nat.add_left_cancel h) (by decide)

theorem blockIndex_bounds {x p : Nat} (h : x ∈ [0, 1, 2, 3].map (4 * p + ·)) : 4 * p ≤ x ∧ x < 4 * (p + 1) := by
  simp only [List.map_cons, List.map_nil, List.mem_cons, List.not_mem_nil, or_false] at h
  omega

/-- The sets of a gap and of the frame after it are all different: their stamps follow one another. -/
theorem gapAndFrameSets_nodup (src : Fin 8) (m : List Byte) {q n : Nat} (h : q + n ≤ blockPosition m)
    (s : State) : (gapSets src m q n s ++ frameSets src m s).Nodup := by
  refine List.Nodup.of_map stampIndex ?_
  rw [List.map_append, gapSets_index, frameSets_index]
  refine List.Nodup.append (List.nodup_flatMap.mpr ⟨fun i _ => ?_, ?_⟩)
    (List.Nodup.map (fun a b h => Nat.add_left_cancel h) (by decide)) fun x hx hy => ?_
  · exact List.Nodup.map (fun a b h => Nat.add_left_cancel h) (by decide)
  · refine List.nodup_range.imp_of_mem fun {i j} _ _ hij x hx hy => hij ?_
    have h1 := blockIndex_bounds hx
    have h2 := blockIndex_bounds hy
    omega
  · obtain ⟨i, hi, hx⟩ := List.mem_flatMap.mp hx
    have h1 := blockIndex_bounds hx
    have h2 := blockIndex_bounds hy
    have hi := List.mem_range.mp hi
    omega

/-! ### A frame taken (R11, R12, R13, R16, R17, R21) -/

/-- The record of a source after a frame taken. -/
def takenRecord (e : SourceEntry) (m : List Byte) (r : SourceRecord) : SourceRecord :=
  { state := .running, lastPos := some (blockPosition m), lastValues := lastValuesAfter e r.lastValues m
    silence := some e.silenceTimeout }

/-- R17: the clamped values of a frame counted. -/
def clampedCounted (n : Nat) (k : SourceCounters) : SourceCounters := { k with clamped := raised k.clamped n }

/-- A source's record and counters as `r` and `k`, those of the other sources as they were. -/
structure SourceBecomes (src : Fin 8) (r : SourceRecord) (k : SourceCounters) (s t : State) : Prop where
  record : t.sources = updAt s.sources src fun _ => r
  counters : t.counters.sources = updAt s.counters.sources src fun _ => k

theorem SourceBecomes.own {src : Fin 8} {r : SourceRecord} {k : SourceCounters} {s t : State}
    (h : SourceBecomes src r k s t) : t.sources[src] = r ∧ t.counters.sources[src] = k := by
  rw [h.record, h.counters]
  exact ⟨updAt_same _ _ _, updAt_same _ _ _⟩

theorem SourceBecomes.others {src : Fin 8} {r : SourceRecord} {k : SourceCounters} {s t : State}
    (h : SourceBecomes src r k s t) (i : Fin 8) (hi : i ≠ src) :
    t.sources[i] = s.sources[i] ∧ t.counters.sources[i] = s.counters.sources[i] := by
  rw [h.record, h.counters, updAt_get, updAt_get, if_neg hi, if_neg hi]
  exact ⟨rfl, rfl⟩

/-- The state in which the items of a taken frame are delivered. -/
def beforeDelivery (src : Fin 8) (m : List Byte) (s : State) : State :=
  onSourceCounters src (fun k => { k with clamped := countUp k.clamped (clampedCount s.tables.sources[src] m) })
    (onSource src (takenRecord s.tables.sources[src] m) s)

theorem takeFrame_eq (met : State → State) (src : Fin 8) (m : List Byte) (before : List Item) (s : State) :
    takeFrame met src m before s
      = deliver met src (before ++ (frameSets src m s).map Item.set) (beforeDelivery src m s) := by
  rw [← preparedSets_eq]
  rfl

theorem beforeDelivery_unmoved (src : Fin 8) (m : List Byte) (s : State) : Unmoved s (beforeDelivery src m s) :=
  (onSource_unmoved src _ s).trans (onSourceCounters_unmoved src _ _)

theorem deliver_apart {met : State → State} {a : Prop} (hm : ∀ s, Talks Within a s (met s)) (src : Fin 8)
    (items : List Item) (s : State) : Apart s (deliver met src items s) := (deliver_talks met hm src items s).apart

/-- R16, R17, R21: the source's record and counters after a frame taken. -/
theorem takeFrame_source {met : State → State} {a : Prop} (hm : ∀ s, Talks Within a s (met s)) (src : Fin 8)
    (m : List Byte) (before : List Item) (s : State) :
    SourceBecomes src (takenRecord s.tables.sources[src] m s.sources[src])
        (clampedCounted (clampedCount s.tables.sources[src] m) s.counters.sources[src]) s
        (takeFrame met src m before s)
      ∧ (takeFrame met src m before s).lastGap = s.lastGap := by
  rw [takeFrame_eq]
  have ha := deliver_apart hm src (before ++ (frameSets src m s).map Item.set) (beforeDelivery src m s)
  exact ⟨⟨ha.sources.trans rfl, ha.sourceCounters.trans rfl⟩, ha.lastGap⟩

/-- Without a realign a delivery meets nothing. -/
theorem deliver_id (src : Fin 8) (items : List Item) (s : State) :
    deliver id src items s
      = delivered src (happenings s src items) { s with ties := (s.delivery src items).2 } := by
  have hc : ∀ x s, consumeMeeting id src x s = consume src x.2 x.1 s := by
    intro x s
    unfold consumeMeeting
    split <;> rfl
  unfold deliver delivered happenings
  simp only [hc]

/-- R11, R12, R13, R18, R21: what the delivery of a taken frame that does not realign its source comes to. -/
theorem deliver_setsTaken {src : Fin 8} {started : Bool} {sets : List SampleSet} (hn : sets.Nodup) (b : LineOut)
    (s : State) :
    SetsTaken src started sets { s with lineB := b } (deliver id src (takenItems started sets) s) := by
  rw [deliver_id]
  have hd : DeliversSets src started sets { s with ties := (s.delivery src (takenItems started sets)).2 }
      (happenings s src (takenItems started sets)) := by
    obtain ⟨h1, h2, h3, h4, h5⟩ := happenings_delivers (src := src) (started := started) hn s
    exact ⟨h1, h2, h3, h4, h5⟩
  have h := hd.setsTaken b
  exact h

end Sys2Proof.Machine

namespace Sys2Proof.Machine
open Sys2Proof.Claims

/-! ### The ruling on a frame, case by case (R10 to R15) -/

section
variable {ties : Meeting} {src : Fin 8} {m : List Byte} {s : State}

theorem ruled_malformed (h : sampleMalformed m s.tables.sources[src].channelCount = true) :
    ruled ties src m s = rejectMalformed src m s := if_pos h

theorem ruled_new (hm : sampleMalformed m s.tables.sources[src].channelCount = false)
    (h : s.sources[src].state = .await ∨ s.sources[src].state = .lost) :
    ruled ties src m s = takeFrame id src m [.start] s := by
  refine (if_neg (by rw [hm]; simp)).trans ?_
  unfold ruleFrame
  split
  · next h' _ => obtain h | h := h <;> (rw [h] at h'; cases h')
  · next h' => obtain h | h := h <;> (rw [h] at h'; cases h')
  · rfl

theorem ruled_running (hm : sampleMalformed m s.tables.sources[src].channelCount = false) {q : Nat}
    (hr : s.sources[src].state = .running) (hq : s.sources[src].lastPos = some q) :
    ruled ties src m s = ruleRunning ties.expiry (takeTriggers ties.triggers) src m q s := by
  refine (if_neg (by rw [hm]; simp)).trans ?_
  unfold ruleFrame
  rw [hr, hq]

variable {expiry : Bool} {met : State → State} {q : Nat}

theorem ruleRunning_inSequence (h : blockPosition m = q + 1) :
    ruleRunning expiry met src m q s = takeFrame id src m [] s := if_pos h

theorem ruleRunning_stale (h : blockPosition m < q + 1) :
    ruleRunning expiry met src m q s = countStale src (if expiry then loseSource src s else s) :=
  (if_neg (Nat.ne_of_lt h)).trans (if_pos h)

theorem ruleRunning_gap (h1 : q + 1 < blockPosition m)
    (h2 : blockPosition m ≤ q + 1 + s.tables.sources[src].gapLimit) :
    ruleRunning expiry met src m q s = takeAfterGap src m (q + 1) s :=
  (if_neg (Nat.ne_of_gt h1)).trans ((if_neg (Nat.not_lt.mpr h1.le)).trans (if_pos h2))

theorem ruleRunning_realign (h : q + 1 + s.tables.sources[src].gapLimit < blockPosition m) :
    ruleRunning expiry met src m q s = realignAndTake met src m s :=
  (if_neg (by omega)).trans ((if_neg (by omega)).trans (if_neg (by omega)))

end

/-! ### The record and the counters of the source -/

theorem SourceBecomes.trans {src : Fin 8} {r r' : SourceRecord} {k k' : SourceCounters} {s t u : State}
    (h : SourceBecomes src r k s t) (g : SourceBecomes src r' k' t u) : SourceBecomes src r' k' s u where
  record := by
    rw [g.record, h.record]
    simp [updAt]
  counters := by
    rw [g.counters, h.counters]
    simp [updAt]

theorem SourceBecomes.of_apart {src : Fin 8} {r : SourceRecord} {k : SourceCounters} {s t u : State}
    (h : SourceBecomes src r k s t) (g : Apart t u) : SourceBecomes src r k s u :=
  ⟨g.sources.trans h.record, g.sourceCounters.trans h.counters⟩

theorem SourceBecomes.after_apart {src : Fin 8} {r : SourceRecord} {k : SourceCounters} {s t u : State}
    (g : Apart s t) (h : SourceBecomes src r k t u) : SourceBecomes src r k s u :=
  ⟨h.record.trans (by rw [g.sources]), h.counters.trans (by rw [g.sourceCounters])⟩

theorem SourceBecomes.same (src : Fin 8) (s : State) :
    SourceBecomes src s.sources[src] s.counters.sources[src] s s :=
  ⟨by simp [updAt], by simp [updAt]⟩

theorem SourceBecomes.counted (src : Fin 8) (g : SourceCounters → SourceCounters) (s : State) :
    SourceBecomes src s.sources[src] (g s.counters.sources[src]) s (onSourceCounters src g s) :=
  ⟨by simp [updAt], rfl⟩

theorem Forwards.apart {s u : State} (h : Forwards s u) : Apart s u := by
  obtain ⟨⟨_, _, _, _, _, _, _, rfl⟩, _⟩ := h
  exact ⟨rfl, rfl, rfl, rfl, rfl, rfl, rfl, rfl, rfl, rfl, rfl, rfl, rfl⟩

/-- R10: a malformed frame. -/
theorem rejectMalformed_source (src : Fin 8) (m : List Byte) (s : State) :
    SourceBecomes src s.sources[src] { s.counters.sources[src] with
      malformed := raised s.counters.sources[src].malformed 1 } s (rejectMalformed src m s) :=
  (SourceBecomes.counted src (fun k => { k with malformed := countUp k.malformed 1 }) s).of_apart
    (reportFault_reports _ _ _ _).apart

/-- R14: a stale frame. -/
theorem countStale_source (src : Fin 8) (s : State) :
    SourceBecomes src s.sources[src] { s.counters.sources[src] with
      stale := raised s.counters.sources[src].stale 1 } s (countStale src s) :=
  .counted src (fun k => { k with stale := countUp k.stale 1 }) s

/-- R19: a source lost. -/
theorem loseSource_source (src : Fin 8) (s : State) :
    SourceBecomes src { s.sources[src] with state := .lost, silence := none } { s.counters.sources[src] with
      losses := raised s.counters.sources[src].losses 1 } s (loseSource src s) := by
  have ha := loseSource_apart src s
  exact ⟨ha.sources.trans rfl, ha.sourceCounters.trans rfl⟩

/-- R13: the state after a gap has been counted. -/
def gapCounted (src : Fin 8) (n : Nat) (s : State) : State :=
  { onSourceCounters src (fun k => { k with gapBlocks := countUp k.gapBlocks n }) s with lastGap := some src }

theorem takeAfterGap_eq (src : Fin 8) (m : List Byte) (q : Nat) (s : State) :
    takeAfterGap src m q s
      = takeFrame id src m ((gapSets src m q (blockPosition m - q) s).map Item.set)
        (gapCounted src (blockPosition m - q) s) := by
  rw [← synthesised_eq]
  rfl

theorem id_talks {a : Prop} (s : State) : Talks Within a s (id s) := .refl s

/-- R13: a frame taken after a gap. -/
theorem takeAfterGap_source (src : Fin 8) (m : List Byte) (q : Nat) (s : State) :
    SourceBecomes src (takenRecord s.tables.sources[src] m s.sources[src])
        (clampedCounted (clampedCount s.tables.sources[src] m) { s.counters.sources[src] with
          gapBlocks := raised s.counters.sources[src].gapBlocks (blockPosition m - q) }) s
        (takeAfterGap src m q s)
      ∧ (takeAfterGap src m q s).lastGap = some src := by
  have h := takeFrame_source (id_talks (a := False)) src m
    ((gapSets src m q (blockPosition m - q) s).map Item.set) (gapCounted src (blockPosition m - q) s)
  rw [← takeAfterGap_eq] at h
  obtain ⟨h1, h2⟩ := h
  refine ⟨?_, h2⟩
  have hc : (gapCounted src (blockPosition m - q) s).counters.sources[src] = { s.counters.sources[src] with
      gapBlocks := raised s.counters.sources[src].gapBlocks (blockPosition m - q) } := updAt_same _ _ _
  rw [hc] at h1
  have hg : SourceBecomes src s.sources[src] { s.counters.sources[src] with
      gapBlocks := raised s.counters.sources[src].gapBlocks (blockPosition m - q) } s
        (gapCounted src (blockPosition m - q) s) := ⟨by simp [gapCounted, updAt], rfl⟩
  exact hg.trans h1

/-- R15: the state after a realign has been counted and reported. -/
def realignReported (src : Fin 8) (m : List Byte) (s : State) : State :=
  reportFault .sourceRealign src.val (.number (blockPosition m))
    (onSourceCounters src (fun k => { k with realigns := countUp k.realigns 1 }) s)

theorem realignReported_source (src : Fin 8) (m : List Byte) (s : State) :
    SourceBecomes src s.sources[src] { s.counters.sources[src] with
      realigns := raised s.counters.sources[src].realigns 1 } s (realignReported src m s) :=
  (SourceBecomes.counted src (fun k => { k with realigns := countUp k.realigns 1 }) s).of_apart
    (reportFault_reports _ _ _ _).apart

/-- R15: a frame that realigns its source. -/
theorem realignAndTake_source {met : State → State} {a : Prop} (hm : ∀ s, Talks Within a s (met s)) (src : Fin 8)
    (m : List Byte) (s : State) :
    SourceBecomes src (takenRecord s.tables.sources[src] m s.sources[src])
      (clampedCounted (clampedCount s.tables.sources[src] m) { s.counters.sources[src] with
        realigns := raised s.counters.sources[src].realigns 1 }) s (realignAndTake met src m s) := by
  have h := (takeFrame_source hm src m [.realign] (realignReported src m s)).1
  have hr := realignReported_source src m s
  have ha : (realignReported src m s).tables = s.tables :=
    (reportFault_reports .sourceRealign src.val (.number (blockPosition m))
      (onSourceCounters src (fun k => { k with realigns := countUp k.realigns 1 }) s)).apart.tables
  rw [hr.own.1, hr.own.2, ha] at h
  exact hr.trans h

/-- R10 to R15: no ruling touches another source. -/
theorem ruled_source (ties : Meeting) (src : Fin 8) (m : List Byte) (s : State) :
    ∃ r k, SourceBecomes src r k s (ruled ties src m s) := by
  cases hm : sampleMalformed m s.tables.sources[src].channelCount with
  | true =>
    rw [ruled_malformed hm]
    exact ⟨_, _, rejectMalformed_source src m s⟩
  | false =>
    have hnew : ∀ before, ∃ r k, SourceBecomes src r k s (takeFrame id src m before s) := fun before =>
      ⟨_, _, (takeFrame_source (id_talks (a := False)) src m before s).1⟩
    have hrule : ruled ties src m s = ruleFrame ties.expiry (takeTriggers ties.triggers) src m s :=
      if_neg (by rw [hm]; simp)
    rw [hrule]
    unfold ruleFrame
    split
    · unfold ruleRunning
      dsimp only
      split
      · exact hnew _
      · split
        · split
          · exact ⟨_, _, (loseSource_source src s).trans (countStale_source src _)⟩
          · exact ⟨_, _, countStale_source src s⟩
        · split
          · exact ⟨_, _, (takeAfterGap_source src m _ s).1⟩
          · exact ⟨_, _, realignAndTake_source (takeTriggers_talks ties.triggers) src m s⟩
    · exact ⟨_, _, .same src s⟩
    · exact hnew _

end Sys2Proof.Machine

namespace Sys2Proof.Machine
open Sys2Proof.Claims

/-! ### Frames not taken: foreign, malformed, stale (R5, R10, R14) -/

theorem sourceOfId_of_tables {s t : State} (h : t.tables = s.tables) (id : Nat) :
    t.sourceOfId id = s.sourceOfId id := by
  unfold State.sourceOfId
  rw [h]

/-- R1, log 5: a sample frame that only the counters feel is passed on in either order. -/
theorem arrival_aside {f : Frame} {ties : Meeting} {s : State} (hp : s.powered = true)
    (hf : f.fcsAgrees = true) (ht : f.ftype = s.streamType) (hk : f.payload.head? = some 0x01#8)
    (hb : LineSettled .b s) {k : Counters → Counters} (hs : SparesDrops k)
    (hg : ∀ u, Apart s u → monitorFrame ties.expiry (takeTriggers ties.triggers) (message f.payload) u
      = { u with counters := k u.counters }) :
    exec (.lineAFrameArrival f ties) s = .next (passedOn .a f { s with counters := k s.counters }) := by
  have hc : ({ s with ties := ties.order } : State).classify f = .sample :=
    classify_sample (s := { s with ties := ties.order }) ht hk
  have he := exec_arrival (l := .a) ties hp hf
  rw [sortLine_sample_a hc] at he
  have hset : LineSettled .b { s with ties := ties.order } := hb
  have h := either_forward_aside (l := .a) (k := k) (q := fun q => q) hs hset hset f
    fun u ha _ => hg u ((ties_within s ties.order).apart.trans ha)
  exact he.trans (congrArg Host.Outcome.next
    (h.trans (passedOn_ties .a f { s with counters := k s.counters } ties.order)))

/-- R19 to R21: what the loss of a source comes to, with the frame's way to the other line. -/
theorem LossTaken.around {src : Fin 8} {s u v t : State} (hu : Unmoved s u) (hgu : FaultGrows s u)
    (h : LossTaken src u v) (ht : Unmoved v t) (hgt : FaultGrows v t) : LossTaken src s t := by
  obtain ⟨h1, h2, h3, h4, h5⟩ := h
  have hr := Reported.of_grows hgu (Reported.grows h2 hgt)
  obtain ⟨_, _, _, _, _, _, _, rfl⟩ := hu
  obtain ⟨_, _, _, _, _, _, _, rfl⟩ := ht
  exact ⟨h1, hr, h3, fun i k hk => hgt.1 _ (h4 i k hk), h5⟩

/-- What a malformed and a stale frame leave alone (R10, R14, R21). -/
def Untouched (s t : State) : Prop :=
  t.trackers = s.trackers ∧ t.channels = s.channels ∧ t.capture = s.capture
    ∧ t.lastGap = s.lastGap ∧ t.engine = s.engine ∧ t.command = s.command

theorem Untouched.trans {s t u : State} (h : Untouched s t) (k : Untouched t u) : Untouched s u := by
  obtain ⟨h1, h2, h3, h4, h5, h6⟩ := h
  obtain ⟨k1, k2, k3, k4, k5, k6⟩ := k
  exact ⟨k1.trans h1, k2.trans h2, k3.trans h3, k4.trans h4, k5.trans h5, k6.trans h6⟩

theorem Forwards.untouched {s t : State} (h : Forwards s t) : Untouched s t := by
  obtain ⟨⟨_, _, _, _, _, _, _, rfl⟩, _⟩ := h
  exact ⟨rfl, rfl, rfl, rfl, rfl, rfl⟩

theorem Reports.untouched {s t : State} (h : Reports s t) : Untouched s t := by
  obtain ⟨_, _, _, _, _, _, rfl⟩ := h
  exact ⟨rfl, rfl, rfl, rfl, rfl, rfl⟩

section
variable {src : Fin 8} {m : List Byte} {s u t : State}

theorem Forwards.localTime {s t : State} (h : Forwards s t) : t.localTime = s.localTime := h.apart.localTime

/-- A fault reported between the frame's offer and the end of its event. -/
theorem reported_between {k : FaultKind} {n : Nat} {d : FaultDetail} (w : State) (hu : FaultGrows s u)
    (hw : w.fault = u.fault) (ht : FaultGrows (reportFault k n d w) t) : Reported k s t :=
  Reported.of_grows (hu.trans (.of_fault hw)) (Reported.grows (reportFault_reported k n d w) ht)

/-- R180: it fills an empty fault record that the frame's offer leaves empty. -/
theorem record_between {k : FaultKind} {n : Nat} {d : FaultDetail} (w : State) (hu : Forwards s u)
    (hw : w.fault = u.fault) (hl : w.localTime = u.localTime) (ht : FaultGrows (reportFault k n d w) t)
    (hn : s.fault.record = none) (hf : s.lineB.forward.length < 32) :
    t.fault.record = some { kind := k, subject := n, detail := d, time := s.localTime } := by
  have hr := reportFault_record k n d w
  rw [hw, hu.empty hn hf, hl, hu.localTime] at hr
  exact ht.2 _ hr

/-- R10: a malformed frame. -/
theorem malformed_ruled (hu : Forwards s u) (ht : Forwards (rejectMalformed src m u) t) :
    t.sources[src] = s.sources[src]
      ∧ t.counters.sources[src] = { s.counters.sources[src] with
          malformed := raised s.counters.sources[src].malformed 1 }
      ∧ Reported .malformedFrame s t ∧ Untouched s t
      ∧ (s.fault.record = none → s.lineB.forward.length < 32 →
        t.fault.record = some { kind := .malformedFrame, subject := src.val, time := s.localTime
                                detail := .position (sampleSecond m) (sampleCounter m) }) := by
  have hs := SourceBecomes.after_apart hu.apart ((rejectMalformed_source src m u).of_apart ht.apart)
  rw [hu.apart.sources, hu.apart.sourceCounters] at hs
  have hr : Untouched u (rejectMalformed src m u) := (reportFault_reports _ _ _ _).untouched
  have hg := ht.grows
  exact ⟨hs.own.1, hs.own.2, reported_between (onSourceCounters src _ u) hu.grows rfl hg,
    (hu.untouched.trans hr).trans ht.untouched, record_between (onSourceCounters src _ u) hu rfl rfl hg⟩

/-- R14: a stale frame. -/
theorem stale_ruled (hu : Forwards s u) (ht : Forwards (countStale src u) t) :
    t.sources[src] = s.sources[src] ∧ Untouched s t
      ∧ t.counters.sources[src] = { s.counters.sources[src] with
          stale := raised s.counters.sources[src].stale 1 } := by
  have hs := SourceBecomes.after_apart hu.apart ((countStale_source src u).of_apart ht.apart)
  rw [hu.apart.sources, hu.apart.sourceCounters] at hs
  exact ⟨hs.own.1, hu.untouched.trans ht.untouched, hs.own.2⟩

/-- R14, R20: a stale frame in the instant in which the silence timer expires. -/
theorem stale_after_loss (hu : Forwards s u) (ht : Forwards (countStale src (loseSource src u)) t) :
    t.sources[src] = { s.sources[src] with state := .lost, silence := none } ∧ LossTaken src s t
      ∧ t.counters.sources[src] = { s.counters.sources[src] with
          stale := raised s.counters.sources[src].stale 1
          losses := raised s.counters.sources[src].losses 1 } := by
  have hl := loseSource_source src u
  have hc := countStale_source src (loseSource src u)
  rw [hl.own.1, hl.own.2] at hc
  have hs := SourceBecomes.after_apart hu.apart ((hl.trans hc).of_apart ht.apart)
  rw [hu.apart.sources, hu.apart.sourceCounters] at hs
  refine ⟨hs.own.1, ?_, hs.own.2⟩
  exact LossTaken.around hu.unmoved hu.grows (loseSource_lossTaken src u)
    ((onSourceCounters_unmoved src _ _).trans ht.unmoved) (FaultGrows.trans (.of_fault rfl) ht.grows)

/-- What the frame's offer leaves of what its ruling reads. -/
theorem Forwards.reads (h : Forwards s u) (src : Fin 8) (m : List Byte) :
    frameSets src m u = frameSets src m s ∧ ∀ q n, gapSets src m q n u = gapSets src m q n s := by
  obtain ⟨⟨_, _, _, _, _, _, _, rfl⟩, _⟩ := h
  exact ⟨rfl, fun _ _ => rfl⟩

/-- R18: a delivery that realigns no source, within the frame's event. -/
theorem setsTaken_ruled {started : Bool} {sets : List SampleSet} {w : State} (hn : sets.Nodup)
    (hu : Forwards s u) (hw : Unmoved u w) (hwf : w.fault = u.fault)
    (ht : Forwards (deliver id src (takenItems started sets) w) t) : SetsTaken src started sets s t :=
  SetsTaken.around (hu.unmoved.trans hw) (deliver_setsTaken hn s.lineB w) ht.unmoved ht.grows
    fun hr hf => (congrArg FaultUnit.record hwf).trans (hu.empty hr hf)

/-- R11, R12: a frame taken in AWAIT, in LOST or in sequence. -/
theorem taken_ruled {started : Bool} (hu : Forwards s u)
    (ht : Forwards (takeFrame id src m (if started then [.start] else []) u) t) :
    t.sources[src] = takenRecord s.tables.sources[src] m s.sources[src]
      ∧ t.counters.sources[src] = clampedCounted (clampedCount s.tables.sources[src] m) s.counters.sources[src]
      ∧ t.lastGap = s.lastGap ∧ SetsTaken src started (frameSets src m s) s t := by
  obtain ⟨hs, hg⟩ := takeFrame_source (id_talks (a := False)) src m (if started then [.start] else []) u
  have hs := SourceBecomes.after_apart hu.apart (hs.of_apart ht.apart)
  rw [hu.apart.sources, hu.apart.sourceCounters, hu.apart.tables] at hs
  refine ⟨hs.own.1, hs.own.2, (ht.apart.lastGap.trans hg).trans hu.apart.lastGap, ?_⟩
  rw [takeFrame_eq] at ht
  rw [← (hu.reads src m).1]
  exact setsTaken_ruled (frameSets_nodup src m u) hu (beforeDelivery_unmoved src m u) rfl ht

theorem gapCounted_unmoved (src : Fin 8) (n : Nat) (s : State) : Unmoved s (gapCounted src n s) :=
  ⟨s.sources, some src, (gapCounted src n s).counters, s.lineB, s.records, s.fault, s.ties, rfl⟩

/-- R13: a frame taken after a gap. -/
theorem gap_ruled {q : Nat} (hq : q ≤ blockPosition m) (hu : Forwards s u)
    (ht : Forwards (takeAfterGap src m q u) t) :
    t.sources[src] = takenRecord s.tables.sources[src] m s.sources[src] ∧ t.lastGap = some src
      ∧ t.counters.sources[src] = clampedCounted (clampedCount s.tables.sources[src] m)
        { s.counters.sources[src] with
          gapBlocks := raised s.counters.sources[src].gapBlocks (blockPosition m - q) }
      ∧ SetsTaken src false (gapSets src m q (blockPosition m - q) s ++ frameSets src m s) s t := by
  obtain ⟨hs, hg⟩ := takeAfterGap_source src m q u
  have hs := SourceBecomes.after_apart hu.apart (hs.of_apart ht.apart)
  rw [hu.apart.sources, hu.apart.sourceCounters, hu.apart.tables] at hs
  refine ⟨hs.own.1, ht.apart.lastGap.trans hg, hs.own.2, ?_⟩
  obtain ⟨hf, hgap⟩ := hu.reads src m
  rw [takeAfterGap_eq, takeFrame_eq, ← List.map_append] at ht
  rw [← hf, ← hgap]
  exact setsTaken_ruled (started := false) (gapAndFrameSets_nodup src m (by omega) u) hu
    ((gapCounted_unmoved src (blockPosition m - q) u).trans (beforeDelivery_unmoved src m _)) rfl ht

end

end Sys2Proof.Machine

namespace Sys2Proof.Machine
open Sys2Proof.Claims

/-! ### The trackers at a realign (R39, R40, R41) -/

/-- Whether a measurer may take `n` more samples and complete no measurement on them: a measurement takes ten
crossings. -/
def Calm (n : Nat) (m : Measurer) : Prop := n ≤ 9 ∧ (m.state = .counting → m.crossings + n ≤ 9)

theorem sought_calm {n : Nat} (hn : n ≤ 9) (m : Measurer) : Calm n (sought m) := by
  refine ⟨hn, ?_⟩
  unfold sought
  split
  · next h => exact fun h' => absurd (h.symm.trans h') (by simp)
  · exact fun h => absurd h (by simp)

theorem Calm.mono {n : Nat} {m : Measurer} (h : Calm (n + 1) m) : Calm n m :=
  ⟨(Nat.le_succ n).trans h.1, fun hc => (Nat.le_succ _).trans (h.2 hc)⟩

theorem onCrossing_calm {n : Nat} {m : Measurer} (h : Calm (n + 1) m) (stamp : Nat) (x : Int) (floor : Nat) :
    (m.onCrossing stamp x floor).2 = .nothing ∧ Calm n (m.onCrossing stamp x floor).1 := by
  obtain ⟨hn, h⟩ := h
  unfold Measurer.onCrossing
  split
  · next hc =>
    have := h hc
    rw [if_pos (by omega)]
    exact ⟨rfl, by omega, fun _ => by dsimp only; omega⟩
  · exact ⟨rfl, by omega, fun _ => by dsimp only; omega⟩

theorem takes_calm {n : Nat} {m : Measurer} (h : Calm (n + 1) m) (floor : Nat) (v : Option SlotValue) :
    (m.takes floor v).2 = .nothing ∧ Calm n (m.takes floor v).1 := by
  unfold Measurer.takes
  split
  · exact ⟨rfl, h.mono⟩
  · split
    · rw [toSeeking_eq]
      exact ⟨rfl, sought_calm h.mono.1 m⟩
    · unfold Measurer.sample
      dsimp only
      split
      · exact onCrossing_calm (by exact h) _ _ _
      · exact ⟨rfl, h.mono⟩

/-- Whether no item of a series completes a measurement. -/
def QuietOn (floor : Nat) (slot : Fin 8) : Measurer → List Item → Prop
  | _, [] => True
  | m, it :: items => (m.item floor slot it).2 = .nothing ∧ QuietOn floor slot (m.item floor slot it).1 items

/-- A measurer after a series of items. -/
def measurerAfter (floor : Nat) (slot : Fin 8) (items : List Item) (m : Measurer) : Measurer :=
  items.foldl (fun m it => (m.item floor slot it).1) m

theorem quietOn_sets {floor : Nat} {slot : Fin 8} {sets : List SampleSet} {m : Measurer} (h : Calm sets.length m) :
    QuietOn floor slot m (sets.map .set) := by
  induction sets generalizing m with
  | nil => trivial
  | cons ss sets ih =>
    obtain ⟨h1, h2⟩ := takes_calm h floor (ss.slot? slot)
    exact ⟨h1, ih h2⟩

/-- The items of a frame that realigns its source. -/
def realignItems (sets : List SampleSet) : List Item := .realign :: sets.map .set

theorem quietOn_realignItems {floor : Nat} {slot : Fin 8} {sets : List SampleSet} (h : sets.length ≤ 9)
    (m : Measurer) : QuietOn floor slot m (realignItems sets) := by
  refine ⟨rfl, ?_⟩
  have hm : (m.item floor slot .realign).1 = sought m := toSeeking_eq m
  rw [hm]
  exact quietOn_sets (sought_calm h m)

theorem measurerAfter_realignItems (floor : Nat) (slot : Fin 8) (sets : List SampleSet) (m : Measurer) :
    measurerAfter floor slot (realignItems sets) m
      = sets.foldl (fun m ss => (m.takes floor (ss.slot? slot)).1) (sought m) := by
  rw [← toSeeking_eq]
  exact List.foldl_map

theorem QuietOn.of_prefix {floor : Nat} {slot : Fin 8} {l l' : List Item} {m : Measurer} (h : QuietOn floor slot m l')
    (hp : l <+: l') : QuietOn floor slot m l := by
  induction l generalizing l' m with
  | nil => trivial
  | cons it l ih =>
    obtain ⟨rest, rfl⟩ := hp
    exact ⟨h.1, ih h.2 (List.prefix_append l rest)⟩

theorem itemTaken_quiet {e : TrackerEntry} {slot : Role → Option (Fin 8)} {r : Role} {p : Fin 8} {tr : Tracker}
    {it : Item} (hs : slot r = some p) (hq : ((tr.measurer r).item e.floor p it).2 = .nothing) :
    itemTaken e slot tr (r, it) = tr.setMeasurer r ((tr.measurer r).item e.floor p it).1 := by
  have hsome : (slot r).isSome = true := by rw [hs]; rfl
  cases it with
  | start => exact (if_pos hsome).trans (by rw [← toSeeking_eq]; rfl)
  | realign => exact (if_pos hsome).trans (by rw [← toSeeking_eq]; rfl)
  | loss => exact (setMeasurer_self tr r).symm
  | set ss =>
    change trackerTakes e slot tr (r, ss) = tr.setMeasurer r ((tr.measurer r).takes e.floor (ss.slot? p)).1
    replace hq : ((tr.measurer r).takes e.floor (ss.slot? p)).2 = .nothing := hq
    simp only [trackerTakes, hs, hq]

theorem setMeasurer_measurer (tr : Tracker) (r r' : Role) (m : Measurer) :
    (tr.setMeasurer r m).measurer r' = if r' = r then m else tr.measurer r' := by
  cases r <;> cases r' <;> rfl

theorem withMeasurers_setMeasurer (f : Role → Measurer) (tr : Tracker) (r : Role) (m : Measurer) :
    withMeasurers f (tr.setMeasurer r m) = withMeasurers f tr := by
  cases r <;> rfl

/-- The items of one measurer in the order in which a tracker's measurers take theirs. -/
def itemsOf (r : Role) (l : List (Role × Item)) : List Item :=
  (l.filter fun x => decide (x.1 = r)).map Prod.snd

theorem itemsOf_cons (r r' : Role) (it : Item) (l : List (Role × Item)) :
    itemsOf r ((r', it) :: l) = if r' = r then it :: itemsOf r l else itemsOf r l := by
  unfold itemsOf
  by_cases h : r' = r
  · rw [if_pos h, List.filter_cons_of_pos (by simpa using h)]
    rfl
  · rw [if_neg h, List.filter_cons_of_neg (by simpa using h)]

/-- R38, R39: where no measurement completes, no tracker acts, and each measurer takes its own items. -/
theorem foldl_itemTaken_quiet {e : TrackerEntry} {slot : Role → Option (Fin 8)} (l : List (Role × Item))
    (tr : Tracker) (h : ∀ r p, slot r = some p → QuietOn e.floor p (tr.measurer r) (itemsOf r l)) :
    l.foldl (itemTaken e slot) tr = withMeasurers (fun r =>
      (slot r).elim (tr.measurer r) fun p => measurerAfter e.floor p (itemsOf r l) (tr.measurer r)) tr := by
  induction l generalizing tr with
  | nil =>
    have hm : (fun r => (slot r).elim (tr.measurer r)
        fun p => measurerAfter e.floor p (itemsOf r []) (tr.measurer r)) = tr.measurer := by
      funext r
      cases slot r <;> rfl
    rw [hm]
    rfl
  | cons x l ih =>
    obtain ⟨r, it⟩ := x
    cases hs : slot r with
    | none =>
      have hr : ∀ {r' p}, slot r' = some p → r ≠ r' := fun hp e => by
        rw [← e, hs] at hp
        cases hp
      rw [List.foldl_cons, itemTaken_none hs, ih tr fun r' p hp => by
        have := h r' p hp
        rwa [itemsOf_cons, if_neg (hr hp)] at this]
      congr 1
      funext r'
      cases hp : slot r' with
      | none => rfl
      | some p => rw [itemsOf_cons, if_neg (hr hp)]
    | some p =>
      have hq := h r p hs
      rw [itemsOf_cons, if_pos rfl] at hq
      rw [List.foldl_cons, itemTaken_quiet hs hq.1, ih _ fun r' p' hp => by
        rw [setMeasurer_measurer]
        by_cases hr : r' = r
        · subst hr
          obtain rfl := Option.some.inj (hs.symm.trans hp)
          rw [if_pos rfl]
          exact hq.2
        · have := h r' p' hp
          rw [itemsOf_cons, if_neg (Ne.symm hr)] at this
          rwa [if_neg hr], withMeasurers_setMeasurer]
      congr 1
      funext r'
      rw [setMeasurer_measurer]
      by_cases hr : r' = r
      · subst hr
        rw [itemsOf_cons, if_pos rfl, if_pos rfl, hs]
        rfl
      · rw [itemsOf_cons, if_neg (Ne.symm hr), if_neg hr]

end Sys2Proof.Machine

namespace Sys2Proof.Machine
open Sys2Proof.Claims

/-! ### A delivery that realigns its source -/

/-- The happenings of a frame that realigns its source, as its consumers receive them. -/
structure DeliversRealign (src : Fin 8) (sets : List SampleSet) (s : State) (l : List (Consumer × Item)) : Prop where
  untracked : ∀ x ∈ l, x.1.tracker? = none
  measurers : ∀ i r, itemsOf r (l.filterMap (measurerPart i))
    = if (s.referenceSlot i r src).isSome then realignItems sets else []
  channels : ∀ c : Fin 16, (l.filter fun x => decide (x.1 = .channel c)).map Prod.snd
    = if s.active c = true ∧ s.tables.channels[c].source = src then realignItems sets else []
  capture : l.filterMap capturePart
    = if (s.capture.state = .armed ∨ s.capture.state = .post) ∧ s.capture.source = src
      then realignItems sets else []

theorem happenings_realign (src : Fin 8) (sets : List SampleSet) (s : State) :
    DeliversRealign src sets s (happenings s src (realignItems sets)) where
  untracked x hx := (mem_happenings s src _ hx).1
  measurers i r := measurersOrder_filter s src _ i r
  channels c := by
    rw [happenings_items (by simp)]
    exact if_congr mem_setConsumers_channel rfl rfl
  capture := by
    rw [filterMap_capturePart, happenings_items (by simp)]
    exact if_congr mem_setConsumers_capture rfl rfl

section
variable {src : Fin 8} {sets : List SampleSet} {s : State} {l : List (Consumer × Item)}
  (hd : DeliversRealign src sets s l) (hn : sets.length ≤ 9)
include hd hn

/-- R39, R42: along such a delivery no tracker acts. -/
theorem DeliversRealign.tracker_prefix {pre : List (Consumer × Item)} (hp : pre <+: l) (i : Fin 2) :
    (delivered src pre s).trackers[i] = withMeasurers (fun r => (s.referenceSlot i r src).elim
      (s.trackers[i].measurer r) fun p => measurerAfter s.tables.trackers[i].floor p
        (itemsOf r (pre.filterMap (measurerPart i))) (s.trackers[i].measurer r)) s.trackers[i] := by
  rw [delivered_tracker fun x hx => hd.untracked x (hp.subset hx)]
  refine foldl_itemTaken_quiet _ _ fun r p hr => ?_
  have hpre : itemsOf r (pre.filterMap (measurerPart i)) <+: itemsOf r (l.filterMap (measurerPart i)) :=
    ((hp.filterMap _).filter _).map _
  rw [hd.measurers, if_pos (by rw [hr]; rfl)] at hpre
  exact (quietOn_realignItems hn _).of_prefix hpre

theorem DeliversRealign.steer {pre : List (Consumer × Item)} (hp : pre <+: l) (i : Fin 2) :
    SameSteer (delivered src pre s).trackers[i] s.trackers[i] := by
  rw [hd.tracker_prefix hn hp]
  exact ⟨rfl, rfl, rfl⟩

/-- R39: each measurer that reads the source seeks anew and takes the sets. -/
theorem DeliversRealign.trackers : (delivered src l s).trackers = Vector.ofFn (fun i => withMeasurers (fun r =>
    match s.referenceSlot i r src with
    | some slot => sets.foldl (fun m ss => (m.takes s.tables.trackers[i].floor (ss.slot? slot)).1)
        (sought (s.trackers[i].measurer r))
    | none => s.trackers[i].measurer r) s.trackers[i]) := by
  refine eq_ofFn fun i => ?_
  rw [hd.tracker_prefix hn (List.prefix_refl l)]
  congr 1
  funext r
  rw [hd.measurers]
  cases s.referenceSlot i r src with
  | none => rfl
  | some p => exact measurerAfter_realignItems _ _ _ _

end

end Sys2Proof.Machine

namespace Sys2Proof.Machine
open Sys2Proof.Claims

/-! ### The channels at a realign (R57, R60, R66) -/

section
variable {slot : Fin 8} {u : ChannelUnit} {w : Window}

theorem advance_filling (h : u.ctx0 = .filling w) (v : SlotValue) (test : Bool) (hw : w.count + 1 < w.len) :
    (u.advance v test).unit = { u with ctx0 := .filling (w.add v test) } := by
  obtain ⟨hl, hc⟩ := window_add_len w v test
  unfold ChannelUnit.advance
  rw [h]
  dsimp only
  rw [hl, hc, if_neg (by omega)]

/-- R60, R63: a window of the first context takes sets that do not complete it. -/
theorem unitTakes_filling {l : List (Tracker × SampleSet)} (h : u.ctx0 = .filling w)
    (hs : ∀ x ∈ l, (x.2.slot? slot).isSome = true) (hw : w.count + l.length < w.len) :
    (unitTakes slot u l).1 = { u with ctx0 := .filling (windowTakes slot (l.map Prod.snd) w) } := by
  induction l generalizing u w with
  | nil =>
    change u = { u with ctx0 := .filling w }
    rw [← h]
  | cons x l ih =>
    obtain ⟨tr, ss⟩ := x
    rw [List.length_cons] at hw
    obtain ⟨v, hv⟩ := Option.isSome_iff_exists.mp (hs _ List.mem_cons_self)
    obtain ⟨hl, hc⟩ := window_add_len w v ss.test
    have hopen : u.openIfNone (u.opened tr ss.stamp) = u := if_pos (by rw [h]; rfl)
    have hstep : (setStep slot tr ss u).unit = { u with ctx0 := .filling (w.add v ss.test) } := by
      rw [setStep_some hv, hopen, advance_filling h v ss.test (by omega)]
    rw [unitTakes_cons, hstep, ih rfl (fun x hx => hs x (List.mem_cons_of_mem _ hx)) (by omega), List.map_cons,
      windowTakes_cons hv]

/-- R57, R60: a channel unit without windows opens one on the first of a series of sets and fills it with them. -/
theorem unitTakes_freed {tr : Tracker} {ss : SampleSet} {l : List (Tracker × SampleSet)} {tr' : Tracker}
    (ht : SameSteer tr tr') (hr : InRange tr') (hs : ∀ x ∈ (tr, ss) :: l, (x.2.slot? slot).isSome = true)
    (hl : l.length + 1 < 2415) :
    (unitTakes slot (contextsFreed u) ((tr, ss) :: l)).1 = { u with
      ctx0 := .filling (windowTakes slot (ss :: l.map Prod.snd) (u.opened tr' ss.stamp))
      ctx1 := .free, seqNext := (u.seqNext + 1) % 65536 } := by
  obtain ⟨v, hv⟩ := Option.isSome_iff_exists.mp (hs _ List.mem_cons_self)
  have hlen := opened_len hr u ss.stamp
  have hcount : (u.opened tr' ss.stamp).count = 0 := rfl
  have hopen : (contextsFreed u).openIfNone ((contextsFreed u).opened tr ss.stamp) = { u with
      ctx0 := .filling (u.opened tr' ss.stamp), ctx1 := .free, seqNext := (u.seqNext + 1) % 65536 } := by
    rw [opened_congr ht]
    rfl
  have hone := unitTakes_filling (slot := slot) (l := (tr, ss) :: l) (w := u.opened tr' ss.stamp)
    (u := { u with ctx0 := .filling (u.opened tr' ss.stamp), ctx1 := .free, seqNext := (u.seqNext + 1) % 65536 })
    rfl hs (by rw [List.length_cons]; omega)
  rw [List.map_cons] at hone
  have hstep : setStep slot tr ss (contextsFreed u) = setStep slot tr ss { u with
      ctx0 := .filling (u.opened tr' ss.stamp), ctx1 := .free, seqNext := (u.seqNext + 1) % 65536 } := by
    rw [setStep_some hv, setStep_some hv, hopen]
    rfl
  rw [unitTakes_cons, hstep, ← hone, unitTakes_cons]

end

section
variable {src : Fin 8} {sets : List SampleSet} {s : State} {l : List (Consumer × Item)}
  (hd : DeliversRealign src sets s l) {c : Fin 16}
include hd

theorem DeliversRealign.heard_nil (hc : ¬ ReadsSource src s c) : heard src c l s = [] :=
  List.map_eq_nil_iff.mp (heard_items.trans ((hd.channels c).trans (if_neg hc)))

/-- R66: a channel that reads the source hears the realign notice and then the sets. -/
theorem DeliversRealign.heard_reads (hc : ReadsSource src s c) : ∃ tr rest,
    heard src c l s = (tr, .realign) :: rest ∧ rest.map Prod.snd = sets.map Item.set := by
  have h : (heard src c l s).map Prod.snd = realignItems sets :=
    heard_items.trans ((hd.channels c).trans (if_pos hc))
  obtain ⟨⟨tr, it⟩, rest, he, hit, hrest⟩ := List.map_eq_cons_iff.mp h
  obtain rfl : it = .realign := hit
  exact ⟨tr, rest, he, hrest⟩

theorem DeliversRealign.setsHeard_reads (hc : ReadsSource src s c) :
    (setsHeard src c l s).map Prod.snd = sets := by
  unfold setsHeard
  rw [filterMap_heardSet, heard_items, (hd.channels c).trans (if_pos hc)]
  change (sets.map Item.set).filterMap Item.set? = sets
  exact takenItems_sets false sets

theorem DeliversRealign.setCount_le (c : Fin 16) : setCount c l ≤ sets.length := by
  rw [← setsHeard_length (src := src) (s := s)]
  by_cases hc : ReadsSource src s c
  · rw [← List.length_map (f := Prod.snd), hd.setsHeard_reads hc]
  · unfold setsHeard
    rw [hd.heard_nil hc]
    exact Nat.zero_le _

variable (hn : sets.length ≤ 9) (ht : ∀ i : Fin 2, InRange s.trackers[i])
include hn ht

theorem DeliversRealign.unclosed : Unclosed src l s := by
  refine unclosed_of_open hd.untracked ht (fun c => by have := hd.setCount_le c; omega) fun c hpos => .inr ?_
  have hc : ReadsSource src s c := by
    by_contra hno
    have h := setsHeard_length (src := src) (s := s) (c := c) (l := l)
    unfold setsHeard at h
    rw [hd.heard_nil hno] at h
    rw [← h] at hpos
    cases hpos
  exact ⟨sets.map Item.set, (hd.channels c).trans (if_pos hc)⟩

/-- R66, R67: the windows of a channel that reads the source end, and are counted; no window closes or is
missed. -/
theorem DeliversRealign.unit (hc : ReadsSource src s c) : unitOf c (delivered src l s)
    = (if s.opState = .analysing then
        (unitTakes s.tables.channels[c].slot (contextsFreed s.channels[c]) (setsHeard src c l s)).1
      else contextsFreed s.channels[c], abandonedCounted s.channels[c].held s.counters.channels[c]) := by
  obtain ⟨tr, rest, he, hrest⟩ := hd.heard_reads hc
  have htaken : ∀ y ∈ rest, y.2.isTaken = true := fun y hy => by
    have hm : y.2 ∈ rest.map Prod.snd := List.mem_map_of_mem hy
    rw [hrest] at hm
    obtain ⟨ss, _, hss⟩ := List.mem_map.mp hm
    rw [← hss]
    rfl
  have hsets : setsHeard src c l s = rest.filterMap heardSet := by
    unfold setsHeard
    rw [he]
    rfl
  rw [(delivered_unit hd.untracked (.inr (hd.unclosed hn ht))).2 c, he, List.foldl_cons]
  change rest.foldl _ (contextsFreed s.channels[c], abandonedCounted s.channels[c].held s.counters.channels[c]) = _
  by_cases ha : s.opState = .analysing
  · rw [ha, foldl_unitItem_sets _ htaken, if_pos rfl, ← hsets]
    have hlen : (setsHeard src c l s).length = sets.length := by
      rw [← hd.setsHeard_reads hc, List.length_map]
    rw [(unitTakes_open (n := 0) (by omega) (fun x hx => trackerOf_inRange hd.untracked ht hx)
      (unitOpen_freed _ s.channels[c])).1]
    rfl
  · rw [foldl_unitItem_idle ha _ htaken, if_neg ha]

omit ht in
theorem DeliversRealign.heard_steer {y : Tracker × SampleSet} (hy : y ∈ setsHeard src c l s) :
    SameSteer y.1 (s.trackerOf c) := by
  obtain ⟨z, hz, hs⟩ := List.mem_filterMap.mp hy
  have hzy : y.1 = z.1 := by
    unfold heardSet at hs
    split at hs
    · exact (congrArg Prod.fst (Option.some.inj hs)).symm
    · cases hs
  obtain ⟨pre, hp, e⟩ := mem_heard hz
  have hg := groupOf_of_tables (delivered_apart src pre s).tables c
  have ht : (delivered src pre s).trackerOf c = (delivered src pre s).trackers[(s.groupOf c).tracker] :=
    congrArg (fun g : GroupEntry => (delivered src pre s).trackers[g.tracker]) hg
  rw [hzy, e, ht]
  exact hd.steer hn hp _

/-- R57, R60: in ANALYSING a new window has taken the sets. -/
theorem DeliversRealign.window {ss : SampleSet} {more : List SampleSet} (hss : sets = ss :: more)
    (hc : ReadsSource src s c)
    (hslot : ∀ ss ∈ sets, (ss.slot? s.tables.channels[c].slot).isSome = true) :
    (unitTakes s.tables.channels[c].slot (contextsFreed s.channels[c]) (setsHeard src c l s)).1
      = { s.channels[c] with
        ctx0 := .filling (windowTakes s.tables.channels[c].slot sets
          (s.channels[c].opened (s.trackerOf c) ss.stamp))
        ctx1 := .free, seqNext := (s.channels[c].seqNext + 1) % 65536 } := by
  have hm := hd.setsHeard_reads hc
  rw [hss] at hm
  obtain ⟨⟨tr, ss'⟩, rest, he, hss', hrest⟩ := List.map_eq_cons_iff.mp hm
  obtain rfl : ss' = ss := hss'
  have hsome : ∀ x ∈ (tr, ss') :: rest, (x.2.slot? s.tables.channels[c].slot).isSome = true := fun x hx => by
    refine hslot _ ?_
    rw [← hd.setsHeard_reads hc, he]
    exact List.mem_map_of_mem hx
  have hlen : rest.length + 1 ≤ 9 := by
    rw [hss, List.length_cons, ← hrest, List.length_map] at hn
    exact hn
  have hsteer : SameSteer tr (s.trackerOf c) := hd.heard_steer hn (y := (tr, ss')) (he ▸ List.mem_cons_self)
  rw [he, unitTakes_freed hsteer (ht _) hsome (by omega), hss, hrest]

/-- R15, R18, R39, R57, R66, R67: what a delivery that realigns its source makes of trackers and channels. -/
theorem DeliversRealign.realignTaken {ss : SampleSet} {more : List SampleSet} (hss : sets = ss :: more)
    (hslot : ∀ c : Fin 16, ReadsSource src s c →
      s.tables.channels[c].slot.val < s.tables.sources[src].channelCount →
      ∀ ss ∈ sets, (ss.slot? s.tables.channels[c].slot).isSome = true) :
    RealignTaken src sets ss.stamp s (delivered src l s) := by
  obtain ⟨hstands, hunits⟩ := delivered_unit hd.untracked (.inr (hd.unclosed hn ht))
  refine ⟨hd.trackers hn, fun c => ?_, hstands⟩
  dsimp only
  by_cases hc : ReadsSource src s c
  · have hu := hd.unit hn ht hc
    have h1 : (delivered src l s).channels[c] = _ := congrArg Prod.fst hu
    have h2 : (delivered src l s).counters.channels[c] = _ := congrArg Prod.snd hu
    refine (if_pos hc).mpr ⟨h2, fun ha => h1.trans (if_neg ha), fun ha hlt => ?_⟩
    rw [h1]
    exact (if_pos ha).trans (hd.window hn ht hss hc (hslot c hc hlt))
  · refine (if_neg hc).mpr ?_
    have hu := hunits c
    rw [hd.heard_nil hc] at hu
    exact ⟨congrArg Prod.fst hu, congrArg Prod.snd hu⟩

end

end Sys2Proof.Machine

namespace Sys2Proof.Machine
open Sys2Proof.Claims

/-! ### Triggers that a frame meets (R137, R138, R140) -/

theorem reply_elsewhere (c : CommandFrame) (st : Status) (res : List Byte) (s : State) :
    (reply c st res s).capture = s.capture ∧ (reply c st res s).engine = s.engine
      ∧ (reply c st res s).command = { s.command with queue := s.command.queue.tail, requested := false } := by
  obtain ⟨o, r, h⟩ := replyWith_frame false c st res s
  unfold reply
  rw [h]
  cases c.line <;> exact ⟨rfl, rfl, rfl⟩

/-- The reply to a command whose line is sending waits at the tail of the line's replies. -/
theorem reply_waits {c : CommandFrame} {s : State} (st : Status) (res : List Byte)
    (h : (s.out c.line).sending.isSome = true) : ((reply c st res s).out c.line).sending = (s.out c.line).sending
      ∧ ((reply c st res s).out c.line).replies
        = (s.out c.line).replies ++ [{ frame := s.replyFrame c st res, restart := false }] := by
  obtain ⟨line, src, bytes⟩ := c
  unfold reply replyWith
  dsimp only at h ⊢
  cases line <;> (rw [kick_busy (by exact h)]; exact ⟨rfl, rfl⟩)

theorem arbitrate_capture (s : State) : (arbitrate s).capture = s.capture := (arbitrate_trackers s).2

theorem holds_eq (t : TriggerClasses) : (fun e : AlertEntry => t.holds e.cls) = isTriggerClass t := by
  funext e
  unfold TriggerClasses.holds isTriggerClass
  cases e.cls <;> rfl

/-- R137: what the alert entries of a completion do to the capture unit. -/
theorem triggerByAlert_capture (c : Fin 16) (seq : Nat) (entries : List AlertEntry) (s : State) :
    (triggerByAlert c seq entries s).capture = (alertTrigger c seq entries s).elim s.capture
      fun cause => s.capture.trigger cause s.localTime := by
  unfold triggerByAlert alertTrigger
  rw [holds_eq]
  split
  · cases entries.find? (isTriggerClass s.capture.settings.classes) <;> rfl
  · rfl

/-- R83, R137: a completion reaches the capture unit with its alert entries alone, and in ANALYSING alone. -/
theorem completeEvaluation_capture (c : Fin 16) (w : Window) (s : State) :
    (completeEvaluation c w s).capture =
      if s.opState = .analysing then (alertTrigger c w.seq (s.evalInput c w).alertEntries s).elim s.capture
        fun cause => s.capture.trigger cause s.localTime
      else s.capture := by
  obtain ⟨_, _, _, _, _, _, h⟩ := offerAll_reports
    (({ s with checks := putAt s.checks c (s.evalInput c w).checksAfter } : State).evalRecords (s.evalInput c w))
    { s with checks := putAt s.checks c (s.evalInput c w).checksAfter }
  unfold completeEvaluation
  dsimp only
  rw [h]
  unfold engineRelease
  rw [arbitrate_capture]
  by_cases ha : s.opState = .analysing
  · simp only [countEvaluation, onChannelCounters, ha, if_true]
    exact triggerByAlert_capture c w.seq _ _
  · simp only [countEvaluation, onChannelCounters, ha, if_false]

/-- R138, R140: a trigger of a command. -/
theorem triggerAnswered_capture (c : CommandFrame) (s : State) :
    (triggerAnswered c s).capture = s.capture.trigger (.command (commandTag c.bytes)) s.localTime := by
  unfold triggerAnswered
  split
  · next h =>
    rw [(reply_elsewhere _ _ _ _).1]
    unfold CaptureUnit.trigger
    rw [h]
  · rw [(reply_elsewhere _ _ _ _).1]
    rfl

/-- R137, R140: a trigger met reaches the capture unit as one trigger, or not at all. -/
theorem takeTrigger_capture (t : MetTrigger) (s : State) : (takeTrigger t s).capture = s.capture
    ∨ ∃ cause, (takeTrigger t s).capture = s.capture.trigger cause s.localTime := by
  cases t with
  | command =>
    change (triggerCommand s).capture = _ ∨ ∃ cause, (triggerCommand s).capture = _
    obtain h | ⟨c, rest, _, _, _, ⟨_, h⟩ | ⟨_, _, h⟩ | ⟨p, _, _, h⟩⟩ :=
      command_cases 0x51 parseNone (fun () c s => triggerAnswered c s) s
    · exact .inl (congrArg State.capture h)
    · exact .inl ((congrArg State.capture h).trans (reply_elsewhere _ _ _ _).1)
    · exact .inl ((congrArg State.capture h).trans (reply_elsewhere _ _ _ _).1)
    · exact .inr ⟨_, (congrArg State.capture h).trans (triggerAnswered_capture c s)⟩
  | evaluation =>
    change (evaluates s).capture = _ ∨ ∃ cause, (evaluates s).capture = _
    unfold evaluates
    split
    · next c w _ =>
      rw [completeEvaluation_capture]
      split
      · cases alertTrigger c w.seq (s.evalInput c w).alertEntries s with
        | none => exact .inl rfl
        | some cause => exact .inr ⟨cause, rfl⟩
      · exact .inl rfl
    · exact .inl rfl
    · exact .inl rfl

/-- Whether a capture is under way or held: a trigger is then missed (R140). -/
def CaptureUnit.missesTriggers (u : CaptureUnit) : Prop := u.state = .post ∨ u.state = .held

theorem trigger_missed {u : CaptureUnit} (h : u.missesTriggers) (cause : CaptureCause) (time : BitVec 32) :
    u.trigger cause time = { u with missed := min 255 (u.missed + 1) } := by
  unfold CaptureUnit.trigger
  obtain h | h := h <;> rw [h] <;> rfl

/-- R140: triggers that meet a capture under way or held are missed, each counted at most once. -/
theorem takeTriggers_missed (l : List MetTrigger) {s : State} (h : s.capture.missesTriggers) :
    ∃ n ≤ s.capture.missed + l.length, (takeTriggers l s).capture = { s.capture with missed := n } := by
  induction l generalizing s with
  | nil => exact ⟨s.capture.missed, le_refl _, rfl⟩
  | cons t l ih =>
    change ∃ n ≤ _, (takeTriggers l (takeTrigger t s)).capture = _
    obtain e | ⟨cause, e⟩ := takeTrigger_capture t s
    · obtain ⟨n, hn, hc⟩ := ih (s := takeTrigger t s) (by rw [e]; exact h)
      rw [e] at hn hc
      exact ⟨n, by rw [List.length_cons]; omega, hc⟩
    · rw [trigger_missed h] at e
      obtain ⟨n, hn, hc⟩ := ih (s := takeTrigger t s) (by rw [e]; exact h)
      rw [e] at hn hc
      exact ⟨n, by rw [List.length_cons]; dsimp only at hn; omega, hc⟩

/-- R148, R149: TRIGGER CAPTURE, where it is the command that begins next. -/
theorem triggerCommand_front {s : State} {c : CommandFrame} (hp : s.powered = true)
    (hr : s.command.restart = .none) (hl : s.opState ≠ .loading) (hq : s.command.queue.head? = some c)
    (hc : commandCode c.bytes = some 0x51) (hparams : commandParams c.bytes = []) :
    triggerCommand s = triggerAnswered c s := by
  obtain ⟨rest, hrest⟩ : ∃ rest, s.command.queue = c :: rest := by
    cases h : s.command.queue with
    | nil => rw [h] at hq; cases hq
    | cons x rest => rw [h] at hq; cases hq; exact ⟨rest, rfl⟩
  have he : (s.executes && c.hasCode 0x51) = true := by
    simp [State.executes, CommandFrame.hasCode, hp, hr, hc]
  unfold triggerCommand command onOldest
  rw [hrest]
  dsimp only
  rw [if_pos he]
  unfold screened
  rw [if_neg hl, hparams]
  rfl

/-! ### The capture unit at a realign (R136, R139, R141) -/

theorem foldl_takeSet_held {u : CaptureUnit} (h : u.state = .held) (sets : List SampleSet) :
    sets.foldl CaptureUnit.takeSet u = u := by
  induction sets with
  | nil => rfl
  | cons ss sets ih =>
    have hs : u.takeSet ss = u := by
      unfold CaptureUnit.takeSet
      rw [h]
    rw [List.foldl_cons, hs, ih]

/-- R136, R139: a ring or a capture with room takes the sets to its end. -/
theorem foldl_takeSet_room {u : CaptureUnit} (h : u.state = .armed ∨ u.state = .post) {sets : List SampleSet}
    (hlen : u.buffer.length + sets.length < 4096) :
    sets.foldl CaptureUnit.takeSet u = { u with buffer := u.buffer ++ sets } := by
  induction sets generalizing u with
  | nil => simp
  | cons ss sets ih =>
    rw [List.length_cons] at hlen
    have hs : u.takeSet ss = { u with buffer := u.buffer ++ [ss] } := by
      unfold CaptureUnit.takeSet ringWrite Config.captureSets
      obtain h | h := h <;> rw [h] <;> dsimp only
      · rw [if_pos (by omega)]
      · rw [if_neg (by rw [List.length_append, List.length_singleton]; omega)]
    rw [List.foldl_cons, hs, ih (u := { u with buffer := u.buffer ++ [ss] }) h (by
      rw [List.length_append, List.length_singleton]; omega)]
    simp

theorem runBroken_armed {u : CaptureUnit} (h : u.state = .armed) : runBroken u = { u with buffer := [] } := by
  unfold runBroken
  rw [h]

theorem runBroken_post {u : CaptureUnit} (h : u.state = .post) :
    (runBroken u).state = .held ∧ (runBroken u).missed = u.missed := by
  unfold runBroken
  rw [h]
  exact ⟨rfl, rfl⟩

/-- R136, R141: what a realign leaves of the capture unit that takes part, where no trigger comes between. -/
theorem runBroken_takes {u : CaptureUnit} (h : u.state = .armed ∨ u.state = .post) {sets : List SampleSet}
    (hlen : sets.length < 4096) : sets.foldl CaptureUnit.takeSet (runBroken u)
      = if u.state = .armed then { u with buffer := sets } else runBroken u := by
  obtain h | h := h
  · have hr := foldl_takeSet_room (u := { u with buffer := [] }) (.inl h) (sets := sets) (by simpa using hlen)
    rw [if_pos h, runBroken_armed h, hr]
    rfl
  · rw [if_neg (by rw [h]; simp), foldl_takeSet_held (runBroken_post h).1]

/-- R138: a capture fired on an empty ring takes the sets after it. -/
theorem fired_takes (cause : CaptureCause) (time : BitVec 32) (u : CaptureUnit) (n : Nat) {sets : List SampleSet}
    (hlen : sets.length < 4096) :
    sets.foldl CaptureUnit.takeSet { captureFired cause time { u with buffer := [] } with missed := n }
      = { captureFired cause time { u with buffer := [] } with buffer := sets, missed := n } := by
  have hb : (captureFired cause time { u with buffer := [] }).buffer = [] := List.drop_nil
  rw [foldl_takeSet_room (.inr rfl) (by dsimp only; rw [hb]; simpa using hlen)]
  dsimp only
  rw [hb]
  rfl

end Sys2Proof.Machine

namespace Sys2Proof.Machine
open Sys2Proof.Claims

/-! ### Replies that wait while a line sends -/

/-- Where line `l` is sending in `s`, it is sending in `t`, and the same replies wait. -/
def RepliesKept (l : Line) (s t : State) : Prop :=
  (s.out l).sending.isSome = true → (t.out l).sending.isSome = true ∧ (t.out l).replies = (s.out l).replies

theorem RepliesKept.trans {l : Line} {s t u : State} (h : RepliesKept l s t) (k : RepliesKept l t u) :
    RepliesKept l s u := fun hb => by
  obtain ⟨h1, h2⟩ := h hb
  obtain ⟨k1, k2⟩ := k h1
  exact ⟨k1, k2.trans h2⟩

theorem RepliesKept.of_lines {s t : State} (ha : t.lineA = s.lineA)
    (hb : s.lineB.sending.isSome = true → t.lineB = s.lineB) (l : Line) : RepliesKept l s t := by
  cases l with
  | a =>
    intro h
    exact ⟨(congrArg (fun o : LineOut => o.sending.isSome) ha).trans h, congrArg LineOut.replies ha⟩
  | b =>
    intro h
    exact ⟨(congrArg (fun o : LineOut => o.sending.isSome) (hb h)).trans h, congrArg LineOut.replies (hb h)⟩

theorem Forwards.repliesKept {s t : State} (h : Forwards s t) (l : Line) : RepliesKept l s t := by
  cases l with
  | a =>
    obtain ⟨⟨_, _, _, _, _, _, _, rfl⟩, _⟩ := h
    exact fun hb => ⟨hb, rfl⟩
  | b => exact h.busy

theorem delivered_lines (src : Fin 8) (l : List (Consumer × Item)) (s : State) :
    (delivered src l s).lineA = s.lineA
      ∧ (s.lineB.sending.isSome = true → (delivered src l s).lineB = s.lineB) := by
  refine ⟨?_, (delivered_talks (a := False) src l s).lineB_busy fun _ _ h => h.beside.lineB⟩
  obtain ⟨_, _, _, _, _, _, _, _, _, _, _, h⟩ := delivered_delivers src l s
  rw [h]

/-! ### What a realign meets (R141, log 41) -/

section
variable {met : State → State} {src : Fin 8}

theorem consumeMeeting_other {x : Consumer × Item} (h : x ≠ (.capture, .realign)) (s : State) :
    consumeMeeting met src x s = consume src x.2 x.1 s := by
  unfold consumeMeeting
  split
  · exact absurd rfl h
  · rfl

theorem foldl_consumeMeeting {l : List (Consumer × Item)} (h : (.capture, .realign) ∉ l) (s : State) :
    l.foldl (fun s x => consumeMeeting met src x s) s = delivered src l s := by
  induction l generalizing s with
  | nil => rfl
  | cons x l ih =>
    have hx : x ≠ (.capture, .realign) := fun e => h (e ▸ List.mem_cons_self)
    rw [List.foldl_cons, consumeMeeting_other hx, ih fun hm => h (List.mem_cons_of_mem _ hm)]
    rfl

/-- The state in which a realign's triggers are met: its notice has reached the capture unit, and the happenings
`pre` came before. -/
def atMeeting (src : Fin 8) (pre : List (Consumer × Item)) (s : State) : State :=
  consume src .realign .capture (delivered src pre s)

/-- R18, R141: a delivery that realigns the source of the capture unit, around what the frame meets. -/
theorem deliver_realign_meeting (met : State → State) {sets : List SampleSet} {s : State}
    (h : (s.capture.state = .armed ∨ s.capture.state = .post) ∧ s.capture.source = src) :
    ∃ ts pre post, (∀ x ∈ pre ++ post, x.1.tracker? = none) ∧ pre.filterMap capturePart = []
      ∧ post.filterMap capturePart = sets.map Item.set
      ∧ deliver met src (realignItems sets) s
        = delivered src post (met (atMeeting src pre { s with ties := ts })) := by
  have hd := happenings_realign src sets s
  obtain ⟨pre, x, post, hl, hpre, hx, hpost⟩ := List.filterMap_eq_cons_iff.mp (hd.capture.trans (if_pos h))
  have hxe : x = (.capture, .realign) := by
    obtain ⟨who, it⟩ := x
    cases who with
    | capture => exact congrArg (Prod.mk Consumer.capture) (Option.some.inj hx)
    | _ => cases hx
  subst hxe
  refine ⟨(s.delivery src (realignItems sets)).2, pre, post, fun x hx => hd.untracked x ?_,
    List.filterMap_eq_nil_iff.mpr hpre, hpost, ?_⟩
  · rw [hl]
    rw [List.mem_append] at hx ⊢
    exact hx.imp_right (List.mem_cons_of_mem _)
  · have hnpre : (.capture, .realign) ∉ pre := fun hm => by
      have := hpre _ hm
      cases this
    have hnpost : (.capture, .realign) ∉ post := fun hm => by
      have hr : Item.realign ∈ post.filterMap capturePart := List.mem_filterMap.mpr ⟨_, hm, rfl⟩
      rw [hpost] at hr
      obtain ⟨ss, _, hss⟩ := List.mem_map.mp hr
      cases hss
    unfold deliver
    change (happenings s src (realignItems sets)).foldl _ _ = _
    rw [hl, List.foldl_append, List.foldl_cons, foldl_consumeMeeting hnpre, foldl_consumeMeeting hnpost]
    rfl

end

end Sys2Proof.Machine

namespace Sys2Proof.Machine
open Sys2Proof.Claims

/-! ### The capture unit around a realign's meeting -/

/-- What a frame comes to around what its realign meets: `v` is the state met, `w` the one after the sets. -/
structure RealignMeets (sets : List SampleSet) (met : State → State) (s v w : State) : Prop where
  capture : v.capture = runBroken s.capture
  powered : v.powered = s.powered
  opState : v.opState = s.opState
  ground : Ground s v
  command : v.command = s.command
  checks : v.checks = s.checks
  engine : s.engine ≠ .idle → v.engine = s.engine
  before : ∀ l, RepliesKept l s v
  taken : w.capture = sets.foldl CaptureUnit.takeSet (met v).capture
  answered : w.command = (met v).command
  after : ∀ l, RepliesKept l (met v) w

theorem Apart.ground {s t : State} (h : Apart s t) : Ground s t :=
  ⟨h.tables, h.localTime, h.station, h.streamType⟩

theorem delivered_command (src : Fin 8) (l : List (Consumer × Item)) (s : State) :
    (delivered src l s).command = s.command ∧ (delivered src l s).checks = s.checks := by
  obtain ⟨_, _, _, _, _, _, _, _, _, _, _, h⟩ := delivered_delivers src l s
  rw [h]
  exact ⟨rfl, rfl⟩

/-- R18, R136, R139, R141: the meeting of a delivery that realigns the source of the capture unit. -/
theorem realign_meets (met : State → State) {src : Fin 8} {sets : List SampleSet} {s : State}
    (h : (s.capture.state = .armed ∨ s.capture.state = .post) ∧ s.capture.source = src) :
    ∃ v, RealignMeets sets met s v (deliver met src (realignItems sets) s) := by
  obtain ⟨ts, pre, post, hl, hpre, hpost, e⟩ := deliver_realign_meeting met (sets := sets) h
  have hlpre : ∀ x ∈ pre, x.1.tracker? = none := fun x hx => hl x (List.mem_append_left _ hx)
  have hlpost : ∀ x ∈ post, x.1.tracker? = none := fun x hx => hl x (List.mem_append_right _ hx)
  have hc := delivered_capture (src := src) hlpre { s with ties := ts }
  rw [hpre] at hc
  obtain ⟨hcmd, hchk⟩ := delivered_command src pre { s with ties := ts }
  obtain ⟨hA, hB⟩ := delivered_lines src pre { s with ties := ts }
  have ha : Apart s (atMeeting src pre { s with ties := ts }) :=
    (ties_within s ts).apart.trans ((delivered_apart src pre _).trans
      (consume_talks (a := False) src .realign .capture _).apart)
  refine ⟨atMeeting src pre { s with ties := ts }, ?_, ha.powered, ha.opState, ha.ground, hcmd, hchk, fun hi => ?_, .of_lines hA hB, ?_, ?_, ?_⟩
  · rw [← breakRun_eq]
    exact congrArg CaptureUnit.breakRun hc
  · exact (delivered_unit (s := { s with ties := ts }) hlpre (.inl hi)).1.1
  · rw [e, delivered_capture hlpost, hpost, List.foldl_map]
    rfl
  · rw [e]
    exact (delivered_command src post _).1
  · rw [e]
    obtain ⟨hA, hB⟩ := delivered_lines src post (met (atMeeting src pre { s with ties := ts }))
    exact fun l => .of_lines hA hB l

/-- Around it, what the ruling does before and the frame's offer after (R1, R15). -/
theorem RealignMeets.around {sets : List SampleSet} {met : State → State} {s u v w t : State} (hs : Unmoved s u)
    (hl : ∀ l, RepliesKept l s u) (h : RealignMeets sets met u v w) (ht : Forwards w t) :
    RealignMeets sets met s v t := by
  have hcap : t.capture = w.capture ∧ t.command = w.command := by
    obtain ⟨⟨_, _, _, _, _, _, _, rfl⟩, _⟩ := ht
    exact ⟨rfl, rfl⟩
  obtain ⟨_, _, _, _, _, _, _, rfl⟩ := hs
  obtain ⟨h1, h2, h3, h4, h5, h6, h7, h8, h9, h10, h11⟩ := h
  exact ⟨h1, h2, h3, h4, h5, h6, h7, fun l => (hl l).trans (h8 l), hcap.1.trans h9, hcap.2.trans h10,
    fun l => (h11 l).trans (ht.repliesKept l)⟩

section
variable {sets : List SampleSet} {s v w : State} {rest : List MetTrigger}

/-- R136, R141: an ARMED unit meets a realign's triggers with an empty ring. -/
theorem RealignMeets.armed {met : State → State} (h : RealignMeets sets met s v w) (ha : s.capture.state = .armed) :
    v.capture = { s.capture with buffer := [] } := h.capture.trans (runBroken_armed ha)

/-- R138, R140, R141: a trigger that fires on the empty ring, the sets after it, and the triggers missed. -/
theorem RealignMeets.fired {t : MetTrigger} (h : RealignMeets sets (takeTriggers (t :: rest)) s v w)
    (hlen : sets.length < 4096) {cause : CaptureCause} {time : BitVec 32}
    (hf : (takeTrigger t v).capture = captureFired cause time { s.capture with buffer := [] }) :
    ∃ n ≤ rest.length, w.capture
      = { captureFired cause time { s.capture with buffer := [] } with buffer := sets, missed := n } := by
  obtain ⟨n, hn, hc⟩ := takeTriggers_missed rest (s := takeTrigger t v) (by rw [hf]; exact .inl rfl)
  have hm : (captureFired cause time { s.capture with buffer := [] }).missed = 0 := rfl
  rw [hf, hm, Nat.zero_add] at hn
  rw [hf] at hc
  refine ⟨n, hn, ?_⟩
  rw [h.taken]
  change sets.foldl _ (takeTriggers rest (takeTrigger t v)).capture = _
  rw [hc]
  exact fired_takes cause time s.capture n hlen

/-- R140, R141: a capture in POST ends, and the triggers met after it are missed. -/
theorem RealignMeets.broken {l : List MetTrigger} (h : RealignMeets sets (takeTriggers l) s v w)
    (hp : s.capture.state = .post) :
    ∃ n ≤ s.capture.missed + l.length, w.capture = { runBroken s.capture with missed := n } := by
  obtain ⟨hheld, hmissed⟩ := runBroken_post hp
  obtain ⟨n, hn, hc⟩ := takeTriggers_missed l (s := v) (by rw [h.capture]; exact .inr hheld)
  rw [h.capture] at hc hn
  rw [hmissed] at hn
  refine ⟨n, hn, ?_⟩
  rw [h.taken, hc]
  exact foldl_takeSet_held (u := { runBroken s.capture with missed := n }) hheld sets

/-- R138: what the trigger of a command answers on an empty ring in ARMED. -/
theorem triggerAnswered_empty {c : CommandFrame} {u : CaptureUnit} (ha : u.state = .armed)
    (hv : v.capture = { u with buffer := [] }) :
    triggerAnswered c v = reply c .done [0x02#8, 0x00#8, 0x00#8]
      (onCapture (fun u => u.trigger (.command (commandTag c.bytes)) v.localTime) v) := by
  have hres : triggerResult v.capture (v.capture.trigger (.command (commandTag c.bytes)) v.localTime)
      = [0x02#8, 0x00#8, 0x00#8] := by
    rw [hv]
    unfold CaptureUnit.trigger triggerResult
    dsimp only
    rw [ha]
    dsimp only [CaptureUnit.fire]
    rw [List.length_nil, Nat.min_zero]
    rfl
  unfold triggerAnswered
  split
  · next h =>
    rw [hv] at h
    exact absurd (ha.symm.trans h) (by simp)
  · rw [← hres]
    rfl

/-- R137, R138, R141: TRIGGER CAPTURE met by a realign. -/
theorem RealignMeets.command_trigger {c : CommandFrame} (h : RealignMeets sets (takeTriggers (.command :: rest)) s v w)
    (ha : s.capture.state = .armed) (hp : s.powered = true) (hl : s.opState ≠ .loading)
    (hr : s.command.restart = .none) (hq : s.command.queue.head? = some c)
    (hc : commandCode c.bytes = some 0x51) (hparams : commandParams c.bytes = []) :
    takeTrigger .command v = reply c .done [0x02#8, 0x00#8, 0x00#8]
      (onCapture (fun u => u.trigger (.command (commandTag c.bytes)) s.localTime) v) := by
  rw [← h.ground.2.1, ← triggerAnswered_empty ha (h.armed ha)]
  exact triggerCommand_front (h.powered.trans hp) (by rw [h.command]; exact hr)
    (by rw [h.opState]; exact hl) (by rw [h.command]; exact hq) hc hparams

/-- R138: it fires the capture on the empty ring. -/
theorem RealignMeets.command_fired {met : State → State} {c : CommandFrame} (h : RealignMeets sets met s v w)
    (ha : s.capture.state = .armed) (ht : takeTrigger .command v = reply c .done [0x02#8, 0x00#8, 0x00#8]
      (onCapture (fun u => u.trigger (.command (commandTag c.bytes)) s.localTime) v)) :
    (takeTrigger .command v).capture
      = captureFired (.command (commandTag c.bytes)) s.localTime { s.capture with buffer := [] } := by
  rw [ht, (reply_elsewhere _ _ _ _).1]
  change v.capture.trigger _ _ = _
  rw [h.armed ha]
  unfold CaptureUnit.trigger
  dsimp only
  rw [ha]
  rfl

/-- R127, R148: the command leaves the queue, and its reply waits where its line is sending. -/
theorem RealignMeets.command_answered {c : CommandFrame} (h : RealignMeets sets (takeTriggers [.command]) s v w)
    (ht : takeTrigger .command v = reply c .done [0x02#8, 0x00#8, 0x00#8]
      (onCapture (fun u => u.trigger (.command (commandTag c.bytes)) s.localTime) v)) :
    w.command = { s.command with queue := s.command.queue.tail, requested := false }
      ∧ ((s.out c.line).sending.isSome = true → (w.out c.line).replies = (s.out c.line).replies
        ++ [{ frame := s.replyFrame c .done [0x02#8, 0x00#8, 0x00#8], restart := false }]) := by
  have hm : takeTriggers [.command] v = takeTrigger .command v := rfl
  have hout : ∀ f, (onCapture f v).out c.line = v.out c.line := fun f => by cases c.line <;> rfl
  refine ⟨?_, fun hb => ?_⟩
  · rw [h.answered, hm, ht, (reply_elsewhere _ _ _ _).2.2]
    change { v.command with queue := v.command.queue.tail, requested := false } = _
    rw [h.command]
  · obtain ⟨hbv, hrv⟩ := h.before c.line hb
    obtain ⟨hsend, hrep⟩ := reply_waits (c := c)
      (s := onCapture (fun u => u.trigger (.command (commandTag c.bytes)) s.localTime) v)
      .done [0x02#8, 0x00#8, 0x00#8] (by rw [hout]; exact hbv)
    rw [← ht, hout] at hsend hrep
    have hafter := h.after c.line
    rw [hm] at hafter
    rw [(hafter (by rw [hsend]; exact hbv)).2, hrep, hrv]
    have hf : (onCapture (fun u => u.trigger (.command (commandTag c.bytes)) s.localTime) v).replyFrame c .done
        [0x02#8, 0x00#8, 0x00#8] = s.replyFrame c .done [0x02#8, 0x00#8, 0x00#8] := by
      obtain ⟨_, _, hst, htype⟩ := h.ground
      change v.replyFrame c .done [0x02#8, 0x00#8, 0x00#8] = _
      unfold State.replyFrame
      rw [hst, htype]
    rw [hf]

theorem evalInput_congr {s t : State} (ht : t.tables = s.tables) (hc : t.checks = s.checks) (c : Fin 16) (w : Window) :
    t.evalInput c w = s.evalInput c w := by
  unfold State.evalInput
  rw [groupOf_of_tables ht, ht, hc]

theorem alertTrigger_congr {s t : State} (ht : t.tables = s.tables) (hs : t.capture.settings = s.capture.settings)
    (c : Fin 16) (seq : Nat) (es : List AlertEntry) : alertTrigger c seq es t = alertTrigger c seq es s := by
  unfold alertTrigger
  rw [ht, hs]

/-- R83, R137, R138, R141: the completion of an evaluation met by a realign. -/
theorem RealignMeets.evaluation_trigger {c : Fin 16} {win : Window} {cause : CaptureCause}
    (h : RealignMeets sets (takeTriggers (.evaluation :: rest)) s v w) (ha : s.capture.state = .armed)
    (he : s.engine = .evaluating c win) (ho : s.opState = .analysing)
    (hcause : alertTrigger c win.seq (s.evalInput c win).alertEntries s = some cause) :
    (takeTrigger .evaluation v).capture = captureFired cause s.localTime { s.capture with buffer := [] } := by
  have hv := h.armed ha
  have hev : v.engine = .evaluating c win := (h.engine (by rw [he]; simp)).trans he
  have htrig : alertTrigger c win.seq (v.evalInput c win).alertEntries v = some cause := by
    rw [evalInput_congr h.ground.1 h.checks, alertTrigger_congr h.ground.1 (by rw [hv])]
    exact hcause
  change (evaluates v).capture = _
  unfold evaluates
  rw [hev]
  dsimp only
  rw [completeEvaluation_capture, h.opState, if_pos ho, htrig, h.ground.2.1, hv]
  unfold CaptureUnit.trigger
  dsimp only [Option.elim]
  rw [ha]
  rfl

end

end Sys2Proof.Machine

namespace Sys2Proof.Machine
open Sys2Proof.Claims

/-! ### A realign that meets no trigger (R15, R39, R57, R66, R67, R136, R141) -/

theorem frameSets_slots (src : Fin 8) (m : List Byte) (s : State) {slot : Fin 8}
    (h : slot.val < s.tables.sources[src].channelCount) :
    ∀ ss ∈ frameSets src m s, (ss.slot? slot).isSome = true := by
  intro ss hss
  unfold frameSets at hss
  obtain ⟨j, _, rfl⟩ := List.mem_map.mp hss
  unfold SampleSet.slot?
  dsimp only
  rw [List.getElem?_map, List.getElem?_range h]
  rfl

theorem frameSets_length (src : Fin 8) (m : List Byte) (s : State) : (frameSets src m s).length = 4 := rfl

theorem delivered_realign (src : Fin 8) (sets : List SampleSet) (s : State) :
    ∃ l u, Unmoved s u ∧ DeliversRealign src sets u l ∧ deliver id src (realignItems sets) s = delivered src l u := by
  refine ⟨_, _, (ties_forwards s _).unmoved, ?_, deliver_id src _ s⟩
  obtain ⟨h1, h2, h3, h4⟩ := happenings_realign src sets s
  exact ⟨h1, h2, h3, h4⟩

theorem RealignTaken.around {src : Fin 8} {sets : List SampleSet} {stamp : Stamp} {s u v t : State}
    (hs : Unmoved s u) (h : RealignTaken src sets stamp u v) (ht : Unmoved v t) :
    RealignTaken src sets stamp s t := by
  obtain ⟨_, _, _, _, _, _, _, rfl⟩ := hs
  obtain ⟨_, _, _, _, _, _, _, rfl⟩ := ht
  exact h

/-- R136, R141: the capture unit after such a delivery. -/
theorem DeliversRealign.captured {src : Fin 8} {sets : List SampleSet} {s : State} {l : List (Consumer × Item)}
    (hd : DeliversRealign src sets s l) (hlen : sets.length < 4096) :
    (¬ ((s.capture.state = .armed ∨ s.capture.state = .post) ∧ s.capture.source = src) →
        (delivered src l s).capture = s.capture)
      ∧ ((s.capture.state = .armed ∨ s.capture.state = .post) ∧ s.capture.source = src →
        (delivered src l s).capture
          = if s.capture.state = .armed then { s.capture with buffer := sets } else runBroken s.capture) := by
  have hc := delivered_capture (src := src) hd.untracked s
  rw [hd.capture] at hc
  refine ⟨fun h => ?_, fun h => ?_⟩
  · rw [if_neg h] at hc
    exact hc
  · rw [if_pos h] at hc
    rw [hc, ← runBroken_takes h.1 hlen, ← breakRun_eq]
    exact List.foldl_map

/-! ### The clauses of a realign -/

/-- The state in which the items of a frame that realigns its source are delivered. -/
def realigned (src : Fin 8) (m : List Byte) (s : State) : State :=
  beforeDelivery src m (realignReported src m s)

theorem realignAndTake_eq (met : State → State) (src : Fin 8) (m : List Byte) (s : State) :
    realignAndTake met src m s = deliver met src (realignItems (frameSets src m s)) (realigned src m s) := by
  obtain ⟨_, _, _, _, _, _, h⟩ := reportFault_reports .sourceRealign src.val (.number (blockPosition m))
    (onSourceCounters src (fun k => { k with realigns := countUp k.realigns 1 }) s)
  have hf : frameSets src m (realignReported src m s) = frameSets src m s := by
    unfold realignReported
    rw [h]
    rfl
  rw [← hf]
  exact takeFrame_eq met src m [.realign] (realignReported src m s)

theorem realigned_unmoved (src : Fin 8) (m : List Byte) (s : State) : Unmoved s (realigned src m s) :=
  ((onSourceCounters_unmoved src _ s).trans (reportFault_reports _ _ _ _).unmoved).trans
    (beforeDelivery_unmoved src m _)

theorem realigned_repliesKept (src : Fin 8) (m : List Byte) (s : State) (l : Line) :
    RepliesKept l s (realigned src m s) := by
  have hA : (realigned src m s).lineA = s.lineA := by
    obtain ⟨_, _, _, _, _, _, _, h⟩ := realigned_unmoved src m s
    rw [h]
  exact .of_lines hA (fun hb => reportFault_lineB_busy _ _ _
    (s := onSourceCounters src (fun k => { k with realigns := countUp k.realigns 1 }) s) hb) l

section
variable {src : Fin 8} {m : List Byte} {triggers : List MetTrigger} {s u t : State} (hu : Forwards s u)
  (ht : Forwards (realignAndTake (takeTriggers triggers) src m u) t)
include hu ht

/-- R15, R180: the source's record and counters, and the report. -/
theorem realign_ruled :
    t.sources[src] = takenRecord s.tables.sources[src] m s.sources[src]
      ∧ t.counters.sources[src] = clampedCounted (clampedCount s.tables.sources[src] m)
        { s.counters.sources[src] with realigns := raised s.counters.sources[src].realigns 1 }
      ∧ Reported .sourceRealign s t
      ∧ (s.fault.record = none → s.lineB.forward.length < 32 →
        t.fault.record = some { kind := .sourceRealign, subject := src.val
                                detail := .number (blockPosition m), time := s.localTime }) := by
  have hs := SourceBecomes.after_apart hu.apart
    ((realignAndTake_source (takeTriggers_talks triggers) src m u).of_apart ht.apart)
  rw [hu.apart.sources, hu.apart.sourceCounters, hu.apart.tables] at hs
  have hd : FaultGrows (realigned src m u) (realignAndTake (takeTriggers triggers) src m u) := by
    rw [realignAndTake_eq]
    exact (deliver_talks _ (takeTriggers_talks triggers) src _ _).grows
  have hg : FaultGrows (realignReported src m u) t :=
    (FaultGrows.of_fault (t := realigned src m u) rfl).trans (hd.trans ht.grows)
  exact ⟨hs.own.1, hs.own.2,
    reported_between (onSourceCounters src (fun k => { k with realigns := countUp k.realigns 1 }) u) hu.grows rfl hg,
    record_between (onSourceCounters src (fun k => { k with realigns := countUp k.realigns 1 }) u) hu rfl rfl hg⟩

/-- R15, R39, R66, R67, R136, R141: a realign that meets no trigger. -/
theorem realign_untriggered (hno : triggers = [])
    (hr : ∀ i : Fin 2, 47000 ≤ s.trackers[i].freq ∧ s.trackers[i].freq ≤ 53000) :
    RealignTaken src (frameSets src m s)
        { second := blockPosition m / 3200, counter := 4 * (blockPosition m % 3200) } s t
      ∧ (¬ ((s.capture.state = .armed ∨ s.capture.state = .post) ∧ s.capture.source = src) → t.capture = s.capture)
      ∧ ((s.capture.state = .armed ∨ s.capture.state = .post) ∧ s.capture.source = src → t.capture =
        if s.capture.state = .armed then { s.capture with buffer := frameSets src m s } else runBroken s.capture) := by
  subst hno
  have hfs := (hu.reads src m).1
  have hw := hu.unmoved.trans (realigned_unmoved src m u)
  rw [realignAndTake_eq, hfs] at ht
  have hcap : ∀ {x y : State}, Forwards x y → y.capture = x.capture := fun h => by
    obtain ⟨_, _, _, _, _, _, _, e⟩ := h.unmoved
    rw [e]
  obtain ⟨l, x, hx, hd, e⟩ := delivered_realign src (frameSets src m s) (realigned src m u)
  have he : takeTriggers [] = id := rfl
  rw [he, e] at ht
  have hsx : Unmoved s x := hw.trans hx
  have hsame : x.capture = s.capture ∧ x.trackers = s.trackers ∧ x.tables = s.tables := by
    obtain ⟨_, _, _, _, _, _, _, e⟩ := hsx
    rw [e]
    exact ⟨rfl, rfl, rfl⟩
  obtain ⟨hc, htr, htab⟩ := hsame
  obtain ⟨h1, h2⟩ := hd.captured (by rw [frameSets_length]; omega)
  rw [hc] at h1 h2
  refine ⟨RealignTaken.around hsx ?_ ht.unmoved, fun h => (hcap ht).trans (h1 h), fun h => (hcap ht).trans (h2 h)⟩
  refine hd.realignTaken (by rw [frameSets_length]; omega) (fun i => by rw [htr]; exact hr i) rfl
    fun c _ hlt => ?_
  rw [htab] at hlt ⊢
  exact frameSets_slots src m s hlt

/-- R138, R140, R141: a realign of the source of the capture unit, around the triggers that it meets. -/
theorem realign_triggered
    (h : (s.capture.state = .armed ∨ s.capture.state = .post) ∧ s.capture.source = src) :
    ∃ v, RealignMeets (frameSets src m s) (takeTriggers triggers) s v t := by
  have hw := hu.unmoved.trans (realigned_unmoved src m u)
  have hcap : (realigned src m u).capture = s.capture := by
    obtain ⟨_, _, _, _, _, _, _, e⟩ := hw
    rw [e]
  rw [realignAndTake_eq, (hu.reads src m).1] at ht
  obtain ⟨v, hv⟩ := realign_meets (takeTriggers triggers) (sets := frameSets src m s)
    (s := realigned src m u) (by rw [hcap]; exact h)
  exact ⟨v, hv.around hw (fun l => (hu.repliesKept l).trans (realigned_repliesKept src m u l)) ht⟩

/-- R138, R140, R141: a realign that meets TRIGGER CAPTURE first. -/
theorem realign_command {c : CommandFrame} {rest : List MetTrigger} (htr : triggers = .command :: rest)
    (h : (s.capture.state = .armed ∨ s.capture.state = .post) ∧ s.capture.source = src)
    (ha : s.capture.state = .armed) (hp : s.powered = true) (hl : s.opState ≠ .loading)
    (hr : s.command.restart = .none) (hq : s.command.queue.head? = some c)
    (hc : commandCode c.bytes = some 0x51) (hparams : commandParams c.bytes = []) :
    (∃ n ≤ rest.length, t.capture = { captureFired (.command (commandTag c.bytes)) s.localTime
        { s.capture with buffer := [] } with buffer := frameSets src m s, missed := n })
      ∧ (rest = [] → t.command = { s.command with queue := s.command.queue.tail, requested := false })
      ∧ (rest = [] → (s.out c.line).sending.isSome = true → (t.out c.line).replies = (s.out c.line).replies
        ++ [{ frame := s.replyFrame c .done [0x02#8, 0x00#8, 0x00#8], restart := false }]) := by
  obtain ⟨v, hv⟩ := realign_triggered hu ht h
  rw [htr] at hv
  have hreply := hv.command_trigger ha hp hl hr hq hc hparams
  refine ⟨hv.fired (by rw [frameSets_length]; omega) (hv.command_fired ha hreply), fun hrest => ?_, fun hrest => ?_⟩
  · subst hrest
    exact (hv.command_answered hreply).1
  · subst hrest
    exact (hv.command_answered hreply).2

/-- R83, R137, R138, R141: a realign that meets the completion of an evaluation first. -/
theorem realign_evaluation {c : Fin 16} {w : Window} {cause : CaptureCause} {rest : List MetTrigger}
    (htr : triggers = .evaluation :: rest)
    (h : (s.capture.state = .armed ∨ s.capture.state = .post) ∧ s.capture.source = src)
    (ha : s.capture.state = .armed) (he : s.engine = .evaluating c w) (ho : s.opState = .analysing)
    (hcause : alertTrigger c w.seq (s.evalInput c w).alertEntries s = some cause) :
    ∃ n ≤ rest.length, t.capture = { captureFired cause s.localTime { s.capture with buffer := [] } with
      buffer := frameSets src m s, missed := n } := by
  obtain ⟨v, hv⟩ := realign_triggered hu ht h
  rw [htr] at hv
  exact hv.fired (by rw [frameSets_length]; omega) (hv.evaluation_trigger ha he ho hcause)

/-- R140, R141: a realign during a capture in POST. -/
theorem realign_post (h : (s.capture.state = .armed ∨ s.capture.state = .post) ∧ s.capture.source = src)
    (hp : s.capture.state = .post) : ∃ n ≤ s.capture.missed + triggers.length,
      t.capture = { runBroken s.capture with missed := n } := by
  obtain ⟨v, hv⟩ := realign_triggered hu ht h
  exact hv.broken hp

end

end Sys2Proof.Machine

namespace Sys2Proof.Machine
open Sys2Proof.Claims

/-! ### What a sample frame on line A does -/

section
variable {f : Frame} {ties : Meeting} {s : State} (hp : s.powered = true) (hf : f.fcsAgrees = true)
  (ht : f.ftype = s.streamType) (hk : f.payload.head? = some 0x01#8)
include hp hf ht hk

/-- R1, R190: in LOADING a sample frame is passed on and does nothing else. -/
theorem arrival_loading (hs : LineSettled .b s) (hl : s.opState = .loading) :
    exec (.lineAFrameArrival f ties) s = .next (passedOn .a f s) := by
  have h := arrival_aside (ties := ties) hp hf ht hk hs sparesDrops_id fun _ ha => if_pos (ha.opState.trans hl)
  exact h

/-- R5: a sample frame that matches no enabled entry. -/
theorem arrival_foreign (hs : LineSettled .b s) (hl : s.opState ≠ .loading)
    (hno : ∀ (i : Fin 8) (id : Nat), sampleSourceId (message f.payload) = some id →
      s.tables.sources[i].enabled = true → s.tables.sources[i].sourceId ≠ id) :
    exec (.lineAFrameArrival f ties) s = .next (passedOn .a f { s with
      counters := { s.counters with foreignFrames := raised s.counters.foreignFrames 1 } }) := by
  refine arrival_aside hp hf ht hk hs
    (k := fun c => { c with foreignFrames := raised c.foreignFrames 1 }) (fun _ _ _ _ _ => rfl) fun u ha => ?_
  have hnone : (sampleSourceId (message f.payload)).bind u.sourceOfId = none := by
    cases hid : sampleSourceId (message f.payload) with
    | none => rfl
    | some id =>
      refine (sourceOfId_of_tables ha.tables id).trans (List.find?_eq_none.mpr fun i _ he => ?_)
      rw [Bool.and_eq_true, beq_iff_eq] at he
      exact hno i id hid he.1 he.2
  unfold monitorFrame
  rw [if_neg (by rw [ha.opState]; exact hl), hnone]
  rfl

/-- R14: a stale frame is counted and passed on, and does nothing else. -/
theorem arrival_stale {src : Fin 8} {id q : Nat} (hs : LineSettled .b s) (hl : s.opState ≠ .loading)
    (hid : sampleSourceId (message f.payload) = some id) (hsrc : s.sourceOfId id = some src)
    (hm : sampleMalformed (message f.payload) s.tables.sources[src].channelCount = false)
    (hr : s.sources[src].state = .running) (hq : s.sources[src].lastPos = some q)
    (hlt : blockPosition (message f.payload) < q + 1) (hexp : ties.expiry = false) :
    exec (.lineAFrameArrival f ties) s = .next (passedOn .a f { s with counters := { s.counters with
      sources := updAt s.counters.sources src fun k => { k with stale := raised k.stale 1 } } }) := by
  refine arrival_aside hp hf ht hk hs (k := fun c => { c with
    sources := updAt c.sources src fun k => { k with stale := raised k.stale 1 } }) (fun _ _ _ _ _ => rfl)
    fun u ha => ?_
  rw [monitorFrame_ruled (by rw [ha.opState]; exact hl) hid ((sourceOfId_of_tables ha.tables id).trans hsrc),
    ruled_running (by rw [ha.tables]; exact hm) (by rw [ha.sources]; exact hr) (by rw [ha.sources]; exact hq),
    ruleRunning_stale hlt, hexp]
  rfl

end

/-- Settles O31: the frame's offer to line B and the ruling of the monitor are taken apart (`arrival_ruled`); what
each ruling comes to is read off the delivery that it makes. -/
theorem continuityRuling : Obligations.ContinuityRuling := by
  intro f ties s hp hf ht hk
  refine ⟨fun src id hl => ?_, fun hs => ⟨arrival_loading hp hf ht hk (hs .b), arrival_foreign hp hf ht hk (hs .b)⟩⟩
  intro e r k taken clamped untouched u sets takesPart hid hsrc
  obtain ⟨v, t, he, hu, hv, hfwd⟩ := arrival_ruled (ties := ties) hp hf ht hk hl hid hsrc
  have hstate : v.sources[src] = r := congrArg (·[src]) hu.apart.sources
  have htab : v.tables = s.tables := hu.apart.tables
  refine ⟨t, he, fun i hi => ?_, hfwd, fun hm => ?_, fun hm => ⟨fun hr => ?_, fun q hr hq => ?_⟩⟩
  · obtain ⟨r', k', hb⟩ := ruled_source ties src (message f.payload) v
    exact (SourceBecomes.after_apart hu.apart (hb.of_apart hv.apart)).others i hi
  · rw [ruled_malformed (by rw [htab]; exact hm)] at hv
    exact malformed_ruled hu hv
  · rw [ruled_new (by rw [htab]; exact hm) (by rw [hstate]; exact hr)] at hv
    exact taken_ruled (started := true) hu hv
  · rw [ruled_running (by rw [htab]; exact hm) (by rw [hstate]; exact hr) (by rw [hstate]; exact hq)] at hv
    split
    · next hpos =>
      rw [ruleRunning_inSequence hpos] at hv
      exact taken_ruled (started := false) hu hv
    · next hne =>
      split
      · next hlt =>
        rw [ruleRunning_stale hlt] at hv
        refine ⟨fun hexp => ?_, fun hexp => ?_⟩
        · rw [hexp] at hv
          obtain ⟨h1, h2, h3⟩ := stale_ruled hu hv
          exact ⟨h1, h2, h3, fun hs => Host.Outcome.next.inj
            (he.symm.trans (arrival_stale hp hf ht hk hs hl hid hsrc hm hr hq hlt hexp))⟩
        · rw [hexp] at hv
          exact stale_after_loss hu hv
      · next hge =>
        split
        · next hgap =>
          have hlate : q + 1 < blockPosition (message f.payload) :=
            lt_of_le_of_ne (Nat.le_of_not_lt hge) (Ne.symm hne)
          rw [ruleRunning_gap hlate (by rw [htab]; exact hgap)] at hv
          exact gap_ruled hlate.le hu hv
        · next hbig =>
          rw [ruleRunning_realign (by rw [htab]; exact Nat.lt_of_not_le hbig)] at hv
          obtain ⟨h1, h2, h3, h4⟩ := realign_ruled hu hv
          exact ⟨h1, h2, h3, h4, realign_untriggered hu hv,
            fun c rest htr htp ha hres hq hc hparams =>
              realign_command hu hv htr htp ha hp hl hres hq hc hparams,
            fun c w cause rest htr htp ha heng ho hcause =>
              realign_evaluation hu hv htr htp ha heng ho hcause,
            realign_post hu hv⟩

end Sys2Proof.Machine

namespace Sys2Proof.Machine
open Sys2Proof.Claims

/-! ## O9: which channels hold windows, and how many (R24, R25, R55, R57, R59, R64, R66) -/

/-! ### The two contexts of a channel unit -/

/-- R55, R58: of the two contexts at most one is FILLING and at most one PENDING, and the sequence counter
has 16 bits. -/
structure ChannelUnit.Sound (u : ChannelUnit) : Prop where
  oneFilling : ¬ (u.ctx0.isFilling = true ∧ u.ctx1.isFilling = true)
  onePending : ¬ (u.ctx0.isPending = true ∧ u.ctx1.isPending = true)
  seqNext : u.seqNext < 65536

/-- Both contexts are FREE. -/
def ChannelUnit.Empty (u : ChannelUnit) : Prop := u.ctx0 = .free ∧ u.ctx1 = .free

@[simp] theorem afterClose_isFilling (x : Context) : x.afterClose.isFilling = x.isFilling := by
  cases x <;> rfl

@[simp] theorem afterClose_isPending (x : Context) : x.afterClose.isPending = false := by
  cases x <;> rfl

theorem contextsFreed_empty (u : ChannelUnit) : (contextsFreed u).Empty := ⟨rfl, rfl⟩

theorem contextsFreed_sound {u : ChannelUnit} (h : u.Sound) : (contextsFreed u).Sound :=
  ⟨by simp [contextsFreed, Context.isFilling], by simp [contextsFreed, Context.isPending], h.seqNext⟩

/-- R57, R58: a window opens only where none is FILLING. -/
theorem openIfNone_sound {u : ChannelUnit} (h : u.Sound) (w : Window) : (u.openIfNone w).Sound := by
  have hseq : (u.seqNext + 1) % 65536 < 65536 := Nat.mod_lt _ (by omega)
  unfold ChannelUnit.openIfNone
  split
  · exact h
  · next hf =>
    simp only [Bool.or_eq_true, not_or, Bool.not_eq_true] at hf
    split
    · exact ⟨by simp [hf.2], by simp [Context.isPending], hseq⟩
    · split
      · exact ⟨by simp [hf.1], by simp [Context.isPending], hseq⟩
      · exact h

/-- R63, R64: a window that closes is the one that is PENDING, an older one being discarded. -/
theorem advance_sound {u : ChannelUnit} (h : u.Sound) (v : SlotValue) (test : Bool) :
    (u.advance v test).unit.Sound := by
  have hf := h.oneFilling
  have hp := h.onePending
  unfold ChannelUnit.advance
  split
  · next h0 =>
    rw [h0] at hf hp
    dsimp only
    split
    · exact ⟨by simp [Context.isFilling], by simp, h.seqNext⟩
    · exact ⟨hf, by simp [Context.isPending], h.seqNext⟩
  · next h1 _ =>
    rw [h1] at hf hp
    dsimp only
    split
    · exact ⟨by simp [Context.isFilling], by simp, h.seqNext⟩
    · exact ⟨hf, by simp [Context.isPending], h.seqNext⟩
  · exact h

/-- R65: a copy is taken of a unit that holds a window, and leaves one context FREE. -/
theorem takePending_sound {u u' : ChannelUnit} {w : Window} (h : u.takePending = some (w, u')) :
    ¬ u.Empty ∧ (u.Sound → u'.Sound) := by
  unfold ChannelUnit.takePending at h
  split at h
  · next h0 =>
    cases h
    refine ⟨fun he => absurd (he.1.symm.trans h0) (by simp), fun hs => ?_⟩
    exact ⟨by simp [Context.isFilling], by simp [Context.isPending], hs.seqNext⟩
  · next h1 _ =>
    cases h
    refine ⟨fun he => absurd (he.2.symm.trans h1) (by simp), fun hs => ?_⟩
    exact ⟨by simp [Context.isFilling], by simp [Context.isPending], hs.seqNext⟩
  · cases h

/-! ### The channels that may hold windows -/

/-- R55, R59: the channel units are sound, a channel holds a window only in ANALYSING and where `A` allows it,
and a copy that waits for the table memory is of a channel that `A` allows. -/
def WindowsIn (A : Fin 16 → Prop) (s : State) : Prop :=
  (∀ c : Fin 16, s.channels[c].Sound ∧ (s.channels[c].Empty ∨ (s.opState = .analysing ∧ A c)))
    ∧ ∀ c w, s.engine = .waiting c (some w) → A c

/-- R24: whether tables make a channel active. -/
def activeIn (t : Tables) (c : Fin 16) : Bool :=
  t.channels[c].enabled && t.groups[t.channels[c].group].enabled && t.sources[t.channels[c].source].enabled

theorem active_eq (s : State) : s.active = activeIn s.tables := rfl

theorem active_of_tables {s t : State} (h : t.tables = s.tables) : t.active = s.active := by
  rw [active_eq, active_eq, h]

/-- R24: the active channels are those that may hold windows. -/
theorem contextsLegal_iff (s : State) : ContextsLegal s ↔ WindowsIn (fun c => s.active c = true) s := by
  have hc : ∀ c : Fin 16, ((s.opState ≠ .analysing ∨ s.active c = false) → s.channels[c].Empty)
      ↔ (s.channels[c].Empty ∨ (s.opState = .analysing ∧ s.active c = true)) := fun c => by
    rw [← Bool.not_eq_true]
    tauto
  refine and_congr_left fun _ => forall_congr' fun c => ⟨?_, ?_⟩
  · rintro ⟨he, hf, hp, hs⟩
    exact ⟨⟨hf, hp, hs⟩, (hc c).mp he⟩
  · rintro ⟨hs, he⟩
    exact ⟨(hc c).mpr he, hs.oneFilling, hs.onePending, hs.seqNext⟩

/-- The tables, the operating state, the channel units and the engine are as they were. -/
structure WindowsStand (s t : State) : Prop where
  tables : t.tables = s.tables
  opState : t.opState = s.opState
  channels : t.channels = s.channels
  engine : t.engine = s.engine

section
variable {A B : Fin 16 → Prop} {s t : State}

theorem WindowsIn.congr (h : WindowsIn A s) (ho : t.opState = s.opState) (hc : t.channels = s.channels)
    (he : t.engine = s.engine) : WindowsIn A t := by
  unfold WindowsIn
  rw [ho, hc, he]
  exact h

theorem WindowsIn.mono (h : WindowsIn A s) (hAB : ∀ c, A c → B c) : WindowsIn B s :=
  ⟨fun c => (h.1 c).imp_right (Or.imp_right (And.imp_right (hAB c))), fun c w hw => hAB c (h.2 c w hw)⟩

/-- R25, R66: once the windows of the channels that `p` names have ended, only the others hold windows. -/
theorem WindowsIn.ended (h : WindowsIn A s) (p : Fin 16 → Bool) (hAB : ∀ c, A c → p c = false → B c) :
    WindowsIn B (windowsEnded p s) := by
  rw [windowsEnded_eq]
  refine ⟨fun c => ?_, fun c w hw => ?_⟩
  · obtain ⟨hs, he⟩ := h.1 c
    simp only [Fin.getElem_fin, Vector.getElem_ofFn]
    cases hp : p c with
    | true => exact ⟨contextsFreed_sound hs, .inl (contextsFreed_empty _)⟩
    | false => exact ⟨hs, he.imp_right (And.imp_right fun ha => hAB c ha hp)⟩
  · change copyDiscarded p s.engine = _ at hw
    unfold copyDiscarded at hw
    split at hw
    · next c' w' he =>
      cases hp : p c' with
      | true => simp [hp] at hw
      | false =>
        simp only [hp, Bool.false_eq_true, if_false, Engine.waiting.injEq] at hw
        exact hw.1 ▸ hAB c' (h.2 c' w' he) hp
    · next hn => exact absurd hw (hn c w)

/-- One channel unit replaced by a sound one. -/
theorem WindowsIn.putUnit (h : WindowsIn A s) {c : Fin 16} {u : ChannelUnit} (hu : u.Sound)
    (hA : u.Empty ∨ (s.opState = .analysing ∧ A c)) :
    WindowsIn A { s with channels := putAt s.channels c u } := by
  refine ⟨fun x => ?_, h.2⟩
  change (putAt s.channels c u)[x].Sound ∧ ((putAt s.channels c u)[x].Empty ∨ _)
  rw [putAt_get]
  split
  · next hx =>
    subst hx
    exact ⟨hu, hA⟩
  · exact h.1 x

theorem WindowsIn.endWindows (h : WindowsIn A s) (c : Fin 16) : WindowsIn A (endWindows c s) := by
  have hu := h.putUnit (c := c) (contextsFreed_sound (h.1 c).1) (.inl (contextsFreed_empty _))
  exact hu.congr rfl rfl rfl

/-- R77: a grant takes a copy of a channel that holds a window. -/
theorem WindowsIn.grant (h : WindowsIn A s) (c : Fin 16) : WindowsIn A (grant c s) := by
  obtain ⟨_, e⟩ | ⟨w, u, hu, e⟩ := grant_cases c s
  · rw [e]
    exact h
  · obtain ⟨hne, hs⟩ := takePending_sound hu
    obtain ⟨hsc, hc⟩ := h.1 c
    have ha := hc.resolve_left hne
    obtain ⟨hch, _⟩ := h.putUnit (hs hsc) (.inr ha)
    rw [e]
    refine ⟨hch, fun x w' hw => ?_⟩
    dsimp only at hw
    split at hw
    · cases hw
    · cases hw
      exact ha.2

theorem WindowsIn.arbitrate (h : WindowsIn A s) : WindowsIn A (arbitrate s) := by
  obtain e | ⟨c, _, _, _, e⟩ := arbitrate_cases s
  · rw [e]
    exact h
  · rw [e]
    exact h.grant c

/-- R80: the engine loses its copy, or takes none. -/
theorem WindowsIn.engineBusy (h : WindowsIn A s) {e : Engine} (he : ∀ c w, e ≠ .waiting c (some w))
    (m : MemOwner) : WindowsIn A { s with engine := e, memOwner := m } :=
  ⟨h.1, fun c w hw => absurd hw (he c w)⟩

theorem WindowsIn.engineRelease (h : WindowsIn A s) : WindowsIn A (engineRelease s) :=
  (h.engineBusy (by simp) _).arbitrate

theorem WindowsIn.commandRelease (h : WindowsIn A s) : WindowsIn A (commandRelease s) := by
  obtain ⟨c, w, _, e⟩ | ⟨c, _, e⟩ | ⟨_, e⟩ := commandRelease_cases s
  · rw [e]
    exact h.engineBusy (by simp) _
  · rw [e]
    exact (h.engineBusy (by simp) _).arbitrate
  · rw [e]
    exact h.congr rfl rfl rfl

end

end Sys2Proof.Machine

namespace Sys2Proof.Machine
open Sys2Proof.Claims

/-! ### What leaves the windows alone -/

theorem WindowsStand.contextsLegal {s t : State} (h : WindowsStand s t) (hs : ContextsLegal s) :
    ContextsLegal t := by
  rw [contextsLegal_iff] at hs ⊢
  rw [active_of_tables h.tables]
  exact hs.congr h.opState h.channels h.engine

/-- The windows of the channels active in `s` are legal in a state with the tables of `s`. -/
theorem WindowsIn.contextsLegal {s t : State} (h : WindowsIn (fun c => s.active c = true) t)
    (ht : t.tables = s.tables) : ContextsLegal t := by
  rw [contextsLegal_iff, active_of_tables ht]
  exact h

theorem TrackersMove.windowsStand {s t : State} (h : TrackersMove s t) : WindowsStand s t := by
  obtain ⟨_, _, _, _, _, _, _, rfl⟩ := h
  exact ⟨rfl, rfl, rfl, rfl⟩

theorem Reports.windowsStand {s t : State} (h : Reports s t) : WindowsStand s t :=
  h.trackersMove.windowsStand

theorem setOut_windowsStand (l : Line) (o : LineOut) (q : List OutRecord) (cu : CommandUnit) (s : State) :
    WindowsStand s (setOut l o { s with records := q, command := cu }) := by
  cases l <;> exact ⟨rfl, rfl, rfl, rfl⟩

section
variable {s : State}

theorem kick_contextsLegal {l : Line} (hs : ContextsLegal s) : ContextsLegal (kick l s) := by
  obtain ⟨o, r, e⟩ := kick_frame l s
  rw [e]
  exact (setOut_windowsStand l o r s.command s).contextsLegal hs

theorem setOut_contextsLegal {l : Line} {o : LineOut} (hs : ContextsLegal s) :
    ContextsLegal (setOut l o s) :=
  (setOut_windowsStand l o s.records s.command s).contextsLegal hs

theorem choose_contextsLegal {l : Line} (hs : ContextsLegal s) : ContextsLegal (choose l s) := by
  obtain ⟨_, _, _, e⟩ | ⟨_, rs, _, _, e⟩ | ⟨_, _, _, e⟩ | ⟨_, _, _, e⟩ := choose_cases l s
  · rw [e]
    exact setOut_contextsLegal hs
  · rw [e]
    exact (setOut_windowsStand l _ rs s.command s).contextsLegal hs
  · rw [e]
    exact setOut_contextsLegal hs
  · rw [e]
    exact setOut_contextsLegal hs

theorem reportFault_contextsLegal {k : FaultKind} {n : Nat} {d : FaultDetail} (hs : ContextsLegal s) :
    ContextsLegal (reportFault k n d s) :=
  (reportFault_reports k n d s).windowsStand.contextsLegal hs

theorem replyWith_contextsLegal {restart : Bool} {c : CommandFrame} {st : Status} {res : List Byte} (hs : ContextsLegal s) :
    ContextsLegal (replyWith restart c st res s) := by
  obtain ⟨o, r, e⟩ := replyWith_frame restart c st res s
  rw [e]
  exact (setOut_windowsStand c.line o r _ s).contextsLegal hs

theorem reply_contextsLegal {c : CommandFrame} {st : Status} {res : List Byte} (hs : ContextsLegal s) :
    ContextsLegal (reply c st res s) := replyWith_contextsLegal hs

theorem TrackersMove.contextsLegal {t : State} (hs : ContextsLegal s) (h : TrackersMove s t) :
    ContextsLegal t :=
  h.windowsStand.contextsLegal hs

theorem offerForward_contextsLegal {l : Line} {f : Frame} (hs : ContextsLegal s) :
    ContextsLegal (offerForward l f s) := by
  obtain ⟨_, e⟩ | ⟨_, e⟩ := offerForward_cases l f s
  · rw [e]
    exact kick_contextsLegal (setOut_contextsLegal hs)
  · rw [e]
    refine reportFault_contextsLegal ?_
    exact WindowsStand.contextsLegal (s := s) (by cases l <;> exact ⟨rfl, rfl, rfl, rfl⟩) hs

theorem giveCommand_contextsLegal {l : Line} {f : Frame} (hs : ContextsLegal s) :
    ContextsLegal (giveCommand l f s) := by
  unfold giveCommand
  dsimp only
  split
  · exact hs
  · obtain ⟨_, e⟩ | ⟨_, h⟩ := offerCommand_cases { line := l, src := f.src, bytes := message f.payload } s
    · rw [e]
      exact hs
    · exact h.windowsStand.contextsLegal hs

theorem giveBroadcast_contextsLegal {l : Line} {f : Frame} (hs : ContextsLegal s) :
    ContextsLegal (giveBroadcast l f s) := by
  unfold giveBroadcast
  dsimp only
  split
  · exact giveCommand_contextsLegal hs
  · exact hs

/-! ### Consumers of a source (R18, R57, R60, R63, R64, R66, R67) -/

theorem endWindows_contextsLegal {c : Fin 16} (hs : ContextsLegal s) :
    ContextsLegal (endWindows c s) :=
  (((contextsLegal_iff s).mp hs).endWindows c).contextsLegal rfl

theorem arbitrate_contextsLegal (hs : ContextsLegal s) : ContextsLegal (arbitrate s) := by
  obtain ⟨_, _, _, _, e⟩ := arbitrate_frame s
  exact ((contextsLegal_iff s).mp hs).arbitrate.contextsLegal (by rw [e])

theorem commandRelease_contextsLegal (hs : ContextsLegal s) : ContextsLegal (commandRelease s) :=
  ((contextsLegal_iff s).mp hs).commandRelease.contextsLegal (commandRelease_holds s).tables

theorem engineRelease_contextsLegal (hs : ContextsLegal s) : ContextsLegal (engineRelease s) := by
  obtain ⟨_, _, _, _, e⟩ := arbitrate_frame { s with engine := .idle, memOwner := s.commandSideWaits }
  exact ((contextsLegal_iff s).mp hs).engineRelease.contextsLegal (by
    unfold engineRelease
    rw [e])

theorem reportMissed_contextsLegal {c : Fin 16} {m : Option Nat} (hs : ContextsLegal s) :
    ContextsLegal (reportMissed c m s) := by
  unfold reportMissed
  split
  · exact hs
  · exact reportFault_contextsLegal hs

/-- R24, R57, R59: a set opens a window of a channel that is active, in ANALYSING. -/
theorem channelTakes_contextsLegal (hs : ContextsLegal s) {c : Fin 16} (hc : s.active c = true) (ss : SampleSet) :
    ContextsLegal (channelTakes c ss s) := by
  have hw := (contextsLegal_iff s).mp hs
  unfold channelTakes
  split
  · next v ho _ =>
    dsimp only
    have hu := (hw.putUnit (advance_sound (openIfNone_sound (hw.1 c).1
      (s.channels[c].opened (s.trackerOf c) ss.stamp)) v ss.test) (.inr ⟨ho, hc⟩)).contextsLegal rfl
    split
    · exact arbitrate_contextsLegal (reportMissed_contextsLegal hu)
    · exact reportMissed_contextsLegal hu
  · exact hs

theorem consume_contextsLegal (hs : ContextsLegal s) (src : Fin 8) (item : Item) {who : Consumer}
    (hw : ∀ c, who = .channel c → s.active c = true) : ContextsLegal (consume src item who s) := by
  cases who with
  | measurer t r => exact (measurerItem_move t r src item s).contextsLegal hs
  | tracker t => exact (trackerLoses_move t src s).contextsLegal hs
  | channel c =>
    cases item with
    | start => exact hs
    | realign => exact endWindows_contextsLegal hs
    | loss => exact endWindows_contextsLegal hs
    | set ss => exact channelTakes_contextsLegal hs (hw c rfl) ss
  | capture => exact hs

end

/-- R18: of the channels only active ones have a part in a delivery. -/
theorem active_of_mem_delivery {s : State} {src : Fin 8} {items : List Item} {c : Fin 16} {item : Item}
    (h : (.channel c, item) ∈ (s.delivery src items).1) : s.active c = true := by
  have hf := happenings_filter s src items (who := .channel c) (by simp)
  have hmem : (Consumer.channel c, item) ∈ (happenings s src items).filter
      (fun x => decide (x.1 = .channel c)) := List.mem_filter.mpr ⟨h, by simp⟩
  rw [hf] at hmem
  split at hmem
  · next hc => exact (mem_lossConsumers_channel.mp (List.mem_append_right _ hc)).1
  · cases hmem

theorem consumeMeeting_cases (met : State → State) (src : Fin 8) (x : Consumer × Item) (s : State) :
    (x = (.capture, .realign) ∧ consumeMeeting met src x s = met (consume src .realign .capture s))
      ∨ consumeMeeting met src x s = consume src x.2 x.1 s := by
  unfold consumeMeeting
  split
  · exact .inl ⟨rfl, rfl⟩
  · exact .inr rfl

section
variable {a : Prop} {met : State → State} (ht : ∀ s, Talks Within a s (met s))
  (hm : ∀ s, ContextsLegal s → ContextsLegal (met s))
include ht hm

theorem consumeMeeting_contextsLegal {s : State} (hs : ContextsLegal s) (src : Fin 8) {x : Consumer × Item}
    (hx : ∀ c, x.1 = .channel c → s.active c = true) :
    ContextsLegal (consumeMeeting met src x s) ∧ (consumeMeeting met src x s).tables = s.tables := by
  obtain ⟨rfl, e⟩ | e := consumeMeeting_cases met src x s
  · rw [e]
    exact ⟨hm _ (consume_contextsLegal hs src .realign hx), (ht _).apart.tables⟩
  · rw [e]
    exact ⟨consume_contextsLegal hs src x.2 hx, (consume_talks (a := False) src x.2 x.1 s).apart.tables⟩

/-- R18, R141: while the items of a delivery reach the consumers, the channels among them stay active. -/
theorem deliver_contextsLegal {s : State} {src : Fin 8} {items : List Item} (hs : ContextsLegal s) :
    ContextsLegal (deliver met src items s) := by
  unfold deliver
  dsimp only
  refine (foldl_keeps (P := fun t => ContextsLegal t ∧ t.tables = s.tables) _
    (fun x s => consumeMeeting met src x s) (fun x hx t h => ?_) { s with ties := (s.delivery src items).2 } ⟨hs, rfl⟩).1
  obtain ⟨who, item⟩ := x
  obtain ⟨h1, h2⟩ := consumeMeeting_contextsLegal ht hm h.1 src (x := (who, item)) (by
    rintro c rfl
    rw [active_of_tables h.2]
    exact active_of_mem_delivery hx)
  exact ⟨h1, h2.trans h.2⟩

theorem takeFrame_contextsLegal {s : State} (src : Fin 8) (m : List Byte)
    (before : List Item) (hs : ContextsLegal s) : ContextsLegal (takeFrame met src m before s) := by
  unfold takeFrame
  dsimp only
  exact deliver_contextsLegal ht hm hs

end

/-- R19, R66, R67: a loss ends windows, and touches neither tables nor the engine. -/
theorem loseSource_contextsLegal {s : State} (hs : ContextsLegal s) (src : Fin 8) :
    ContextsLegal (loseSource src s) := by
  obtain ⟨hch, heng, _⟩ := loseSource_elsewhere src s
  have ha := loseSource_apart src s
  have hw := (contextsLegal_iff s).mp hs
  refine WindowsIn.contextsLegal (s := s) ⟨fun c => ?_, fun c w h => hw.2 c w (heng ▸ h)⟩ ha.tables
  obtain ⟨hsc, hc⟩ := hw.1 c
  have h := hch c
  split at h
  · rw [h.1]
    exact ⟨contextsFreed_sound hsc, .inl (contextsFreed_empty _)⟩
  · rw [h.1, ha.opState]
    exact ⟨hsc, hc⟩

/-! ### Frames, and the triggers they meet (R5 to R21, R83, R137, R141) -/

theorem triggerByAlert_windowsStand (c : Fin 16) (seq : Nat) (es : List AlertEntry) (s : State) :
    WindowsStand s (triggerByAlert c seq es s) := by
  unfold triggerByAlert
  split
  · split
    · exact ⟨rfl, rfl, rfl, rfl⟩
    · exact ⟨rfl, rfl, rfl, rfl⟩
  · exact ⟨rfl, rfl, rfl, rfl⟩

section
variable {s : State}

theorem completeEvaluation_contextsLegal {c : Fin 16} {w : Window} (hs : ContextsLegal s) :
    ContextsLegal (completeEvaluation c w s) := by
  unfold completeEvaluation
  dsimp only
  have h : ContextsLegal (offerAll (s.evalRecords (s.evalInput c w))
      { s with checks := putAt s.checks c (s.evalInput c w).checksAfter }) :=
    (offerAll_reports _ _).windowsStand.contextsLegal hs
  refine engineRelease_contextsLegal ?_
  split
  · exact (triggerByAlert_windowsStand _ _ _ _).contextsLegal h
  · exact h

theorem evaluates_contextsLegal (hs : ContextsLegal s) : ContextsLegal (evaluates s) := by
  unfold evaluates
  split
  · exact completeEvaluation_contextsLegal hs
  · exact hs
  · exact hs

/-- R149: a command is refused, or follows its own rule. -/
theorem command_contextsLegal (hs : ContextsLegal s) {α : Type} {code : Nat} {parse : List Byte → Option α}
    {body : α → CommandFrame → State → State} (hb : ∀ p c, ContextsLegal (body p c s)) :
    ContextsLegal (command code parse body s) := by
  obtain e | ⟨c, _, _, _, _, ⟨_, e⟩ | ⟨_, _, e⟩ | ⟨p, _, _, e⟩⟩ := command_cases code parse body s
  · rw [e]
    exact hs
  · rw [e]
    exact reply_contextsLegal hs
  · rw [e]
    exact reply_contextsLegal hs
  · rw [e]
    exact hb p c

theorem triggerCommand_contextsLegal (hs : ContextsLegal s) : ContextsLegal (triggerCommand s) :=
  command_contextsLegal hs fun () c => by
    unfold triggerAnswered
    dsimp only
    split
    · exact reply_contextsLegal hs
    · exact reply_contextsLegal hs

theorem takeTriggers_contextsLegal (hs : ContextsLegal s) (l : List MetTrigger) :
    ContextsLegal (takeTriggers l s) :=
  foldl_keeps (P := ContextsLegal) l takeTrigger (fun t _ _ h => by
    cases t with
    | command => exact triggerCommand_contextsLegal h
    | evaluation => exact evaluates_contextsLegal h) s hs

variable {a : Prop} {met : State → State} (ht : ∀ s, Talks Within a s (met s))
  (hm : ∀ s, ContextsLegal s → ContextsLegal (met s))
include ht hm

theorem ruleRunning_contextsLegal (hs : ContextsLegal s) (expiry : Bool) (src : Fin 8) (m : List Byte) (q : Nat) :
    ContextsLegal (ruleRunning expiry met src m q s) := by
  have hid : ∀ {s} before, ContextsLegal s → ContextsLegal (takeFrame id src m before s) := fun before h =>
    takeFrame_contextsLegal (a := False) Talks.refl (fun _ => id) src m before h
  unfold ruleRunning
  dsimp only
  split
  · exact hid _ hs
  · split
    · split
      · exact loseSource_contextsLegal hs src
      · exact hs
    · split
      · unfold takeAfterGap
        exact hid _ hs
      · unfold realignAndTake
        exact takeFrame_contextsLegal ht hm src m _ (reportFault_contextsLegal hs)

theorem monitorFrame_contextsLegal (hs : ContextsLegal s) (expiry : Bool) (m : List Byte) :
    ContextsLegal (monitorFrame expiry met m s) := by
  unfold monitorFrame
  split
  · exact hs
  · split
    · exact hs
    · next src _ =>
      split
      · unfold rejectMalformed
        exact reportFault_contextsLegal hs
      · unfold ruleFrame
        split
        · exact ruleRunning_contextsLegal ht hm hs expiry src m _
        · exact hs
        · exact takeFrame_contextsLegal (a := False) Talks.refl (fun _ => id) src m _ hs

theorem sortLineA_contextsLegal (hs : ContextsLegal s) (expiry : Bool) (f : Frame) :
    ContextsLegal (sortLineA expiry met f s) := by
  unfold sortLineA
  split
  · exact either_keeps (P := ContextsLegal) _ _ (fun _ _ h => h)
      (fun _ h => offerForward_contextsLegal h)
      (fun _ h => monitorFrame_contextsLegal ht hm h expiry _) s hs
  · exact giveCommand_contextsLegal hs
  · exact either_keeps (P := ContextsLegal) _ _ (fun _ _ h => h)
      (fun _ h => offerForward_contextsLegal h) (fun _ h => giveBroadcast_contextsLegal h) s hs
  · exact offerForward_contextsLegal hs

end

theorem sortLineB_contextsLegal {s : State} (hs : ContextsLegal s) (f : Frame) :
    ContextsLegal (sortLineB f s) := by
  unfold sortLineB
  split
  · exact giveCommand_contextsLegal hs
  · exact either_keeps (P := ContextsLegal) _ _ (fun _ _ h => h)
      (fun _ h => offerForward_contextsLegal h) (fun _ h => giveBroadcast_contextsLegal h) s hs
  · exact offerForward_contextsLegal hs
  · exact offerForward_contextsLegal hs

end Sys2Proof.Machine

namespace Sys2Proof.Machine
open Sys2Proof.Claims

/-! ### Entry writes (R25, R28 to R31, R34, R69) -/

theorem activeIn_iff (t : Tables) (c : Fin 16) : activeIn t c = true ↔ t.channels[c].enabled = true
    ∧ t.groups[t.channels[c].group].enabled = true ∧ t.sources[t.channels[c].source].enabled = true := by
  unfold activeIn
  rw [Bool.and_eq_true, Bool.and_eq_true, and_assoc]

/-- R24: a channel stays active at a SOURCES write that leaves its source, if it is that one, enabled. -/
theorem activeIn_source {t : Tables} {i : Fin 8} {e : SourceEntry} {c : Fin 16} (h : activeIn t c = true)
    (he : t.channels[c].source = i → e.enabled = true) : activeIn (replaced t (.source i e)) c = true := by
  rw [activeIn_iff] at h ⊢
  obtain ⟨hc, hg, hs⟩ := h
  refine ⟨hc, hg, ?_⟩
  change (putAt t.sources i e)[t.channels[c].source].enabled = true
  rw [putAt_get]
  split
  · next hi => exact he hi
  · exact hs

/-- R24: a channel stays active at a GROUPS write that leaves its group, if it is that one, enabled. -/
theorem activeIn_group {t : Tables} {g : Fin 4} {e : GroupEntry} {c : Fin 16} (h : activeIn t c = true)
    (he : t.channels[c].group = g → e.enabled = true) : activeIn (replaced t (.group g e)) c = true := by
  rw [activeIn_iff] at h ⊢
  obtain ⟨hc, hg, hs⟩ := h
  refine ⟨hc, ?_, hs⟩
  change (putAt t.groups g e)[t.channels[c].group].enabled = true
  rw [putAt_get]
  split
  · next hi => exact he hi
  · exact hg

/-- R24: a CHANNELS write does not change whether another channel is active. -/
theorem activeIn_channel {t : Tables} {x : Fin 16} {e : ChannelEntry} {c : Fin 16} (h : activeIn t c = true)
    (hx : c ≠ x) : activeIn (replaced t (.channel x e)) c = true := by
  have he : (replaced t (.channel x e)).channels[c] = t.channels[c] :=
    (putAt_get t.channels x c e).trans (if_neg hx)
  rw [activeIn_iff] at h ⊢
  simp only [he]
  exact h

/-- R25, R66: in a state with the windows of `s`, the windows of the channels that `p` names have ended; of the
others those that were active still are. -/
theorem ContextsLegal.ended {s t : State} {p : Fin 16 → Bool} (hs : ContextsLegal s)
    (ho : t.opState = s.opState) (hc : t.channels = s.channels) (he : t.engine = s.engine)
    (ha : ∀ c, activeIn s.tables c = true → p c = false → activeIn t.tables c = true) :
    ContextsLegal (windowsEnded p t) :=
  (contextsLegal_iff _).mpr ((((contextsLegal_iff s).mp hs).congr ho hc he).ended p ha)

/-- The same where no window ends. -/
theorem ContextsLegal.active_mono {s t : State} (hs : ContextsLegal s)
    (ho : t.opState = s.opState) (hc : t.channels = s.channels) (he : t.engine = s.engine)
    (ha : ∀ c, activeIn s.tables c = true → activeIn t.tables c = true) : ContextsLegal t :=
  (contextsLegal_iff t).mpr ((((contextsLegal_iff s).mp hs).congr ho hc he).mono ha)

/-- R8, R31, R34: disabling a source ends the windows of its active channels. -/
theorem writeSource_contextsLegal {s : State} (hs : ContextsLegal s) (i : Fin 8) (e : SourceEntry) :
    ContextsLegal (applyWrite (.source i e) s) := by
  have hkept : e.enabled = true → ∀ c, activeIn s.tables c = true →
      activeIn (replaced s.tables (.source i e)) c = true := fun h c hc => activeIn_source hc fun _ => h
  rw [applyWrite_source]
  split
  · next h1 => exact hs.active_mono rfl rfl rfl (hkept (Bool.and_eq_true_iff.mp h1).2)
  · split
    · have hm := TrackersMove.inSomeOrder (fun t => trackerLoses_move t i)
        (onSource i offSource (sourceEntryWritten i e s))
      have hw := hm.windowsStand
      refine hs.ended hw.opState hw.channels hw.engine fun c hc hp => ?_
      rw [hw.tables]
      refine activeIn_source hc fun hi => absurd hp ?_
      rw [active_eq, hc]
      simpa using hi
    · next h2 =>
      split
      · next h3 => exact hs.ended rfl rfl rfl fun c hc _ => hkept (Bool.and_eq_true_iff.mp h3).1 c hc
      · refine hs.active_mono rfl rfl rfl fun c hc => activeIn_source hc fun hi => ?_
        subst hi
        have ho : s.tables.sources[s.tables.channels[c].source].enabled = true :=
          ((activeIn_iff _ _).mp hc).2.2
        rw [ho] at h2
        simpa using h2

theorem writeChannel_contextsLegal {s : State} (hs : ContextsLegal s) (c : Fin 16) (e : ChannelEntry) :
    ContextsLegal (applyWrite (.channel c e) s) := by
  by_cases he : s.tables.channels[c] = e
  · rw [← he, applyWrite_channel_same]
    exact hs
  · rw [applyWrite_channel he]
    exact hs.ended (t := { s with tables := replaced s.tables (.channel c e) }) rfl rfl rfl
      fun x hx hp => activeIn_channel hx (by simpa using hp)

theorem writeGroup_contextsLegal {s : State} (hs : ContextsLegal s) (g : Fin 4) (e : GroupEntry) :
    ContextsLegal (applyWrite (.group g e) s) := by
  rw [applyWrite_group]
  refine hs.ended (t := { s with tables := replaced s.tables (.group g e) }) rfl rfl rfl
    fun x hx hp => activeIn_group hx fun hg => ?_
  subst hg
  have ho := ((activeIn_iff _ _).mp hx).2.1
  rw [active_eq, hx, ho] at hp
  simp only [beq_self_eq_true, Bool.true_and, Bool.and_true, Bool.or_eq_false_iff, Bool.not_eq_false'] at hp
  exact hp.2

theorem writePlan_contextsLegal {s : State} (hs : ContextsLegal s) (c : Fin 16) (e : PlanRow) :
    ContextsLegal (applyWrite (.plan c e) s) := by
  have hw := (contextsLegal_iff s).mp hs
  change ContextsLegal (writePlan c e s)
  unfold writePlan
  dsimp only
  split
  · exact hs
  · split
    · exact hs
    · rw [endAllWindows_eq, contextsLegal_iff]
      refine WindowsIn.ended (A := fun c => s.active c = true) ?_ _ fun _ h _ => h
      have hc := hw.1 c
      exact (hw.putUnit (c := c) (u := { s.channels[c] with binList := e.bins.map PlanBin.k })
        ⟨hc.1.oneFilling, hc.1.onePending, hc.1.seqNext⟩ hc.2).congr rfl rfl rfl

theorem writeTracker_contextsLegal {s : State} (hs : ContextsLegal s) (t : Fin 2) (e : TrackerEntry) :
    ContextsLegal (applyWrite (.tracker t e) s) := by
  change ContextsLegal (writeTracker t e s)
  unfold writeTracker
  dsimp only
  split
  · exact hs
  · exact TrackersMove.contextsLegal (s := onTables (fun tb => { tb with trackers := putAt tb.trackers t e }) s)
      hs ((requestMode_move t _ _ _).trans (changeReferences_move t _ _ _))

/-- R162: a write that makes a channel inactive ends the channel's windows. -/
theorem applyWrite_contextsLegal {s : State} (hs : ContextsLegal s) (w : EntryWrite) :
    ContextsLegal (applyWrite w s) := by
  cases w with
  | general e => exact hs
  | source i e => exact writeSource_contextsLegal hs i e
  | channel c e => exact writeChannel_contextsLegal hs c e
  | group g e => exact writeGroup_contextsLegal hs g e
  | tracker t e => exact writeTracker_contextsLegal hs t e
  | plan c e => exact writePlan_contextsLegal hs c e
  | band i e => exact hs
  | signature i e => exact hs

theorem applyRestored_contextsLegal {s : State} (hs : ContextsLegal s) (w : EntryWrite) :
    ContextsLegal (applyRestored w s) := by
  cases w with
  | general e => exact hs
  | source i e => exact applyWrite_contextsLegal hs (.source i e)
  | channel c e => exact applyWrite_contextsLegal hs (.channel c e)
  | group g e => exact applyWrite_contextsLegal hs (.group g e)
  | tracker t e => exact applyWrite_contextsLegal hs (.tracker t e)
  | plan c e => exact applyWrite_contextsLegal hs (.plan c e)
  | band i e => exact hs
  | signature i e => exact hs

/-- R170: a RESTORE acts as one write after another. -/
theorem restoreCompletes_contextsLegal {s : State} (hs : ContextsLegal s) (id : TableId) :
    ContextsLegal (restoreCompletes id s) := by
  unfold restoreCompletes
  exact commandRelease_contextsLegal
    (foldl_keeps (P := ContextsLegal) _ applyRestored (fun w _ _ h => applyRestored_contextsLegal h w) s hs)

end Sys2Proof.Machine

namespace Sys2Proof.Machine
open Sys2Proof.Claims

section
variable {s : State}

/-! ### Commands of the host computer (R24, R71, R79, R80, R153, R154) -/

theorem beginNext_contextsLegal (hs : ContextsLegal s) : ContextsLegal (beginNext s) := by
  obtain e | ⟨_, _, _, _, _, _, e⟩ := beginNext_cases s
  · rw [e]
    exact hs
  · rw [e]
    exact hs

/-- R79, R80: the table memory requested, held and released, where the work done with it keeps the windows
legal. -/
theorem withMemory_contextsLegal (hs : ContextsLegal s) {refusal : Option Status} {f : State → State}
    {c : CommandFrame} (hf : ContextsLegal (f { s with memOwner := .command })) :
    ContextsLegal (withMemory refusal f c s) := by
  obtain ⟨_, _, _, e⟩ | ⟨_, e⟩ | ⟨_, _, _, e⟩ | ⟨_, _, e⟩ := withMemory_cases refusal f c s
  · rw [e]
    exact reply_contextsLegal hs
  · rw [e]
    exact commandRelease_contextsLegal (beginNext_contextsLegal hf)
  · rw [e]
    exact hs
  · rw [e]
    exact hs

theorem writeEntry_contextsLegal {w : RawWrite} {c : CommandFrame} (hs : ContextsLegal s) :
    ContextsLegal (writeEntry w c s) := by
  unfold writeEntry
  split
  · split
    · exact reply_contextsLegal hs
    · exact reply_contextsLegal (applyWrite_contextsLegal hs _)
  · exact reply_contextsLegal hs

theorem setTracker_contextsLegal {t : Fin 2} {mode f : Nat} {c : CommandFrame} (hs : ContextsLegal s) :
    ContextsLegal (setTracker t mode f c s) := by
  unfold setTracker
  split
  · exact reply_contextsLegal hs
  · split
    · exact reply_contextsLegal hs
    · next m _ =>
      split
      · exact reply_contextsLegal hs
      · exact reply_contextsLegal
          (TrackersMove.contextsLegal (s := writeRequest t m f s) hs (requestMode_move t m f _))

/-- R59, R153: windows may open from the start of ANALYSING on. -/
theorem startAnalysis_contextsLegal (hs : ContextsLegal s) :
    ContextsLegal (clearAllChecks { s with opState := .analysing }) := by
  obtain ⟨hch, he⟩ := (contextsLegal_iff s).mp hs
  refine (contextsLegal_iff _).mpr ⟨fun c => ?_, he⟩
  exact (hch c).imp_right (Or.imp_right fun h => ⟨rfl, h.2⟩)

/-- R71: the FILLING and PENDING windows end, and a copy that waits stays. -/
theorem endAnalysis_contextsLegal (hs : ContextsLegal s) : ContextsLegal (endAnalysis s) := by
  obtain ⟨hch, he⟩ := (contextsLegal_iff s).mp hs
  let u : State := { s with opState := .configuring }
  let l := (List.finRange 16).map Consumer.channel
  have hfold : endAnalysis s = l.foldl (fun s who => consume 0 .loss who s) u := by
    unfold endAnalysis
    rw [List.foldl_map]
    rfl
  have hw := congrArg Prod.fst (consume_loss_windows 0 l u)
  have heng := (consume_loss_capture 0 l u).1
  dsimp only at hw heng
  rw [← hfold] at hw heng
  have hfreed : ∀ c : Fin 16, (endAnalysis s).channels[c] = contextsFreed s.channels[c] := fun c => by
    rw [hw]
    simp [windowsFreed, l, u]
  refine WindowsIn.contextsLegal (s := s) ⟨fun c => ?_, fun c w h => he c w (heng.symm.trans h)⟩
    (endAnalysis_keeps s).tables
  rw [hfreed]
  exact ⟨contextsFreed_sound (hch c).1, .inl (contextsFreed_empty _)⟩

/-! ### The load and the restarts (R53, R59, R152, R156, R157, R172) -/

/-- In LOADING no channel holds a window, whatever the tables that the load copies. -/
theorem loading_windowsIn (hs : ContextsLegal s) (hq : LoadingQuiet s) (hl : s.opState = .loading)
    (A : Fin 16 → Prop) : (∀ c : Fin 16, s.channels[c].Sound ∧ s.channels[c].Empty)
      ∧ ∀ c w, s.engine = .waiting c (some w) → A c := by
  obtain ⟨hch, _⟩ := (contextsLegal_iff s).mp hs
  refine ⟨fun c => ⟨(hch c).1, (hch c).2.resolve_right fun ha => ?_⟩, fun c w he => ?_⟩
  · rw [hl] at ha
    cases ha.1
  · rw [hq.engine hl] at he
    cases he

theorem loadTable_contextsLegal (hs : ContextsLegal s) (hq : LoadingQuiet s) (hl : s.opState = .loading)
    (t : TableId) : ContextsLegal (loadTable t s) := by
  have h : ContextsLegal { s with
      tables := s.tables.setImage (s.loadImage t), loadedTables := s.loadedTables + 1 } := by
    obtain ⟨hch, he⟩ := loading_windowsIn hs hq hl
      fun c => activeIn (s.tables.setImage (s.loadImage t)) c = true
    exact (contextsLegal_iff _).mpr ⟨fun c => (hch c).imp_right .inl, he⟩
  unfold loadTable
  dsimp only
  split
  · exact h
  · exact reportFault_contextsLegal h

theorem takeUpSettings_contextsLegal (hs : ContextsLegal s) (hq : LoadingQuiet s)
    (hl : s.opState = .loading) : ContextsLegal (takeUpSettings s) := by
  obtain ⟨hch, he⟩ := loading_windowsIn hs hq hl fun c => activeIn (takeUpSettings s).tables c = true
  rw [contextsLegal_iff, active_eq]
  refine ⟨fun c => ?_, fun c w h => he c w (by rw [← h]; simp)⟩
  obtain ⟨hsc, hec⟩ := hch c
  have hc : ∃ l, (takeUpSettings s).channels[c] = { s.channels[c] with binList := l } :=
    ⟨_, by simp only [takeUpSettings, Fin.getElem_fin, Vector.getElem_ofFn]; rfl⟩
  obtain ⟨l, hc⟩ := hc
  rw [hc]
  exact ⟨⟨hsc.oneFilling, hsc.onePending, hsc.seqNext⟩, .inl hec⟩

theorem loadCompletes_contextsLegal (hs : ContextsLegal s) (hq : LoadingQuiet s)
    (hl : s.opState = .loading) :
    ContextsLegal (inSomeOrder (List.finRange 2) fixIfRequested (takeUpSettings s)) :=
  TrackersMove.contextsLegal (takeUpSettings_contextsLegal hs hq hl) (.inSomeOrder fixIfRequested_move _)

theorem restartBlocks_contextsLegal (s : State) : ContextsLegal (restartBlocks s) := by
  rw [contextsLegal_iff]
  refine ⟨fun c => ?_, fun c w he => by cases he⟩
  have hc : (restartBlocks s).channels[c] = freshChannel := by
    change (Vector.replicate 16 freshChannel)[c] = _
    simp
  rw [hc]
  exact ⟨⟨by decide, by decide, by decide⟩, .inl ⟨rfl, rfl⟩⟩

end

end Sys2Proof.Machine

namespace Sys2Proof.Machine
open Sys2Proof.Claims

section
variable {s t : State}

/-! ### Every step -/

theorem whilePowered_contextsLegal (hs : ContextsLegal s) {f : State → State} (hf : ContextsLegal (f s)) :
    ContextsLegal (whilePowered f s) := by
  unfold whilePowered
  split
  · exact hf
  · exact hs

theorem onOldest_contextsLegal (hs : ContextsLegal s) {p : CommandFrame → Bool}
    {body : CommandFrame → State → State} (hb : ∀ c, ContextsLegal (body c s)) :
    ContextsLegal (onOldest p body s) := by
  obtain ⟨c, _, _, _, _, e⟩ | e := onOldest_cases p body s
  · rw [e]
    exact hb c
  · rw [e]
    exact hs

theorem withTies_contextsLegal {ties : Ties} {f : State → State} (hf : ContextsLegal (f { s with ties := ties })) :
    ContextsLegal (withTies ties f s) := hf

/-- A command that its own rule only makes answer. -/
theorem answer_contextsLegal (hs : ContextsLegal s) {α : Type} {code : Nat} {parse : List Byte → Option α}
    {st : Status} {res : State → List Byte} :
    ContextsLegal (command code parse (fun _ c s => reply c st (res s) s) s) :=
  command_contextsLegal hs fun _ _ => reply_contextsLegal hs

/-! #### Events of the module -/

theorem execLineAFrameArrival_contextsLegal (hs : ContextsLegal s) {f : Frame} {meeting : Meeting}
    (h : execLineAFrameArrival f meeting s = .next t) : ContextsLegal t := by
  cases h
  refine whilePowered_contextsLegal hs ?_
  split
  · exact sortLineA_contextsLegal (s := { s with ties := meeting.order }) (takeTriggers_talks _)
      (fun _ h => takeTriggers_contextsLegal h _) hs meeting.expiry f
  · exact hs

theorem execLineBFrameArrival_contextsLegal (hs : ContextsLegal s) {f : Frame} {ties : Ties}
    (h : execLineBFrameArrival f ties s = .next t) : ContextsLegal t := by
  cases h
  refine whilePowered_contextsLegal hs ?_
  split
  · exact sortLineB_contextsLegal (s := { s with ties := ties }) hs f
  · exact hs

theorem execSilenceTimeout_contextsLegal (hs : ContextsLegal s) {src : Fin 8} {ties : Ties}
    (h : execSilenceTimeout src ties s = .next t) : ContextsLegal t := by
  cases h
  refine whilePowered_contextsLegal hs ?_
  split
  · exact loseSource_contextsLegal (s := { s with ties := ties }) hs src
  · exact hs

theorem usabilityExpires_move (i : Fin 2) (r : Role) (s : State) :
    TrackersMove s (usabilityExpires i r s) :=
  (putTrackerAt_move i _ s).trans (measurerFailed_move i r _)

theorem holdExpires_move (i : Fin 2) (s : State) :
    TrackersMove s (holdExpires i s) := moved_move i _ _ s

theorem execUsabilityTimeout_contextsLegal (hs : ContextsLegal s) {i : Fin 2} {r : Role} {ties : Ties}
    (h : execUsabilityTimeout i r ties s = .next t) : ContextsLegal t := by
  cases h
  refine whilePowered_contextsLegal hs ?_
  split
  · exact withTies_contextsLegal (TrackersMove.contextsLegal hs (usabilityExpires_move i r _))
  · exact hs

theorem execHoldTimeout_contextsLegal (hs : ContextsLegal s) {i : Fin 2} {ties : Ties}
    (h : execHoldTimeout i ties s = .next t) : ContextsLegal t := by
  cases h
  refine whilePowered_contextsLegal hs ?_
  split
  · exact withTies_contextsLegal (TrackersMove.contextsLegal hs (holdExpires_move i _))
  · exact hs

theorem execEvaluationComplete_contextsLegal (hs : ContextsLegal s) {ties : Ties}
    (h : execEvaluationComplete ties s = .next t) : ContextsLegal t := by
  cases h
  refine whilePowered_contextsLegal hs ?_
  split
  · next c w _ => exact completeEvaluation_contextsLegal (s := { s with ties := ties }) (c := c) (w := w) hs
  · exact hs
  · exact hs

theorem execTransmitComplete_contextsLegal (hs : ContextsLegal s) {l : Line}
    (h : execTransmitComplete l s = .next t) : ContextsLegal t := by
  cases h
  refine whilePowered_contextsLegal hs ?_
  split
  · unfold completeFrame
    refine choose_contextsLegal (setOut_contextsLegal ?_)
    split
    · exact hs
    · exact hs
  · exact hs

theorem execLoadTableCopied_contextsLegal (hs : ContextsLegal s) (hq : LoadingQuiet s)
    (h : execLoadTableCopied s = .next t) : ContextsLegal t := by
  cases h
  refine whilePowered_contextsLegal hs ?_
  split
  · next i hl _ => exact loadTable_contextsLegal hs hq hl i
  · exact hs

theorem execLoadComplete_contextsLegal (hs : ContextsLegal s) (hq : LoadingQuiet s) {ties : Ties}
    (h : execLoadComplete ties s = .next t) : ContextsLegal t := by
  cases h
  refine whilePowered_contextsLegal hs ?_
  split
  · next hl => exact loadCompletes_contextsLegal (s := { s with ties := ties }) hs hq hl.1
  · exact hs

theorem execCommandRestart_contextsLegal (hs : ContextsLegal s) (h : execCommandRestart s = .next t) :
    ContextsLegal t := by
  cases h
  refine whilePowered_contextsLegal hs ?_
  split
  · exact restartBlocks_contextsLegal s
  · exact hs

theorem execStoreProgrammingComplete_contextsLegal (hs : ContextsLegal s) {agrees : Bool}
    (h : execStoreProgrammingComplete agrees s = .next t) : ContextsLegal t := by
  cases h
  refine whilePowered_contextsLegal hs ?_
  split
  · unfold storeCompletes
    dsimp only
    split
    · exact hs
    · exact reportFault_contextsLegal hs
  all_goals exact hs

theorem execRestoreCopyComplete_contextsLegal (hs : ContextsLegal s) {ties : Ties}
    (h : execRestoreCopyComplete ties s = .next t) : ContextsLegal t := by
  cases h
  refine whilePowered_contextsLegal hs ?_
  split
  · next id _ _ => exact restoreCompletes_contextsLegal (s := { s with ties := ties }) hs id
  · exact hs

theorem execProtectionProgrammingComplete_contextsLegal (hs : ContextsLegal s) {agrees : Bool}
    (h : execProtectionProgrammingComplete agrees s = .next t) : ContextsLegal t := by
  cases h
  refine whilePowered_contextsLegal hs ?_
  split
  · unfold protectionCompletes
    split
    · exact hs
    · exact reportFault_contextsLegal hs
  · exact hs

/-! #### Commands of the host computer -/

theorem execIdentify_contextsLegal (hs : ContextsLegal s) (h : execIdentify s = .next t) :
    ContextsLegal t := by
  cases h
  refine onOldest_contextsLegal hs fun c => ?_
  split <;> exact reply_contextsLegal hs

theorem execReadEntry_contextsLegal (hs : ContextsLegal s) (h : execReadEntry s = .next t) :
    ContextsLegal t := by
  cases h
  exact command_contextsLegal hs fun p c => withMemory_contextsLegal hs (reply_contextsLegal hs)

theorem execWriteEntry_contextsLegal (hs : ContextsLegal s) {ties : Ties}
    (h : execWriteEntry ties s = .next t) : ContextsLegal t := by
  cases h
  exact command_contextsLegal hs fun w c => withMemory_contextsLegal hs
    (writeEntry_contextsLegal (s := { s with memOwner := .command, ties := ties }) (w := w) (c := c) hs)

theorem execReadChecks_contextsLegal (hs : ContextsLegal s) (h : execReadChecks s = .next t) :
    ContextsLegal t := by
  cases h
  refine command_contextsLegal hs fun n c => ?_
  split
  · exact withMemory_contextsLegal hs hs
  · exact withMemory_contextsLegal hs (reply_contextsLegal hs)

theorem execSetTracker_contextsLegal (hs : ContextsLegal s) (h : execSetTracker s = .next t) :
    ContextsLegal t := by
  cases h
  refine command_contextsLegal hs fun p c => ?_
  split
  · exact withMemory_contextsLegal hs hs
  · exact withMemory_contextsLegal hs (setTracker_contextsLegal hs)

theorem execStartAnalysis_contextsLegal (hs : ContextsLegal s) (h : execStartAnalysis s = .next t) :
    ContextsLegal t := by
  cases h
  exact command_contextsLegal hs fun _ c => withMemory_contextsLegal hs (reply_contextsLegal
    (startAnalysis_contextsLegal (s := { s with memOwner := .command }) hs))

theorem execStopAnalysis_contextsLegal (hs : ContextsLegal s) (h : execStopAnalysis s = .next t) :
    ContextsLegal t := by
  cases h
  refine command_contextsLegal hs fun _ c => ?_
  split
  · exact reply_contextsLegal (endAnalysis_contextsLegal hs)
  · exact reply_contextsLegal hs

theorem execRestart_contextsLegal (hs : ContextsLegal s) (h : execRestart s = .next t) :
    ContextsLegal t := by
  cases h
  exact command_contextsLegal hs fun _ c => replyWith_contextsLegal hs

theorem execStoreTable_contextsLegal (hs : ContextsLegal s) (h : execStoreTable s = .next t) :
    ContextsLegal t := by
  cases h
  refine command_contextsLegal hs fun n c => ?_
  split
  · exact withMemory_contextsLegal hs hs
  · exact withMemory_contextsLegal hs (reply_contextsLegal hs)

theorem execRestoreTable_contextsLegal (hs : ContextsLegal s) (h : execRestoreTable s = .next t) :
    ContextsLegal t := by
  cases h
  refine command_contextsLegal hs fun n c => ?_
  split
  · exact reply_contextsLegal hs
  · split
    · exact reply_contextsLegal hs
    · split <;> exact reply_contextsLegal hs

theorem execArmCapture_contextsLegal (hs : ContextsLegal s) (h : execArmCapture s = .next t) :
    ContextsLegal t := by
  cases h
  refine command_contextsLegal hs fun _ c => ?_
  split <;> exact reply_contextsLegal hs

theorem execReadCapture_contextsLegal (hs : ContextsLegal s) (h : execReadCapture s = .next t) :
    ContextsLegal t := by
  cases h
  refine command_contextsLegal hs fun p c => ?_
  split <;> exact reply_contextsLegal hs

theorem execReleaseCapture_contextsLegal (hs : ContextsLegal s) (h : execReleaseCapture s = .next t) :
    ContextsLegal t := by
  cases h
  refine command_contextsLegal hs fun _ c => ?_
  split <;> exact reply_contextsLegal hs

theorem execSetRuntimeLock_contextsLegal (hs : ContextsLegal s) (h : execSetRuntimeLock s = .next t) :
    ContextsLegal t := by
  cases h
  refine command_contextsLegal hs fun n c => ?_
  split <;> exact reply_contextsLegal hs

theorem execClearRuntimeLock_contextsLegal (hs : ContextsLegal s) (h : execClearRuntimeLock s = .next t) :
    ContextsLegal t := by
  cases h
  refine command_contextsLegal hs fun n c => ?_
  split
  · exact reply_contextsLegal hs
  · split <;> exact reply_contextsLegal hs

theorem execWriteProtection_contextsLegal (hs : ContextsLegal s) (h : execWriteProtection s = .next t) :
    ContextsLegal t := by
  cases h
  refine command_contextsLegal hs fun r c => ?_
  split
  · exact reply_contextsLegal hs
  · split
    · exact reply_contextsLegal hs
    · split <;> exact reply_contextsLegal hs

/-- What every event of the module and command of the host computer keeps of the windows. -/
theorem exec_contextsLegal (i : Instr) (hq : LoadingQuiet s) (hs : ContextsLegal s)
    (h : exec i s = .next t) : ContextsLegal t := by
  cases i with
  | lineAFrameArrival f m => exact execLineAFrameArrival_contextsLegal hs h
  | lineBFrameArrival f ts => exact execLineBFrameArrival_contextsLegal hs h
  | silenceTimeout src ts => exact execSilenceTimeout_contextsLegal hs h
  | usabilityTimeout i r ts => exact execUsabilityTimeout_contextsLegal hs h
  | holdTimeout i ts => exact execHoldTimeout_contextsLegal hs h
  | evaluationComplete ts => exact execEvaluationComplete_contextsLegal hs h
  | transmitComplete l => exact execTransmitComplete_contextsLegal hs h
  | unknownCommand => cases h; exact onOldest_contextsLegal hs fun c => reply_contextsLegal hs
  | identify => exact execIdentify_contextsLegal hs h
  | readStatus => cases h; exact answer_contextsLegal hs
  | readEntry => exact execReadEntry_contextsLegal hs h
  | writeEntry ts => exact execWriteEntry_contextsLegal hs h
  | readChecks => exact execReadChecks_contextsLegal hs h
  | setTracker => exact execSetTracker_contextsLegal hs h
  | startAnalysis => exact execStartAnalysis_contextsLegal hs h
  | stopAnalysis => exact execStopAnalysis_contextsLegal hs h
  | restart => exact execRestart_contextsLegal hs h
  | commandRestart => exact execCommandRestart_contextsLegal hs h
  | powerOnRestart => cases h; exact restartBlocks_contextsLegal s
  | loadTableCopied => exact execLoadTableCopied_contextsLegal hs hq h
  | loadComplete ts => exact execLoadComplete_contextsLegal hs hq h
  | armCapture => exact execArmCapture_contextsLegal hs h
  | triggerCapture => cases h; exact triggerCommand_contextsLegal hs
  | readCapture => exact execReadCapture_contextsLegal hs h
  | releaseCapture => exact execReleaseCapture_contextsLegal hs h
  | disarmCapture => cases h; exact command_contextsLegal hs fun _ c => reply_contextsLegal hs
  | storeTable => exact execStoreTable_contextsLegal hs h
  | storeProgrammingComplete b => exact execStoreProgrammingComplete_contextsLegal hs h
  | restoreTable => exact execRestoreTable_contextsLegal hs h
  | restoreCopyComplete ts => exact execRestoreCopyComplete_contextsLegal hs h
  | queryProgress => cases h; exact answer_contextsLegal hs
  | setRuntimeLock => exact execSetRuntimeLock_contextsLegal hs h
  | clearRuntimeLock => exact execClearRuntimeLock_contextsLegal hs h
  | writeProtection => exact execWriteProtection_contextsLegal hs h
  | protectionProgrammingComplete b => exact execProtectionProgrammingComplete_contextsLegal hs h
  | freezeProtection => cases h; exact command_contextsLegal hs fun _ c => reply_contextsLegal hs
  | readCounters => cases h; exact answer_contextsLegal hs
  | clearCounters => cases h; exact command_contextsLegal hs fun _ c => reply_contextsLegal hs
  | clearFaults => cases h; exact command_contextsLegal hs fun _ c => reply_contextsLegal hs
  | maintenanceLineChange b => cases h; exact hs
  | localTimeTick => cases h; exact whilePowered_contextsLegal hs hs
  | supplyRemoved => cases h; exact whilePowered_contextsLegal hs hs

end

/-- Settles O9: windows open of channels in `setConsumers` alone, and whatever makes a channel inactive or leaves
ANALYSING ends the channel's windows. -/
theorem contextsStayLegal : Obligations.ContextsStayLegal := by
  intro s t hq hs h
  unfold step at h
  split at h
  · cases h
    exact hs
  · next rest _ => exact exec_contextsLegal (s := { s with pending := rest }) _ hq hs h

end Sys2Proof.Machine

namespace Sys2Proof.Machine
open Sys2Proof.Claims

/-! ## O26: what an evaluation makes of the check results

R32, R72, R89, R95, R96, R98, R100 to R102, R106, R109 to R111. -/

/-! ### Classes, alerts and their entries, as the rules word them -/

/-- R32, R33. -/
theorem resolveClass_eq (kind : Kind) (pulse : Nat) (b : PlanBin) :
    resolveClass kind pulse b = resolvedAs kind pulse b := by
  unfold resolveClass resolvedAs
  cases b.cls with
  | auto =>
    unfold resolveAuto
    simp only [Nat.dvd_iff_mod_eq_zero]
    cases kind <;> simp [Kind.isDC]
  | characteristic => rfl
  | noncharacteristic => rfl
  | watch => rfl

/-- 6.5, R110: an alert begins, ends, or does neither. -/
theorem alertCause_eq (begins ends : Cause) (before after : CheckState) :
    (if alertBegan before after then some begins else if alertEnded before after then some ends else none)
      = alertCause begins ends before after := by
  cases before <;> cases after <;> simp [alertBegan, alertEnded, CheckState.inAlert, alertCause]

/-- R111. -/
theorem alertEntry?_eq : EvalInput.alertEntry? = entryOf := by
  funext x
  cases x with
  | binAlert c seq k cls => cases cls <;> rfl
  | _ => rfl

theorem stateBefore_eq (x : EvalInput) (k : Nat) : x.stateBefore k = stateOf x.before k := by
  unfold EvalInput.stateBefore stateOf
  cases x.before.bins.find? fun b => b.k == k <;> rfl

/-! ### The check results of a plan row -/

section
variable {x : EvalInput}

/-- R95, R96: the entries of the row have distinct k, and the results before are one for each of them, with a
check state exactly where the class is not WATCH. -/
def ChecksFit (x : EvalInput) : Prop :=
  (x.row.bins.map PlanBin.k).Nodup
    ∧ List.Forall₂ (fun (b : PlanBin) (z : BinCheck) => z.k = b.k ∧ (z.state = none ↔ b.cls = .watch))
      x.row.bins x.before.bins

theorem ChecksFit.keys (h : ChecksFit x) :
    x.before.bins.map BinCheck.k = x.row.bins.map PlanBin.k :=
  results_keys h.2

theorem ChecksFit.keys_nodup (h : ChecksFit x) : (x.before.bins.map BinCheck.k).Nodup := by
  rw [h.keys]
  exact h.1

theorem checkAfter_k (x : EvalInput) (z : BinCheck) : (x.checkAfter z).k = z.k := by
  unfold EvalInput.checkAfter
  split <;> rfl

/-- The results after an evaluation are of the entries they were of. -/
theorem checksAfter_keys (x : EvalInput) :
    x.checksAfter.bins.map BinCheck.k = x.before.bins.map BinCheck.k := by
  unfold EvalInput.checksAfter
  rw [List.map_map]
  exact List.map_congr_left fun z _ => checkAfter_k x z

theorem mem_planBins {b : PlanBin} (h : b ∈ x.planBins) : b ∈ x.row.bins := by
  obtain ⟨k, _, hk⟩ := List.mem_filterMap.mp h
  exact List.mem_of_find?_eq_some hk

/-- R56, R69: with the snapshot of the row an evaluation judges every entry of the row, in its order. -/
theorem ChecksFit.planBins (h : ChecksFit x) (hs : x.window.snapshot = x.row.bins.map PlanBin.k) :
    x.planBins = x.row.bins := by
  unfold EvalInput.planBins
  rw [hs, List.filterMap_map]
  exact (List.filterMap_congr fun b hb => find?_eq_of_unique h.1 hb rfl).trans (List.filterMap_some)

variable {b : PlanBin} {z : BinCheck}

/-- R96: only the result of a WATCH bin has no check state. -/
theorem ChecksFit.watch_iff (h : ChecksFit x) (hb : b ∈ x.row.bins) (hz : z ∈ x.before.bins) (hk : z.k = b.k) :
    z.state = none ↔ b.cls = .watch := by
  obtain ⟨hn, hf⟩ := h
  rw [List.forall₂_iff_get] at hf
  obtain ⟨hlen, hf⟩ := hf
  obtain ⟨i, hi, rfl⟩ := List.mem_iff_getElem.mp hz
  obtain ⟨h1, h2⟩ := hf i (hlen ▸ hi) hi
  obtain rfl := List.inj_on_of_nodup_map hn hb (List.get_mem x.row.bins ⟨i, hlen ▸ hi⟩) (hk.symm.trans h1)
  exact h2

theorem ChecksFit.stateBefore (h : ChecksFit x) (hz : z ∈ x.before.bins) (hk : z.k = b.k) :
    x.stateBefore b.k = z.state := by
  unfold EvalInput.stateBefore
  rw [find?_eq_of_unique h.keys_nodup hz hk]

/-- R100: a held evaluation keeps a check state. -/
theorem ChecksFit.stateAfter_held (h : ChecksFit x) (hh : x.held = true) (hb : b ∈ x.row.bins)
    (hz : z ∈ x.before.bins) (hk : z.k = b.k) : x.stateAfter b = z.state := by
  have hw := h.watch_iff hb hz hk
  unfold EvalInput.stateAfter
  rw [h.stateBefore hz hk, hh]
  split
  · next hc => exact (hw.mpr hc).symm
  · next hst _ _ => exact hst.symm
  · rfl

/-- R98: one that is not held takes a check state by the tables. -/
theorem ChecksFit.stateAfter_judged (h : ChecksFit x) (hh : x.held = false) {r : Nat} (hr : x.ratio b.k = some r)
    (hb : b ∈ x.row.bins) (hz : z ∈ x.before.bins) (hk : z.k = b.k) :
    x.stateAfter b = z.state.map fun st =>
      checkStep st r b.limit x.row.hysteresis x.row.raiseCount x.row.clearCount := by
  have hw := h.watch_iff hb hz hk
  unfold EvalInput.stateAfter
  rw [h.stateBefore hz hk, hh, hr]
  cases hst : z.state with
  | none =>
    rw [hw.mp hst]
    rfl
  | some st =>
    have hc : b.cls ≠ .watch := fun hc => by
      rw [hw.mpr hc] at hst
      cases hst
    cases hcls : b.cls with
    | watch => exact absurd hcls hc
    | _ => rfl

/-- R100: a held evaluation keeps every check state. -/
theorem ChecksFit.states_held (h : ChecksFit x) (hh : x.held = true) :
    x.checksAfter.bins.map BinCheck.state = x.before.bins.map BinCheck.state := by
  unfold EvalInput.checksAfter
  rw [List.map_map]
  refine List.map_congr_left fun z hz => ?_
  change (x.checkAfter z).state = z.state
  unfold EvalInput.checkAfter
  split
  · next r hr =>
    obtain ⟨b, hb, rfl⟩ := List.mem_map.mp (List.mem_of_find?_eq_some hr)
    have hk : b.k = z.k := by simpa [EvalInput.binResult] using List.find?_some hr
    exact h.stateAfter_held hh (mem_planBins hb) hz hk.symm
  · rfl

/-- R102: the result of an entry after an evaluation is the bin result that the verdict reports. -/
theorem ChecksFit.result_of_mem (h : ChecksFit x) (hs : x.window.snapshot = x.row.bins.map PlanBin.k)
    (hb : b ∈ x.row.bins) {y : BinCheck} (hy : y ∈ x.checksAfter.bins) (hk : y.k = b.k) :
    y.state = x.stateAfter b ∧ y.lastRatio = x.ratio b.k
      ∧ y.lastClass = some (resolveClass x.entry.kind x.group.pulse b) := by
  obtain ⟨z, _, rfl⟩ := List.mem_map.mp hy
  rw [checkAfter_k] at hk
  have hkeys : (x.binResults.map BinResult.k).Nodup := by
    unfold EvalInput.binResults
    rw [h.planBins hs, List.map_map]
    exact h.1
  have hmem : x.binResult b ∈ x.binResults := List.mem_map_of_mem (by rwa [h.planBins hs])
  have hf : x.binResults.find? (fun r => r.k == z.k) = some (x.binResult b) :=
    find?_eq_of_unique hkeys hmem hk.symm
  unfold EvalInput.checkAfter
  rw [hf]
  exact ⟨rfl, rfl, rfl⟩

theorem ChecksFit.stateOf_after (h : ChecksFit x) (hs : x.window.snapshot = x.row.bins.map PlanBin.k)
    (hb : b ∈ x.row.bins) : stateOf x.checksAfter b.k = x.stateAfter b := by
  have hkeys := (checksAfter_keys x).trans h.keys
  have hmem : b.k ∈ x.checksAfter.bins.map BinCheck.k := by
    rw [hkeys]
    exact List.mem_map_of_mem hb
  obtain ⟨y, hy, hk⟩ := List.mem_map.mp hmem
  unfold stateOf
  rw [find?_eq_of_unique (hkeys ▸ h.1) hy hk]
  exact (h.result_of_mem hs hb hy hk).1

/-! ### Ratios, the figure and the causes -/

theorem held_iff (x : EvalInput) :
    x.held = true ↔ x.degraded = true ∨ x.window.test = true ∨ x.noRef = true := by
  unfold EvalInput.held
  rw [Bool.or_eq_true, Bool.or_eq_true, or_assoc]

theorem degraded_iff (x : EvalInput) :
    x.degraded = true ↔ x.group.fillLimit < x.window.filled ∨ x.window.degradedAtOpen = true := by
  unfold EvalInput.degraded Window.isDegraded
  rw [Bool.or_eq_true, decide_eq_true_iff]

/-- R90, R100: an evaluation that is not held has a reference. -/
theorem ratio_of_not_held (hh : x.held = false) (k : Nat) : ∃ r, x.ratio k = some r := by
  have hn : x.noRef = false := by
    rw [← Bool.not_eq_true]
    exact fun hn => Bool.false_ne_true (hh.symm.trans ((held_iff x).mpr (.inr (.inr hn))))
  exact ⟨_, by unfold EvalInput.ratio; rw [hn]; rfl⟩

theorem formsFigure_iff (x : EvalInput) :
    x.formsFigure = true ↔ x.entry.kind = .dcCurrent := beq_iff_eq

theorem interferenceAfter_kept (h : x.held = true ∨ x.entry.kind ≠ .dcCurrent) :
    x.interferenceAfter = x.before.interferenceState := by
  refine if_neg fun hf => ?_
  rw [Bool.and_eq_true, formsFigure_iff, Bool.not_eq_true'] at hf
  obtain h | h := h
  · exact Bool.false_ne_true (hf.2.symm.trans h)
  · exact h hf.1

/-- R106. -/
theorem interferenceAfter_judged (hh : x.held = false) (hk : x.entry.kind = .dcCurrent) :
    x.interferenceAfter = if x.group.interferenceLimit = 0 then .clear
      else checkStep x.before.interferenceState x.figure x.group.interferenceLimit
        x.group.interferenceHysteresis x.row.raiseCount x.row.clearCount :=
  if_pos (by rw [(formsFigure_iff x).mpr hk, hh]; rfl)

theorem causes_held (hh : x.held = true) : x.causes = [] := if_pos hh

/-- R110: the cause that the change of a plan entry's check state gives, read off the check results. -/
def changeCause (x : EvalInput) (b : PlanBin) : Option Cause :=
  match stateOf x.before b.k, stateOf x.checksAfter b.k with
  | some u, some v =>
    let cls := resolvedAs x.entry.kind x.group.pulse b
    alertCause (.binAlert x.channel x.window.seq b.k cls) (.binClear x.channel x.window.seq b.k cls) u v
  | _, _ => none

theorem ChecksFit.binCause (h : ChecksFit x) (hs : x.window.snapshot = x.row.bins.map PlanBin.k)
    (hb : b ∈ x.row.bins) : x.binCause (x.binResult b) = changeCause x b := by
  unfold changeCause EvalInput.binCause
  rw [h.stateOf_after hs hb, ← stateBefore_eq, ← resolveClass_eq]
  change (match x.stateBefore b.k, x.stateAfter b with | some u, some v => _ | _, _ => _) = _
  cases x.stateBefore b.k with
  | none => rfl
  | some u =>
    cases x.stateAfter b with
    | none => rfl
    | some v => exact alertCause_eq _ _ u v

/-- R109, R110: the causes of an evaluation that is not held, in their order. -/
theorem ChecksFit.causes (h : ChecksFit x) (hh : x.held = false)
    (hs : x.window.snapshot = x.row.bins.map PlanBin.k) : x.causes =
      x.row.bins.filterMap (changeCause x)
      ++ (alertCause (.interferenceAlert x.channel x.window.seq x.figure)
        (.interferenceClear x.channel x.window.seq x.figure) x.before.interferenceState
        x.checksAfter.interferenceState).toList
      ++ (if x.checksAfter.code = x.before.code then []
        else [.signature x.channel x.window.seq x.checksAfter.code]) := by
  have hbins : x.binResults.filterMap x.binCause
      = x.row.bins.filterMap fun b => x.binCause (x.binResult b) := by
    unfold EvalInput.binResults
    rw [List.filterMap_map, h.planBins hs]
    rfl
  have hsig : x.signatureCause.toList = if x.checksAfter.code = x.before.code then []
      else [.signature x.channel x.window.seq x.checksAfter.code] := by
    unfold EvalInput.signatureCause
    change (if x.codeAfter = _ then _ else _ : Option Cause).toList = if x.codeAfter = _ then _ else _
    split <;> rfl
  have hfig : x.interferenceCause = alertCause (.interferenceAlert x.channel x.window.seq x.figure)
      (.interferenceClear x.channel x.window.seq x.figure) x.before.interferenceState
      x.checksAfter.interferenceState := alertCause_eq _ _ _ _
  have hc : x.causes = x.binResults.filterMap x.binCause ++ x.interferenceCause.toList
      ++ x.signatureCause.toList := if_neg (by rw [hh]; simp)
  rw [hc, hbins, hsig, hfig, List.filterMap_congr fun b hb => h.binCause hs hb]

end

/-- Legal tables and check results fit each other at every evaluation outside LOADING. -/
theorem evalInput_checksFit {s : State} (ht : TablesLegal s) (hc : ChecksLegal s) (hl : s.opState ≠ .loading)
    (c : Fin 16) (w : Window) :
    ChecksFit (s.evalInput c w) ∧ (s.tables.plans[c].bins.map PlanBin.k).Pairwise (· < ·) := by
  obtain ⟨_, _, _, _, _, hasc⟩ := ht.1 .plans c
  exact ⟨⟨hasc.imp Nat.ne_of_lt, (hc hl c).1.imp fun _ _ h => ⟨h.1, h.2.1⟩⟩, hasc⟩

/-- Settles O26: every result found again by its k is the bin result of its plan entry, and held or not decides
between the state before and R98's tables. -/
theorem heldEvaluationKeepsStates : Obligations.HeldEvaluationKeepsStates := by
  intro s c w ht hc hl x row kind group before after
  obtain ⟨hfit, hasc⟩ := evalInput_checksFit ht hc hl c w
  refine ⟨degraded_iff x, held_iff x, rfl, if_congr (formsFigure_iff x) rfl rfl, fun hs => ?_, fun hh => ?_,
    fun hh hs => ⟨fun b hb y hy hk => ?_, interferenceAfter_judged hh,
      fun hk => interferenceAfter_kept (.inr hk), hfit.causes hh hs, hasc⟩, ?_, rfl⟩
  · refine ⟨(checksAfter_keys x).trans hfit.keys, fun b hb y hy hk => ?_⟩
    obtain ⟨_, hratio, hclass⟩ := hfit.result_of_mem hs hb hy hk
    exact ⟨hratio, hclass.trans (congrArg some (resolveClass_eq _ _ b))⟩
  · have hcauses := causes_held hh
    exact ⟨hfit.states_held hh, interferenceAfter_kept (.inl hh), if_pos hh, hcauses,
      congrArg (List.filterMap EvalInput.alertEntry?) hcauses⟩
  · obtain ⟨r, hr⟩ := ratio_of_not_held hh b.k
    refine ⟨r, hr, fun z hz hzk => ?_⟩
    exact (hfit.result_of_mem hs hb hy hk).1.trans (hfit.stateAfter_judged hh hr hb hz hzk)
  · exact congrArg (List.filterMap · x.causes) alertEntry?_eq

end Sys2Proof.Machine

namespace Sys2Proof.Machine
open Sys2Proof.Claims

/-! ## A tracker and its reports (R45 to R48, R50, R51, R180)

What a tracker becomes at an event of its measurers or timers or at a write, and what it reports of it. -/

/-! ### A fault reported, and a tracker moved, where the record queue has room -/

/-- R181: what a fault reported offers. -/
def capturedRecords (k : FaultKind) (n : Nat) (s : State) : List OutRecord :=
  if s.fault.record.isSome then [] else [.alarm (builtNow (.faultCaptured k n) s)]

/-- R180: the fault unit after a fault that meets a record queue with room. -/
def faultAfter (k : FaultKind) (n : Nat) (d : FaultDetail) (s : State) : FaultUnit :=
  if s.fault.record.isSome then (faultNoted k s).fault else (faultFilled k n d s).fault

theorem reportFault_room {s : State} (hs : LineSettled .b s) (hn : s.records.length < 16) (k : FaultKind)
    (n : Nat) (d : FaultDetail) : (reportFault k n d s).counters = s.counters
      ∧ (reportFault k n d s).fault = faultAfter k n d s := by
  rw [reportFault_eq (.inr hs)]
  unfold faultTaken faultAfter
  split
  · exact ⟨rfl, rfl⟩
  · refine ⟨?_, rfl⟩
    unfold faultFilled joined
    split <;> rfl

theorem fault_congr {s w : State} (hf : w.fault = s.fault) (ht : w.localTime = s.localTime) (k : FaultKind)
    (n : Nat) (d : FaultDetail) : (faultNoted k w).fault = (faultNoted k s).fault
      ∧ (faultFilled k n d w).fault = (faultFilled k n d s).fault := by
  unfold faultNoted faultFilled
  dsimp only
  rw [hf, ht]
  exact ⟨rfl, rfl⟩

theorem reports_congr {s w : State} (hf : w.fault = s.fault) (ht : w.localTime = s.localTime)
    (hi : w.station = s.station ∧ w.streamType = s.streamType) (k : FaultKind) (n : Nat) (d : FaultDetail) :
    capturedRecords k n w = capturedRecords k n s ∧ faultAfter k n d w = faultAfter k n d s
      ∧ ∀ c, builtNow c w = builtNow c s := by
  unfold capturedRecords faultAfter faultNoted faultFilled builtNow
  rw [hf, ht, hi.1, hi.2]
  exact ⟨rfl, rfl, fun _ => rfl⟩

theorem Reports.identity {s t : State} (h : Reports s t) : t.localTime = s.localTime
    ∧ t.station = s.station ∧ t.streamType = s.streamType := by
  obtain ⟨_, _, _, _, _, _, rfl⟩ := h
  exact ⟨rfl, rfl, rfl⟩

/-- What an alarm record and a fault leave of the reports, where the queue has room and the record is offered
first. -/
theorem alarm_then_fault {p : State} (hs : LineSettled .b p) (hn : p.records.length + 2 ≤ 16) (c : Cause)
    (k : FaultKind) (n : Nat) (d : FaultDetail) :
    let u := reportFault k n d (offerAlarm c p)
    Offered (.alarm (builtNow c p) :: capturedRecords k n p) p u ∧ u.counters = p.counters
      ∧ u.fault = faultAfter k n d p := by
  have hq := offerRecord_quiet hs (Nat.lt_of_succ_lt hn) (.alarm (p.alarm c))
  have ho := offerRecord_offered hs (Nat.lt_of_succ_lt hn) (.alarm (p.alarm c))
  have hid := (offerRecord_reports (.alarm (p.alarm c)) p).identity
  obtain ⟨e1, e2, _⟩ := reports_congr hq.1 hid.1 hid.2 k n d
  have hs' := ho.settled hs
  have hn' : (offerAlarm c p).records.length < 16 := Nat.lt_of_le_of_lt ho.length hn
  obtain ⟨hc, hf⟩ := reportFault_room hs' hn' k n d
  refine ⟨ho.trans (bs := capturedRecords k n p) ?_, hc.trans hq.2, hf.trans e2⟩
  rw [← e1]
  exact reportFault_offered hs' hn' k n d

/-- The same, the fault first. -/
theorem fault_then_alarm {p : State} (hs : LineSettled .b p) (hn : p.records.length + 2 ≤ 16) (c : Cause)
    (k : FaultKind) (n : Nat) (d : FaultDetail) :
    let u := offerAlarm c (reportFault k n d p)
    Offered (capturedRecords k n p ++ [.alarm (builtNow c p)]) p u ∧ u.counters = p.counters
      ∧ u.fault = faultAfter k n d p := by
  obtain ⟨hc, hf⟩ := reportFault_room hs (Nat.lt_of_succ_lt hn) k n d
  have ho := reportFault_offered hs (Nat.lt_of_succ_lt hn) k n d
  obtain ⟨h1, h2, h3⟩ := (reportFault_reports k n d p).identity
  have hb : OutRecord.alarm ((reportFault k n d p).alarm c) = .alarm (builtNow c p) := by
    unfold State.alarm builtNow
    rw [h1, h2, h3]
  have hl : (capturedRecords k n p).length ≤ 1 := by
    unfold capturedRecords
    split <;> simp
  have hn' : (reportFault k n d p).records.length < 16 := by
    have := ho.length
    unfold capturedRecords at hl
    omega
  have hs' := ho.settled hs
  have hq := offerRecord_quiet hs' hn' (.alarm ((reportFault k n d p).alarm c))
  refine ⟨ho.trans ?_, hq.2.trans hc, hq.1.trans hf⟩
  rw [← hb]
  exact offerRecord_offered hs' hn' _

/-- R180, R181: a record offered with a fault, in either order, where the fault record is held and where it is
empty. -/
theorem offered_with_fault {s u : State} {m : OutRecord} {k : FaultKind} {n : Nat} {d : FaultDetail}
    {l : List OutRecord} (ho : Offered l s u) (hf : u.fault = faultAfter k n d s)
    (hl : l = m :: capturedRecords k n s ∨ l = capturedRecords k n s ++ [m]) :
    (s.fault.record.isSome = true → Offered [m] s u ∧ u.fault = (faultNoted k s).fault)
      ∧ (s.fault.record = none →
        (Offered [m, .alarm (builtNow (.faultCaptured k n) s)] s u
          ∨ Offered [.alarm (builtNow (.faultCaptured k n) s), m] s u)
          ∧ u.fault = (faultFilled k n d s).fault) := by
  unfold capturedRecords at hl
  unfold faultAfter at hf
  refine ⟨fun h => ?_, fun h => ?_⟩
  · rw [if_pos h] at hl hf
    obtain rfl | rfl := hl
    · exact ⟨ho, hf⟩
    · exact ⟨ho, hf⟩
  · have hn : ¬ s.fault.record.isSome = true := by simp [h]
    rw [if_neg hn] at hl hf
    obtain rfl | rfl := hl
    · exact ⟨.inl ho, hf⟩
    · exact ⟨.inr ho, hf⟩

/-- R51, R180, R181: the reports of a tracker that moves. -/
theorem trackerMoved_reported (i : Fin 2) (k : Option FaultKind) (new : Tracker) (s : State) :
    TrackerReported i k s (trackerMoved i k (putTrackerAt i new s)) := by
  have hget : (putTrackerAt i new s).trackers[i] = new := putAt_same _ _ _
  have hnow : (trackerMoved i k (putTrackerAt i new s)).trackers[i] = new :=
    (congrArg (·[i]) (trackerMoved_reports i k (putTrackerAt i new s)).trackers).trans hget
  unfold TrackerReported
  dsimp only
  rw [hnow]
  intro hs hn
  cases k with
  | none =>
    have hb := moved_becomes i new none s
    have hn' : s.records.length < 16 := Nat.lt_of_succ_lt hn
    obtain ⟨hf, hc⟩ := hb.quiet rfl fun _ => ⟨hs, hn'⟩
    exact ⟨by rw [hc], by rw [hc], hb.queue (.inl rfl) hs hn', hf⟩
  | some k =>
    have he : trackerMoved i (some k) (putTrackerAt i new s)
        = either (offerAlarm (.trackerState i new.state new.freq)) (reportFault k i.val (.number new.freq))
          (putTrackerAt i new s) := by
      unfold trackerMoved
      rw [hget]
    rw [he]
    obtain ⟨ts, e | e⟩ := either_cases (offerAlarm (.trackerState i new.state new.freq))
      (reportFault k i.val (.number new.freq)) (putTrackerAt i new s)
    · rw [e]
      obtain ⟨ho, hc, hf⟩ := alarm_then_fault (p := { putTrackerAt i new s with ties := ts }) hs hn
        (.trackerState i new.state new.freq) k i.val (.number new.freq)
      exact ⟨by rw [hc]; rfl, by rw [hc]; rfl,
        offered_with_fault (ho.congr ⟨rfl, rfl⟩ ⟨rfl, rfl⟩) hf (.inl rfl)⟩
    · rw [e]
      obtain ⟨ho, hc, hf⟩ := fault_then_alarm (p := { putTrackerAt i new s with ties := ts }) hs hn
        (.trackerState i new.state new.freq) k i.val (.number new.freq)
      exact ⟨by rw [hc]; rfl, by rw [hc]; rfl,
        offered_with_fault (ho.congr ⟨rfl, rfl⟩ ⟨rfl, rfl⟩) hf (.inr rfl)⟩

/-- States that differ in what no report reads have the same reports of a tracker. -/
theorem TrackerReported.congr {i : Fin 2} {k : Option FaultKind} {s s' t t' : State}
    (h : TrackerReported i k s t) (hs : NothingReported s s')
    (hid : s'.localTime = s.localTime ∧ s'.station = s.station ∧ s'.streamType = s.streamType)
    (ht : NothingReported t t') (hst : t'.trackers[i].state = t.trackers[i].state)
    (hfr : t'.trackers[i].freq = t.trackers[i].freq) : TrackerReported i k s' t' := by
  obtain ⟨hr, hb, hf, hc⟩ := hs
  obtain ⟨hr', hb', hf', hc'⟩ := ht
  unfold TrackerReported at h ⊢
  dsimp only at h ⊢
  intro hl hn
  have hj := joined_eq_of_same hr hb
  have hl' : LineSettled .b s := LineSettled.congr (s := s') (l := .b) hb.symm hr.symm hl
  obtain ⟨h1, h2, h3⟩ := h hl' (hr ▸ hn)
  rw [hc, hc', hst, hfr]
  refine ⟨h1, h2, ?_⟩
  cases k with
  | none =>
    obtain ⟨_, _, hbn⟩ := reports_congr hf hid.1 hid.2 .sourceLost 0 .absent
    rw [hr', hb', hf', hf, (hj _).1, (hj _).2, hbn]
    exact h3
  | some k =>
    obtain ⟨_, _, hbn⟩ := reports_congr hf hid.1 hid.2 k i.val .absent
    obtain ⟨e1, e2⟩ := fault_congr hf hid.1 k i.val (.number t.trackers[i].freq)
    dsimp only
    rw [hr', hb', hf', hf, (hj _).1, (hj _).2, (hj _).1, (hj _).2, (hj _).1, (hj _).2, hbn, hbn, e1, e2]
    exact h3

/-! ### What becomes of a tracker -/

/-- Tracker `i` has become `new`: it has reported a change of its state, with the fault `k` where there is one,
and nothing else. -/
structure TrackerTurned (i : Fin 2) (new : Tracker) (k : Option FaultKind) (s u : State) : Prop where
  reports : Reports (putTrackerAt i new s) u
  fault : ∀ x, k = some x → Reported x s u
  quiet : new.state = s.trackers[i].state → NothingReported s u
  moved : new.state ≠ s.trackers[i].state → TrackerReported i k s u

section
variable {i : Fin 2} {new x : Tracker} {k : Option FaultKind} {s u : State}

theorem TrackerTurned.put (h : new.state = s.trackers[i].state) :
    TrackerTurned i new none s (putTrackerAt i new s) where
  reports := .refl _
  fault _ h := by cases h
  quiet _ := ⟨rfl, rfl, rfl, rfl⟩
  moved h' := absurd h h'

theorem TrackerTurned.move (h : new.state ≠ s.trackers[i].state) :
    TrackerTurned i new k s (trackerMoved i k (putTrackerAt i new s)) where
  reports := trackerMoved_reports i k _
  fault := (moved_becomes i new k s).fault
  quiet h' := absurd h' h
  moved _ := trackerMoved_reported i k new s

theorem TrackerTurned.same : TrackerTurned i s.trackers[i] none s s := by
  have h : putTrackerAt i s.trackers[i] s = s := by simp [putTrackerAt, putAt]
  have hp := TrackerTurned.put (i := i) (s := s) (new := s.trackers[i]) rfl
  rwa [h] at hp

theorem TrackerTurned.tracker (h : TrackerTurned i new k s u) : u.trackers[i] = new := by
  rw [h.reports.trackers]
  exact putAt_same _ _ _

/-- A tracker replaced without a change of its state, before it turns. -/
theorem TrackerTurned.after_put (h : TrackerTurned i new k (putTrackerAt i x s) u)
    (hx : x.state = s.trackers[i].state) : TrackerTurned i new k s u where
  reports := putTrackerAt_put i x new s ▸ h.reports
  fault := h.fault
  quiet hn := h.quiet (hn.trans (hx.symm.trans (congrArg Tracker.state (putAt_same _ _ _).symm)))
  moved hn :=
    TrackerReported.congr
      (h.moved fun e => hn (e.trans ((congrArg Tracker.state (putAt_same _ _ _)).trans hx)))
      ⟨rfl, rfl, rfl, rfl⟩ ⟨rfl, rfl, rfl⟩ ⟨rfl, rfl, rfl, rfl⟩ rfl rfl

/-- A tracker replaced after it has turned, in what it does not report. -/
theorem TrackerTurned.then_put (h : TrackerTurned i x k s u) (hs : new.state = x.state) (hf : new.freq = x.freq) :
    TrackerTurned i new k s (putTrackerAt i new u) where
  reports := by
    obtain ⟨_, _, _, _, _, _, e⟩ := h.reports
    rw [e]
    exact putTrackerAt_put i x new s ▸ .refl _
  fault := h.fault
  quiet hn := h.quiet (hs.symm.trans hn)
  moved hn := by
    have hg : (putTrackerAt i new u).trackers[i] = new := putAt_same _ _ _
    exact TrackerReported.congr (h.moved (hs ▸ hn)) ⟨rfl, rfl, rfl, rfl⟩ ⟨rfl, rfl, rfl⟩ ⟨rfl, rfl, rfl, rfl⟩
      (by rw [hg, h.tracker, hs]) (by rw [hg, h.tracker, hf])

theorem modeRequested_auto {f hold : Nat} {tr : Tracker} (h : tr.state ≠ .fixed) :
    modeRequested .auto f hold tr = tr := if_neg h

theorem modeRequested_released {f hold : Nat} {tr : Tracker} (h : tr.state = .fixed) :
    modeRequested .auto f hold tr = tr.enterHold hold := if_pos h

/-- R50, R51: what a requested mode makes of a tracker. -/
theorem requestMode_turned (i : Fin 2) (m : RequestedMode) (f : Nat) (s : State) :
    TrackerTurned i (modeRequested m f s.tables.trackers[i].holdTime s.trackers[i]) none s
      (requestMode i m f s) := by
  unfold requestMode
  dsimp only
  split
  · next h =>
    exact .put h.symm
  · next h =>
    rw [modeRequested_released h]
    exact .move (by rw [h]; exact nofun)
  · next h => exact .move fun e => h e.symm
  · next h =>
    rw [modeRequested_auto h]
    exact .same

/-- R45, R46: the tracker that followed the primary has no usable secondary. -/
theorem afterFailure_held {failed : Role → Bool} {tr : Tracker} (hold : Nat) (h : tr.state = .followPrimary)
    (hf : failed .primary = true) (hu : tr.secondary.usable = false ∨ tr.secondary.last = none) :
    afterFailure failed hold tr = tr.enterHold hold ∧ failureFault failed tr = some .trackerHold := by
  unfold afterFailure failureFault
  rw [if_pos ⟨h, hf⟩, if_pos ⟨h, hf⟩]
  obtain hu | hu := hu
  · rw [hu]
    exact ⟨rfl, rfl⟩
  · rw [hu]
    refine ⟨?_, by simp⟩
    cases tr.secondary.usable <;> rfl

/-- R45: the tracker that followed the primary has a usable secondary. -/
theorem afterFailure_switched {failed : Role → Bool} {tr : Tracker} {m : Measurement} (hold : Nat)
    (h : tr.state = .followPrimary) (hf : failed .primary = true) (hu : tr.secondary.usable = true)
    (hl : tr.secondary.last = some m) : afterFailure failed hold tr = tr.follow .secondary m.freq
      ∧ failureFault failed tr = some .referenceSwitch := by
  unfold afterFailure failureFault
  rw [if_pos ⟨h, hf⟩, if_pos ⟨h, hf⟩, hu, hl]
  exact ⟨rfl, rfl⟩

/-- R46: the tracker followed the secondary. -/
theorem afterFailure_lost {failed : Role → Bool} {tr : Tracker} (hold : Nat) (h : tr.state = .followSecondary)
    (hf : failed .secondary = true) :
    afterFailure failed hold tr = tr.enterHold hold ∧ failureFault failed tr = some .trackerHold := by
  have hn : ¬ (tr.state = .followPrimary ∧ failed .primary = true) := by simp [h]
  unfold afterFailure failureFault
  rw [if_neg hn, if_neg hn, if_pos ⟨h, hf⟩, if_pos ⟨h, hf⟩]
  exact ⟨rfl, rfl⟩

theorem followState_ne_hold (r : Role) : followState r ≠ .hold := by
  cases r <;> exact nofun

theorem followState_ne_free (r : Role) : followState r ≠ .free := by
  cases r <;> exact nofun

/-- R45, R46, R51: what a measurer that has become unusable makes of its tracker. -/
theorem measurerFailed_turned (i : Fin 2) (r : Role) (s : State) :
    TrackerTurned i (afterFailure (fun x => decide (x = r)) s.tables.trackers[i].holdTime s.trackers[i])
      (failureFault (fun x => decide (x = r)) s.trackers[i]) s (measurerFailed i r s) := by
  have hheld : ∀ {r} {k : FaultKind}, s.trackers[i].state = followState r →
      TrackerTurned i (s.trackers[i].enterHold s.tables.trackers[i].holdTime) (some k) s (trackerMoved i (some k)
        (putTrackerAt i (s.trackers[i].enterHold s.tables.trackers[i].holdTime) s)) := fun {r} _ h =>
    .move (by rw [h]; exact (followState_ne_hold r).symm)
  unfold measurerFailed
  dsimp only
  split
  · next h =>
    split
    · next hu =>
      split
      · next m hl =>
        obtain ⟨e1, e2⟩ := afterFailure_switched (failed := fun x => decide (x = Role.primary))
          s.tables.trackers[i].holdTime h rfl hu hl
        rw [e1, e2]
        exact .move (by rw [h]; exact nofun)
      · next hl =>
        obtain ⟨e1, e2⟩ := afterFailure_held (failed := fun x => decide (x = Role.primary))
          s.tables.trackers[i].holdTime h rfl (.inr hl)
        rw [e1, e2]
        exact hheld (r := .primary) h
    · next hu =>
      obtain ⟨e1, e2⟩ := afterFailure_held (failed := fun x => decide (x = Role.primary))
        s.tables.trackers[i].holdTime h rfl (.inl (by simpa using hu))
      rw [e1, e2]
      exact hheld (r := .primary) h
  · next h =>
    obtain ⟨e1, e2⟩ := afterFailure_lost (failed := fun x => decide (x = Role.secondary))
      s.tables.trackers[i].holdTime h rfl
    rw [e1, e2]
    exact hheld (r := .secondary) h
  · next r _ _ h1 h2 =>
    obtain ⟨e1, e2⟩ := afterFailure_none (failed := fun x => decide (x = r)) (tr := s.trackers[i])
      s.tables.trackers[i].holdTime (fun h => h1 h.1 (of_decide_eq_true h.2).symm)
      (fun h => h2 h.1 (of_decide_eq_true h.2).symm)
    rw [e1, e2]
    exact .same

/-- R45, R46, R51: both measurers have failed at one moment before their tracker acts, or one of them or none. -/
theorem failures_turned (i : Fin 2) (failed : Role → Bool) (s : State)
    (hs : failed .secondary = true → s.trackers[i].secondary.usable = false) :
    TrackerTurned i (afterFailure failed s.tables.trackers[i].holdTime s.trackers[i])
      (failureFault failed s.trackers[i]) s (failures i failed s) := by
  unfold failures
  dsimp only
  by_cases hp : s.trackers[i].state = .followPrimary ∧ failed .primary = true
  · obtain ⟨hst, hp⟩ := hp
    have hb := measurerFailed_turned i .primary s
    obtain ⟨e1, e2⟩ := afterFailure_primary (failed := failed) (failed' := fun x => decide (x = .primary))
      s.tables.trackers[i].holdTime hst hp rfl
    rw [← e1, ← e2] at hb
    rw [if_pos hp]
    split
    · next hq =>
      have hheld : (measurerFailed i .primary s).trackers[i].state = .hold := by
        rw [hb.tracker, (afterFailure_held _ hst hp (.inl (hs hq))).1]
        rfl
      rw [measurerFailed_idle (by rw [hheld]; simp) (by rw [hheld]; simp)]
      exact hb
    · exact hb
  · have h1 : (if failed .primary = true then measurerFailed i .primary s else s) = s := by
      split
      · next hf => exact measurerFailed_idle (fun h => hp ⟨h.1, hf⟩) (by simp)
      · rfl
    rw [h1]
    by_cases hq : s.trackers[i].state = .followSecondary ∧ failed .secondary = true
    · obtain ⟨hst, hq⟩ := hq
      obtain ⟨e1, e2⟩ := afterFailure_secondary (failed := failed)
        (failed' := fun x => decide (x = .secondary)) s.tables.trackers[i].holdTime hst hq rfl
      rw [if_pos hq, e1, e2]
      exact measurerFailed_turned i .secondary s
    · obtain ⟨e1, e2⟩ := afterFailure_none s.tables.trackers[i].holdTime hp hq
      rw [e1, e2]
      split
      · next hf =>
        rw [measurerFailed_idle (by simp) (fun h => hq ⟨h.1, hf⟩)]
        exact .same
      · exact .same

/-- R44, R45, R46, R48, R51: what a valid measurement makes of a tracker. -/
theorem measurerSucceeded_turned (i : Fin 2) (r : Role) (f : Nat) (q : Bool) (s : State) :
    TrackerTurned i (steered r f q s.trackers[i]) none s (measurerSucceeded i r f q s) := by
  have hrec : s.trackers[i].state ≠ followState r →
      TrackerTurned i (if q then s.trackers[i].follow r f else s.trackers[i]) none s
        (if q then trackerMoved i none (putTrackerAt i (s.trackers[i].follow r f) s) else s) := fun h => by
    split
    · exact .move fun e => h (by rw [← e]; cases r <;> rfl)
    · exact .same
  unfold measurerSucceeded
  dsimp only
  split
  · next h =>
    rw [steered_own h]
    exact .put rfl
  · next h =>
    rw [steered_own h]
    exact .put rfl
  · next h =>
    rw [steered_recovered (.inr (.inr ⟨h, rfl⟩))]
    exact hrec (by rw [h]; exact nofun)
  · next h =>
    rw [steered_recovered (.inl h)]
    exact hrec (by rw [h]; exact (followState_ne_hold _).symm)
  · next h =>
    rw [steered_recovered (.inr (.inl h))]
    exact hrec (by rw [h]; exact (followState_ne_free _).symm)
  · next h =>
    rw [steered_none (by rw [h]; exact nofun) (by rw [h]; simp)]
    exact .same
  · next h =>
    rw [steered_none (by rw [h]; exact (followState_ne_fixed _).symm) (by rw [h]; simp)]
    exact .same

end

/-! ### A TRACKERS entry written (R37, R50) -/

/-- The measurers of a tracker whose reference channel a write changes (R37). -/
def referenceChanged (old new : TrackerEntry) (r : Role) : Bool := old.reference r != new.reference r

/-- R37, R50: a tracker once the mode and the references of its new entry have been taken, before it acts on
measurers that have nothing left. -/
def trackerAsked (old new : TrackerEntry) (tr : Tracker) : Tracker :=
  withMeasurers (fun r =>
      if referenceChanged old new r then Claims.rereferenced (new.reference r) else tr.measurer r)
    (modeRequested new.mode new.fixedFrequency new.holdTime tr)

/-- R37, R50: a tracker after its table entry has been rewritten. -/
def trackerRewritten (old new : TrackerEntry) (tr : Tracker) : Tracker :=
  afterFailure (referenceChanged old new) new.holdTime (trackerAsked old new tr)

theorem rereferenced_eq (c : Option (Fin 16)) : Measurer.rereferenced c = Claims.rereferenced c := by
  cases c <;> rfl

theorem modeRequested_measurer (m : RequestedMode) (f hold : Nat) (tr : Tracker) (r : Role) :
    (modeRequested m f hold tr).measurer r = tr.measurer r := by
  unfold modeRequested
  split
  · cases r <;> rfl
  · split
    · cases r <;> rfl
    · rfl

/-- A requested mode that changes the state of a tracker leaves it following no measurer. -/
theorem modeRequested_state {m : RequestedMode} {f hold : Nat} {tr : Tracker}
    (h : (modeRequested m f hold tr).state ≠ tr.state) :
    (modeRequested m f hold tr).state = .fixed ∨ (modeRequested m f hold tr).state = .hold := by
  cases m with
  | fixed => exact .inl rfl
  | auto =>
    by_cases hf : tr.state = .fixed
    · rw [modeRequested_released hf]
      exact .inr rfl
    · rw [modeRequested_auto hf] at h
      exact absurd rfl h

/-- A requested mode that leaves the state of a tracker reports nothing. -/
theorem requestMode_put {i : Fin 2} {m : RequestedMode} {f : Nat} {s : State}
    (h : (modeRequested m f s.tables.trackers[i].holdTime s.trackers[i]).state = s.trackers[i].state) :
    requestMode i m f s
      = putTrackerAt i (modeRequested m f s.tables.trackers[i].holdTime s.trackers[i]) s := by
  unfold requestMode
  dsimp only
  split
  · rfl
  · next hf =>
    rw [modeRequested_released hf, hf] at h
    cases h
  · next hf => exact absurd h.symm hf
  · next hf =>
    rw [modeRequested_auto hf]
    simp [putTrackerAt, putAt]

theorem failures_idle {i : Fin 2} {failed : Role → Bool} {s : State} (h1 : s.trackers[i].state ≠ .followPrimary)
    (h2 : s.trackers[i].state ≠ .followSecondary) : failures i failed s = s := by
  have h : ∀ r, measurerFailed i r s = s := fun r => measurerFailed_idle (fun h => h1 h.1) fun h => h2 h.1
  unfold failures
  simp only [h, ite_self]

theorem changeReferences_eq (i : Fin 2) (old new : TrackerEntry) (s : State) :
    changeReferences i old new s = failures i (referenceChanged old new)
      (putTrackerAt i (withMeasurers (fun r => if referenceChanged old new r then
        Claims.rereferenced (new.reference r) else s.trackers[i].measurer r) s.trackers[i]) s) := by
  have hc : ∀ {α : Type} (r : Role) (x y : α), (if old.reference r = new.reference r then x else y)
      = if referenceChanged old new r then y else x := fun r x y => by
    unfold referenceChanged
    by_cases h : old.reference r = new.reference r <;> simp [h]
  unfold changeReferences failures withMeasurers
  simp only [hc, rereferenced_eq]

/-- R37, R50, R51: a TRACKERS entry that a write changes. -/
theorem writeTracker_turned {i : Fin 2} {e : TrackerEntry} {s : State} (h : s.tables.trackers[i] ≠ e) :
    TrackerTurned i (trackerRewritten s.tables.trackers[i] e s.trackers[i])
      (failureFault (referenceChanged s.tables.trackers[i] e) (trackerAsked s.tables.trackers[i] e s.trackers[i]))
      { s with tables := replaced s.tables (.tracker i e) } (writeTracker i e s) := by
  have hw : writeTracker i e s = changeReferences i s.tables.trackers[i] e
      (requestMode i e.mode e.fixedFrequency { s with tables := replaced s.tables (.tracker i e) }) := if_neg h
  have hold : ({ s with tables := replaced s.tables (.tracker i e) } : State).tables.trackers[i] = e :=
    putAt_same _ _ _
  generalize hu : ({ s with tables := replaced s.tables (.tracker i e) } : State) = u at hw hold ⊢
  have htr : s.trackers[i] = u.trackers[i] := by rw [← hu]
  rw [hw, changeReferences_eq, htr]
  generalize s.tables.trackers[i] = old
  have hasked : ∀ w : Tracker, w = modeRequested e.mode e.fixedFrequency e.holdTime u.trackers[i] →
      withMeasurers (fun r => if referenceChanged old e r then Claims.rereferenced (e.reference r)
        else w.measurer r) w = trackerAsked old e u.trackers[i] := by
    rintro _ rfl
    unfold trackerAsked
    simp only [modeRequested_measurer]
  have hm := requestMode_turned i e.mode e.fixedFrequency u
  rw [hold] at hm
  rw [hasked _ hm.tracker]
  by_cases hst : (modeRequested e.mode e.fixedFrequency e.holdTime u.trackers[i]).state = u.trackers[i].state
  · have hp := requestMode_put (i := i) (m := e.mode) (f := e.fixedFrequency) (s := u) (by rw [hold]; exact hst)
    rw [hp, putTrackerAt_put]
    have hf := failures_turned i (referenceChanged old e) (putTrackerAt i (trackerAsked old e u.trackers[i]) u)
    rw [putTrackerAt_trackers, putAt_same] at hf
    have hh : (putTrackerAt i (trackerAsked old e u.trackers[i]) u).tables.trackers[i].holdTime = e.holdTime :=
      congrArg TrackerEntry.holdTime hold
    rw [hh] at hf
    exact (hf fun hc => by simp [trackerAsked, withMeasurers, hc, Claims.rereferenced, freshMeasurer]).after_put hst
  · have hn : ∀ r, (trackerAsked old e u.trackers[i]).state ≠ followState r := fun r he => by
      have := modeRequested_state hst
      change (modeRequested e.mode e.fixedFrequency e.holdTime u.trackers[i]).state = _ at he
      rw [he] at this
      exact this.elim (followState_ne_fixed r) (followState_ne_hold r)
    obtain ⟨e1, e2⟩ := afterFailure_none (failed := referenceChanged old e) e.holdTime
      (fun h => hn .primary h.1) (fun h => hn .secondary h.1)
    unfold trackerRewritten
    rw [e1, e2, failures_idle]
    · exact hm.then_put rfl rfl
    · rw [putTrackerAt_trackers, putAt_same]
      exact hn .primary
    · rw [putTrackerAt_trackers, putAt_same]
      exact hn .secondary

end Sys2Proof.Machine

namespace Sys2Proof.Machine
open Sys2Proof.Claims

/-! ### The timers of a tracker (O34: R43, R44, R45, R46, R47, R51) -/

/-- An event taken with coincidences to resolve: what its tracker has become and reported. -/
theorem TrackerTurned.withTies {i : Fin 2} {new : Tracker} {k : Option FaultKind} {s : State} {ties : Ties}
    {f : State → State} (h : TrackerTurned i new k { s with ties := ties } (f { s with ties := ties })) :
    TrackerTurned i new k s (withTies ties f s) where
  reports := by
    obtain ⟨_, _, _, _, _, _, e⟩ := h.reports
    unfold Machine.withTies
    exact ⟨_, _, _, _, _, _, by rw [e]; rfl⟩
  fault := h.fault
  quiet := h.quiet
  moved hn := TrackerReported.congr (h.moved hn) ⟨rfl, rfl, rfl, rfl⟩ ⟨rfl, rfl, rfl⟩ ⟨rfl, rfl, rfl, rfl⟩ rfl rfl

theorem TrackerTurned.onlyReports {i : Fin 2} {new : Tracker} {k : Option FaultKind} {s u : State}
    (h : TrackerTurned i new k s u) : OnlyReports (withTracker i new s) u := h.reports.onlyReports

/-- A tracker that reports a fault has changed its state. -/
theorem failureFault_moves {failed : Role → Bool} {hold : Nat} {tr : Tracker} {k : FaultKind}
    (h : failureFault failed tr = some k) : (afterFailure failed hold tr).state ≠ tr.state := by
  by_cases hp : tr.state = .followPrimary ∧ failed .primary = true
  · obtain ⟨hst, hf⟩ := hp
    cases hu : tr.secondary.usable with
    | false =>
      rw [(afterFailure_held hold hst hf (.inl hu)).1, hst]
      exact nofun
    | true =>
      cases hl : tr.secondary.last with
      | none =>
        rw [(afterFailure_held hold hst hf (.inr hl)).1, hst]
        exact nofun
      | some m =>
        rw [(afterFailure_switched hold hst hf hu hl).1, hst]
        exact nofun
  · by_cases hq : tr.state = .followSecondary ∧ failed .secondary = true
    · rw [(afterFailure_lost hold hq.1 hq.2).1, hq.1]
      exact nofun
    · rw [(afterFailure_none hold hp hq).2] at h
      cases h

/-- A tracker that has failed over, its fault and its record reported. -/
theorem TrackerTurned.failed {i : Fin 2} {failed : Role → Bool} {hold : Nat} {tr new : Tracker} {k : FaultKind}
    {s u : State} (h : TrackerTurned i (afterFailure failed hold tr) (failureFault failed tr) s u)
    (hst : tr.state = s.trackers[i].state)
    (he : afterFailure failed hold tr = new ∧ failureFault failed tr = some k) :
    u.trackers[i] = new ∧ Reported k s u ∧ TrackerReported i (some k) s u := by
  obtain ⟨e1, e2⟩ := he
  refine ⟨h.tracker.trans e1, h.fault k e2, ?_⟩
  rw [← e2]
  exact h.moved (hst ▸ failureFault_moves e2)

theorem setMeasurer_state (tr : Tracker) (r : Role) (m : Measurer) : (tr.setMeasurer r m).state = tr.state := by
  cases r <;> rfl

/-- R43: a measurer once its usability timer has expired. -/
def trackerExpired (r : Role) (tr : Tracker) : Tracker :=
  tr.setMeasurer r { tr.measurer r with usable := false }

theorem usabilityExpires_turned (i : Fin 2) (r : Role) (s : State) :
    TrackerTurned i
      (afterFailure (fun x => decide (x = r)) s.tables.trackers[i].holdTime (trackerExpired r s.trackers[i]))
      (failureFault (fun x => decide (x = r)) (trackerExpired r s.trackers[i])) s (usabilityExpires i r s) := by
  have h := measurerFailed_turned i r (putTrackerAt i (trackerExpired r s.trackers[i]) s)
  rw [putTrackerAt_trackers, putAt_same] at h
  exact h.after_put (setMeasurer_state _ _ _)

theorem holdExpires_turned {i : Fin 2} {s : State} (h : s.trackers[i].state = .hold) :
    TrackerTurned i s.trackers[i].enterFree (some .trackerFree) s (holdExpires i s) :=
  .move (by rw [h]; exact nofun)

/-- R43: an unfollowed measurer's timer does nothing else. -/
theorem usabilityExpires_unfollowed {i : Fin 2} {r : Role} {s : State}
    (h1 : ¬ (s.trackers[i].state = .followPrimary ∧ r = .primary))
    (h2 : ¬ (s.trackers[i].state = .followSecondary ∧ r = .secondary)) :
    usabilityExpires i r s = putTrackerAt i (trackerExpired r s.trackers[i]) s := by
  have hst : (putTrackerAt i (trackerExpired r s.trackers[i]) s).trackers[i].state = s.trackers[i].state :=
    (congrArg Tracker.state (putAt_same _ _ _)).trans (setMeasurer_state _ _ _)
  exact measurerFailed_idle (fun h => h1 ⟨hst ▸ h.1, h.2⟩) fun h => h2 ⟨hst ▸ h.1, h.2⟩

theorem execUsabilityTimeout_eq (i : Fin 2) (r : Role) (ties : Ties) {s : State} (hp : s.powered = true) :
    exec (.usabilityTimeout i r ties) s = .next (if (s.trackers[i].measurer r).usable = true then
      withTies ties (usabilityExpires i r) s else s) := by
  change Host.Outcome.next (whilePowered _ s) = _
  unfold whilePowered
  rw [if_pos hp]

theorem execHoldTimeout_eq (i : Fin 2) (ties : Ties) {s : State} (hp : s.powered = true) :
    exec (.holdTimeout i ties) s = .next (if s.trackers[i].state = .hold then
      withTies ties (holdExpires i) s else s) := by
  change Host.Outcome.next (whilePowered _ s) = _
  unfold whilePowered
  rw [if_pos hp]

/-- Settles O34: both timers act through the failure of a measurer or the move of a tracker. -/
theorem trackerTimersExpire : Obligations.TrackerTimersExpire := by
  refine ⟨fun i r ties s hp => ⟨fun h => ?_, fun h => ?_⟩, fun i ties s hp => ⟨fun h => ?_, fun h => ?_⟩⟩
  · rw [execUsabilityTimeout_eq i r ties hp, if_neg (by rw [h]; exact nofun)]
  · have he : exec (.usabilityTimeout i r ties) s = .next (withTies ties (usabilityExpires i r) s) := by
      rw [execUsabilityTimeout_eq i r ties hp, if_pos h]
    have ht := TrackerTurned.withTies (usabilityExpires_turned i r { s with ties := ties })
    have hst : (trackerExpired r s.trackers[i]).state = s.trackers[i].state := setMeasurer_state _ _ _
    refine ⟨_, he, ?_, ?_, ?_, ?_, ?_⟩
    · rw [ht.tracker]
      exact ht.onlyReports
    · rintro hs rfl hu
      exact ht.failed hst (afterFailure_held _ (hst.trans hs) rfl (.inl hu))
    · rintro m hs rfl hu hl
      exact ht.failed hst (afterFailure_switched _ (hst.trans hs) rfl hu hl)
    · rintro hs rfl
      exact ht.failed hst (afterFailure_lost _ (hst.trans hs) rfl)
    · intro h1 h2
      unfold Machine.withTies
      rw [usabilityExpires_unfollowed (s := { s with ties := ties }) h1 h2]
      rfl
  · rw [execHoldTimeout_eq i ties hp, if_neg h]
  · have he : exec (.holdTimeout i ties) s = .next (withTies ties (holdExpires i) s) := by
      rw [execHoldTimeout_eq i ties hp, if_pos h]
    have ht := TrackerTurned.withTies (holdExpires_turned (s := { s with ties := ties }) h)
    refine ⟨_, he, ht.reports.trackers, ht.fault _ rfl, ht.moved (by rw [h]; exact nofun), ?_⟩
    rw [ht.tracker]
    exact ht.onlyReports

end Sys2Proof.Machine

namespace Sys2Proof.Machine
open Sys2Proof.Claims

/-! ### A measurer takes a sample (O35: R38 to R43) -/

/-- R40: when a sample makes a positive-going crossing. -/
theorem crosses_iff (m : Measurer) (x : Int) :
    m.crosses x = true ↔ ∃ x0, m.armed = true ∧ m.prev = some x0 ∧ x0 < 0 ∧ 0 ≤ x := by
  unfold Measurer.crosses
  cases hp : m.prev with
  | none => simp
  | some x0 => simp [and_assoc]

/-- R41: a sample once it has been taken in, before a crossing of it is acted on. -/
def sampleTakenIn (m : Measurer) (x : Int) : Measurer :=
  { m with prev := some x, index := m.index + 1
           peak := if m.state = .counting then max m.peak x.natAbs else m.peak }

/-- R40: a sample that makes a crossing. -/
def sampleCounted (m : Measurer) (x : Int) : Measurer := { sampleTakenIn m x with armed := false }

/-- R40: the stamp of a crossing, in 256ths of a sample. -/
def crossedAt (m : Measurer) (x0 x : Int) : Nat := 256 * (m.index - 1) + 256 * x0.natAbs / (x - x0).toNat

theorem peakAfter_eq (m : Measurer) (x : Int) :
    m.peakAfter x = if m.state = .counting then max m.peak x.natAbs else m.peak := by
  unfold Measurer.peakAfter
  cases m.state <;> rfl

/-- R40: a sample that makes no crossing. -/
theorem sample_uncrossed {m : Measurer} {x : Int} (floor : Nat) (h : m.crosses x = false) : m.sample floor x
    = ({ sampleTakenIn m x with armed := m.armed || decide (x < -((floor / 2 : Nat) : Int)) }, .nothing) := by
  unfold Measurer.sample sampleTakenIn
  rw [h, peakAfter_eq]
  rfl

theorem sample_crossed {m : Measurer} {x x0 : Int} (floor : Nat) (h : m.crosses x = true) (hp : m.prev = some x0)
    (hx : x0 < 0) : m.sample floor x
      = (sampleCounted m x).onCrossing (crossedAt m x0 x) x floor := by
  have hs : crossingStamp (m.index - 1) x0 x = crossedAt m x0 x := by
    have hn : (-x0).toNat = x0.natAbs := by omega
    unfold crossingStamp crossedAt
    rw [hn]
  unfold Measurer.sample sampleCounted sampleTakenIn
  rw [h, peakAfter_eq, hp, ← hs]
  rfl

/-- R42: when a measurement is valid. -/
theorem measurementValid_iff (f peak floor : Nat) :
    measurementValid f peak floor = true ↔ 45000 ≤ f ∧ f ≤ 55000 ∧ floor ≤ peak := by
  simp [measurementValid, and_assoc]

theorem complete_valid {m : Measurer} {f peak floor : Nat} (h : 45000 ≤ f ∧ f ≤ 55000 ∧ floor ≤ peak) :
    m.complete f peak floor
      = ({ m with last := some { freq := f, valid := true }, run := min 255 (m.run + 1), usable := true },
        .valid f (decide (1 ≤ m.run))) := by
  have hq : decide (2 ≤ min 255 (m.run + 1)) = decide (1 ≤ m.run) := decide_eq_decide.mpr (by omega)
  unfold Measurer.complete
  rw [if_pos ((measurementValid_iff _ _ _).mpr h)]
  dsimp only
  rw [hq]

theorem complete_invalid {m : Measurer} {f peak floor : Nat} (h : ¬ (45000 ≤ f ∧ f ≤ 55000 ∧ floor ≤ peak)) :
    m.complete f peak floor
      = ({ m with last := some { freq := f, valid := false }, run := 0, usable := false },
        if m.usable then .unusable else .nothing) :=
  if_neg fun hv => h ((measurementValid_iff _ _ _).mp hv)

/-- R41: a crossing opens a span. -/
theorem onCrossing_seeking {m : Measurer} (h : m.state = .seeking) (stamp : Nat) (x : Int) (floor : Nat) :
    m.onCrossing stamp x floor = 
      ({ m with state := .counting, startStamp := stamp, crossings := 0, peak := x.natAbs }, .nothing) := by
  unfold Measurer.onCrossing
  rw [h]

/-- R41: a crossing is one of the first nine of a span. -/
theorem onCrossing_counted {m : Measurer} (h : m.state = .counting) (hc : m.crossings < 9) (stamp : Nat) (x : Int)
    (floor : Nat) : m.onCrossing stamp x floor = ({ m with crossings := m.crossings + 1 }, .nothing) := by
  unfold Measurer.onCrossing
  rw [h]
  exact if_pos hc

/-- R41, R42: a crossing ends a span with a valid measurement, and opens the next. -/
theorem onCrossing_valid {m : Measurer} {stamp f floor : Nat} (h : m.state = .counting) (hc : 9 ≤ m.crossings)
    (hf : f = measuredFrequency (stamp - m.startStamp)) (hv : 45000 ≤ f ∧ f ≤ 55000 ∧ floor ≤ m.peak) (x : Int) :
    m.onCrossing stamp x floor
      = ({ m with
            state := .counting, startStamp := stamp, crossings := 0, peak := x.natAbs
            last := some { freq := f, valid := true }, run := min 255 (m.run + 1), usable := true },
        .valid f (decide (1 ≤ m.run))) := by
  unfold Measurer.onCrossing
  rw [h]
  dsimp only
  rw [if_neg (Nat.not_lt.mpr hc), ← hf, complete_valid hv, h]

/-- R41, R42, R43: the same with an invalid one. -/
theorem onCrossing_invalid {m : Measurer} {stamp f floor : Nat} (h : m.state = .counting) (hc : 9 ≤ m.crossings)
    (hf : f = measuredFrequency (stamp - m.startStamp)) (hv : ¬ (45000 ≤ f ∧ f ≤ 55000 ∧ floor ≤ m.peak))
    (x : Int) : m.onCrossing stamp x floor
      = ({ m with
            state := .counting, startStamp := stamp, crossings := 0, peak := x.natAbs
            last := some { freq := f, valid := false }, run := 0, usable := false },
        if m.usable then .unusable else .nothing) := by
  unfold Measurer.onCrossing
  rw [h]
  dsimp only
  rw [if_neg (Nat.not_lt.mpr hc), ← hf, complete_invalid hv, h]

/-- A failure reports no fault only where the tracker followed no measurer that failed. -/
theorem failureFault_none {failed : Role → Bool} {tr : Tracker} (h : failureFault failed tr = none) :
    ¬ (tr.state = .followPrimary ∧ failed .primary = true)
      ∧ ¬ (tr.state = .followSecondary ∧ failed .secondary = true) := by
  refine ⟨fun hp => ?_, fun hq => ?_⟩
  · unfold failureFault at h
    rw [if_pos hp] at h
    cases h
  · rw [(afterFailure_lost 0 hq.1 hq.2).2] at h
    cases h

/-- Settles O35: a sample by the crossing it makes, and the span's state; a tracker by what a measurement makes of
it. -/
theorem measurementsSteerTheTracker : Obligations.MeasurementsSteerTheTracker := by
  refine ⟨fun m floor hm => ⟨rfl, fun v => ?_, fun x => ⟨fun h => ?_, fun x0 h => ?_⟩⟩,
    fun i r f q s => ?_, fun i r s => ?_⟩
  · rw [← toSeeking_eq]
    rfl
  · have hc : m.crosses x = false := by
      rw [Bool.eq_false_iff]
      intro hc
      obtain ⟨x0, h0⟩ := (crosses_iff m x).mp hc
      exact h x0 h0
    exact sample_uncrossed floor hc
  · have hs := sample_crossed (m := m) floor ((crosses_iff m x).mpr ⟨x0, h⟩) h.2.1 h.2.2.1
    refine ⟨fun hst => ?_, fun hst hn => ?_, fun hst hn hv => ?_, fun hst hn hv => ?_⟩
    · exact hs.trans (onCrossing_seeking (m := sampleCounted m x) hst _ x floor)
    · exact hs.trans (onCrossing_counted (m := sampleCounted m x) hst hn _ x floor)
    · exact hs.trans (onCrossing_valid (m := sampleCounted m x) hst hn rfl hv x)
    · exact hs.trans (onCrossing_invalid (m := sampleCounted m x) hst hn rfl hv x)
  · have ht := measurerSucceeded_turned i r f q s
    refine ⟨?_, ht.tracker, fun h => ht.quiet (ht.tracker ▸ h), fun h => ht.moved (ht.tracker ▸ h)⟩
    rw [show (trackerActs i r (.valid f q) s).trackers[i] = _ from ht.tracker]
    exact ht.onlyReports
  · have ht := measurerFailed_turned i r s
    refine ⟨ht.onlyReports, fun h => ?_, fun k h => ?_⟩
    · obtain ⟨h1, h2⟩ := failureFault_none h
      exact measurerFailed_idle (fun h => h1 ⟨h.1, by simp [h.2]⟩) fun h => h2 ⟨h.1, by simp [h.2]⟩
    · exact (ht.failed rfl ⟨rfl, h⟩).2

end Sys2Proof.Machine

namespace Sys2Proof.Machine
open Sys2Proof.Claims

/-! ### SET TRACKER and TRACKERS writes (O46: R37, R50, R51, R160, R173) -/

/-- The state in which a SET TRACKER that owns the memory makes its request. -/
def requestWritten (i : Fin 2) (m : RequestedMode) (f : Nat) (s : State) : State :=
  writeRequest i m f { s with memOwner := .command }

/-- R50: the tracker of a SET TRACKER, after its request. -/
theorem requested_turned (i : Fin 2) (m : RequestedMode) (f : Nat) (s : State) :
    TrackerTurned i (modeRequested m f s.tables.trackers[i].holdTime s.trackers[i]) none (requestWritten i m f s)
      (requestMode i m f (requestWritten i m f s)) := by
  have he : (requestWritten i m f s).tables.trackers[i]
      = { s.tables.trackers[i] with mode := m, fixedFrequency := f } := putAt_same _ _ _
  have hh : (requestWritten i m f s).tables.trackers[i].holdTime = s.tables.trackers[i].holdTime := by rw [he]
  rw [← hh]
  exact requestMode_turned i m f (requestWritten i m f s)

theorem requestMode_linesSettled (i : Fin 2) (m : RequestedMode) (f : Nat) {s : State} (h : LinesSettled s) :
    LinesSettled (requestMode i m f s) :=
  (requestMode_talks (a := False) i m f s).linesSettled (fun _ _ h => h.sameQueues) h

theorem requestMode_engine (i : Fin 2) (m : RequestedMode) (f : Nat) (s : State) :
    (requestMode i m f s).engine = s.engine := (requestMode_move i m f s).elsewhere'.engine

theorem answered_released (c : CommandFrame) (st : Status) (res : List Byte) (s : State) (m : MemOwner) :
    released (answered false c st res { s with memOwner := m }) = released (answered false c st res s) := by
  unfold answered
  cases c.line <;> rfl

/-- R79, R80: what a SET TRACKER that owns the memory comes to, where its answer leaves the engine idle. -/
theorem exec_setTracker_owned {s : State} {c : CommandFrame} {i : Fin 2} {mode f : Nat} (ha : Accepts 0x13 s c)
    (hm : HasMemory s) (hp : parseSetTracker (commandParams c.bytes) = some (i.val, mode, f))
    {st : Status} {res : List Byte} {u : State} (hl : LinesSettled u) (he : u.engine = .idle)
    (h : setTracker i mode f c { s with memOwner := .command } = reply c st res u) :
    exec .setTracker s = .next (released (answered false c st res u)) := by
  change execSetTracker s = _
  have hr : setTracker i mode f c { s with memOwner := .command } = answered false c st res u :=
    h.trans (replyWith_answered (hl c.line) false st res)
  unfold execSetTracker
  rw [command_accepted ha hp, index?_lt i.isLt]
  dsimp only
  rw [withMemory_owned hm, holdingMemory_idle (by rw [hr, answered_engine, he]), hr]

theorem locked_trackers (s : State) : s.locked .trackers = true
    ↔ s.protection.runtime[4] = true ∨ s.inForce.locks[4] = true := by
  unfold State.locked
  rw [Bool.or_eq_true]
  exact Iff.rfl

theorem requestedModeOf?_big {mode : Nat} (h : 1 < mode) : requestedModeOf? mode = none := by
  unfold requestedModeOf?
  split
  · omega
  · omega
  · rfl

theorem requestedModeOf?_code {mode : Nat} (h : mode ≤ 1) :
    requestedModeOf? mode = some (if mode = 1 then .fixed else .auto) := by
  obtain rfl | rfl := Nat.le_one_iff_eq_zero_or_eq_one.mp h <;> rfl

section
variable {s : State} {c : CommandFrame} {i : Fin 2} {mode f : Nat}

/-- R173: TRACKERS locked. -/
theorem setTracker_locked (h : s.locked .trackers = true) : setTracker i mode f c s = reply c .protected_ [] s :=
  if_pos h

/-- R50: a mode or a frequency out of range. -/
theorem setTracker_bad (h : ¬ s.locked .trackers = true) (hb : 1 < mode ∨ f < 47000 ∨ 53000 < f) :
    setTracker i mode f c s = reply c .badParam [] s := by
  unfold setTracker
  rw [if_neg h]
  by_cases hm : 1 < mode
  · rw [requestedModeOf?_big hm]
  · rw [requestedModeOf?_code (Nat.not_lt.mp hm)]
    exact if_pos (hb.resolve_left hm)

/-- R50: the request taken. -/
theorem setTracker_taken (h : ¬ s.locked .trackers = true) {m : RequestedMode}
    (hm : requestedModeOf? mode = some m) (h1 : 47000 ≤ f) (h2 : f ≤ 53000) : setTracker i mode f c s
      = reply c .done (putTrackerInUse (requestMode i m f (writeRequest i m f s)).trackers[i])
        (requestMode i m f (writeRequest i m f s)) := by
  unfold setTracker
  rw [if_neg h, hm]
  exact if_neg (by
    change ¬ (f < 47000 ∨ 53000 < f)
    omega)

end

/-- R79, R160: a command refused before it asks for the memory. -/
theorem withMemory_refused {s : State} (hr : s.command.requested = false) (st : Status) (f : State → State)
    (c : CommandFrame) : withMemory (some st) f c s = reply c st [] s := if_neg (by simp [hr])

theorem replaced_tracker_same (i : Fin 2) (t : Tables) : replaced t (.tracker i t.trackers[i]) = t := by
  simp [replaced]

/-- Settles O46: a SET TRACKER and a TRACKERS write by what the request and the changed references make of the
tracker. -/
theorem setTrackerRequestsAMode : Obligations.SetTrackerRequestsAMode := by
  refine ⟨fun s c i mode f ha hm hp => ⟨fun hl => ?_, fun hl hb => ?_, fun hl h1 h2 h3 => ?_⟩,
    fun s c i mode f ha hp hr => ⟨fun hi => ?_, fun hi hs => ?_⟩, fun i e s => ⟨fun h => ?_, fun h => ?_⟩⟩
  · rw [← answered_released _ _ _ s .command]
    exact exec_setTracker_owned ha hm hp (u := { s with memOwner := .command }) ha.1.2.2.2.2 hm.1
      (setTracker_locked ((locked_trackers s).mpr hl))
  · rw [← answered_released _ _ _ s .command]
    exact exec_setTracker_owned ha hm hp (u := { s with memOwner := .command }) ha.1.2.2.2.2 hm.1
      (setTracker_bad (mt (locked_trackers s).mp hl) hb)
  · have hmode := requestedModeOf?_code h1
    intro m new
    have ht := requested_turned i m f s
    have hset := setTracker_taken (s := { s with memOwner := .command }) (c := c) (i := i)
      (mt (locked_trackers s).mp hl) hmode h2 h3
    refine ⟨requestMode i m f (requestWritten i m f s), ?_, ht.onlyReports, ht.quiet, fun hn => ?_⟩
    · rw [exec_setTracker_owned ha hm hp (u := requestMode i m f (requestWritten i m f s))
        (requestMode_linesSettled i m f ha.1.2.2.2.2) ((requestMode_engine i m f _).trans hm.1) hset]
      rw [show (requestMode i m f (writeRequest i m f { s with memOwner := .command })).trackers[i] = new
        from ht.tracker]
      rfl
    · exact TrackerReported.congr (ht.moved hn) ⟨rfl, rfl, rfl, rfl⟩ ⟨rfl, rfl, rfl⟩ ⟨rfl, rfl, rfl, rfl⟩ rfl rfl
  · change execSetTracker s = _
    unfold execSetTracker
    rw [command_accepted ha hp, ← replyWith_answered (ha.1.2.2.2.2 c.line), index?_none (by omega)]
    exact congrArg Host.Outcome.next (withMemory_refused hr .badParam id c)
  · have hb : s.addressRefusal true = some .busy := by simp [State.addressRefusal, hs]
    change execSetTracker s = _
    unfold execSetTracker
    rw [command_accepted ha hp, ← replyWith_answered (ha.1.2.2.2.2 c.line),
      index?_lt (Nat.lt_succ_of_le hi), hb]
    exact congrArg Host.Outcome.next (withMemory_refused hr .busy _ c)
  · have hw : applyWrite (.tracker i e) s = { s with tables := replaced s.tables (.tracker i e) } := if_pos h
    rw [hw, ← h, replaced_tracker_same]
  · have ht := writeTracker_turned h
    refine ⟨ht.onlyReports, ht.fault, ht.quiet, fun hn => ?_⟩
    exact TrackerReported.congr (ht.moved hn) ⟨rfl, rfl, rfl, rfl⟩ ⟨rfl, rfl, rfl⟩ ⟨rfl, rfl, rfl, rfl⟩ rfl rfl

end Sys2Proof.Machine

namespace Sys2Proof.Machine
open Sys2Proof.Claims

/-! ### The window length (O21: R52) -/

/-- Settles O21: the quotient of 128,000,000 + ⌊f / 2⌋ by f, bounded on both sides. -/
theorem windowLengthInRange : Obligations.WindowLengthInRange := by
  intro f h1 h2
  have hf : 0 < f := by omega
  have hle : windowLength f * f ≤ 128000000 + f / 2 := Nat.div_mul_le_self _ _
  have hlt : 128000000 + f / 2 < (windowLength f + 1) * f := Nat.lt_mul_of_div_lt (Nat.lt_succ_self _) hf
  refine ⟨windowLength_lower h1 h2, ?_, by omega, by omega⟩
  unfold windowLength
  rw [Nat.div_le_iff_le_mul hf]
  omega

end Sys2Proof.Machine

namespace Sys2Proof.Machine
open Sys2Proof.Claims

/-! ## What a step does to trackers and windows (R18, R24, R37 to R71, R75 to R82)

Every event of the module is a series of a few changes to the trackers, to the windows and to what they are
read from. The invariants of measurers, trackers and windows are proved once for each such change. -/

/-! ### The changes -/

/-- The tables, the operating state, the trackers, the channel units and the engine are as they were. -/
structure BlocksStand (s t : State) : Prop extends WindowsStand s t where
  trackers : t.trackers = s.trackers

/-- Whether the window is FILLING in a channel unit. -/
def ChannelUnit.fills (u : ChannelUnit) (w : Window) : Prop := u.ctx0 = .filling w ∨ u.ctx1 = .filling w

/-- Whether the window is PENDING in a channel unit. -/
def ChannelUnit.waits (u : ChannelUnit) (w : Window) : Prop := u.ctx0 = .pending w ∨ u.ctx1 = .pending w

/-- Whether the engine holds the window as its copy of channel `c`. -/
def Engine.holds (e : Engine) (c : Fin 16) (w : Window) : Prop :=
  e = .waiting c (some w) ∨ e = .evaluating c w

/-- R65, R66, R77: no window has been opened or has taken a set: each that is left was there before, the
engine's copy perhaps in a context. -/
structure WindowsFewer (s t : State) : Prop where
  tables : t.tables = s.tables
  opState : t.opState = s.opState
  trackers : t.trackers = s.trackers
  seqNext : ∀ c : Fin 16, t.channels[c].seqNext = s.channels[c].seqNext
  fills : ∀ (c : Fin 16) w, t.channels[c].fills w → s.channels[c].fills w
  waits : ∀ (c : Fin 16) w, t.channels[c].waits w → s.channels[c].waits w
  copied : ∀ c w, t.engine.holds c w → s.engine.holds c w ∨ s.channels[c].waits w

/-- What one event makes of a tracker whose table entry `e` stands: an item of its source's series reaches one
of its measurers, measurers return to SEEKING, a source that measurers read is lost or disabled, a usability
timer expires, or the hold timer. -/
inductive TrackerTurns (e : TrackerEntry) (tr : Tracker) : Tracker → Prop
  | took (slot : Role → Option (Fin 8)) (x : Role × Item) :
      (∀ r, (slot r).isSome = true → e.reference r ≠ none) → TrackerTurns e tr (itemTaken e slot tr x)
  | sought (b : Role → Bool) : TrackerTurns e tr (seeking b tr)
  | lost (reads : Role → Bool) :
      TrackerTurns e tr (afterFailure (fun r => reads r && (tr.measurer r).usable) e.holdTime
        (withMeasurers (fun r => if reads r then lostSource (tr.measurer r) else tr.measurer r) tr))
  | expired (r : Role) : (tr.measurer r).usable = true →
      TrackerTurns e tr (afterFailure (fun x => decide (x = r)) e.holdTime
        (tr.setMeasurer r { tr.measurer r with usable := false }))
  | freed : tr.state = .hold → TrackerTurns e tr tr.enterFree

/-- A value the source monitor delivers: a 24-bit count (R16, R17). -/
def SampleSet.Bounded (ss : SampleSet) : Prop := ∀ v ∈ ss.values, v.value.natAbs ≤ 8388608

/-- A series of changes to the trackers and windows. `supplied` is what makes every set delivered hold 24-bit
counts and every tracker's frequency be in range at the time; `tabled` what makes the entries written legal. -/
inductive Course (supplied tabled : Prop) : State → State → Prop
  | fewer {s t : State} : WindowsFewer s t → Course supplied tabled s t
  | trans {s t u : State} : Course supplied tabled s t → Course supplied tabled t u →
      Course supplied tabled s u
  | turned {s : State} (i : Fin 2) {new : Tracker} :
      TrackerTurns s.tables.trackers[i] s.trackers[i] new →
      Course supplied tabled s (putTrackerAt i new s)
  | rewritten {s : State} (i : Fin 2) (e : TrackerEntry) : (tabled → e.legal) →
      Course supplied tabled s { s with
        tables := replaced s.tables (.tracker i e)
        trackers := putAt s.trackers i (trackerRewritten s.tables.trackers[i] e s.trackers[i]) }
  | tabled {s : State} (tb : Tables) : tb.trackers = s.tables.trackers →
      Course supplied tabled s { s with tables := tb }
  | opState {s : State} (o : OpState) : s.opState ≠ .loading → o ≠ .loading →
      Course supplied tabled s { s with opState := o }
  | took {s : State} (c : Fin 16) (slot : Fin 8) (ss : SampleSet) :
      (supplied → ss.Bounded ∧ InRange (s.trackerOf c)) →
      Course supplied tabled s { s with
        channels := putAt s.channels c (setStep slot (s.trackerOf c) ss s.channels[c]).unit }

/-! ### What leaves trackers and windows alone -/

theorem BlocksStand.fewer {s t : State} (h : BlocksStand s t) : WindowsFewer s t where
  tables := h.tables
  opState := h.opState
  trackers := h.trackers
  seqNext c := by rw [h.channels]
  fills c w := by rw [h.channels]; exact id
  waits c w := by rw [h.channels]; exact id
  copied c w := by rw [h.engine]; exact .inl

theorem BlocksStand.refl (s : State) : BlocksStand s s := ⟨⟨rfl, rfl, rfl, rfl⟩, rfl⟩

theorem BlocksStand.trans {s t u : State} (h : BlocksStand s t) (k : BlocksStand t u) : BlocksStand s u :=
  ⟨⟨k.tables.trans h.tables, k.opState.trans h.opState, k.channels.trans h.channels,
    k.engine.trans h.engine⟩, k.trackers.trans h.trackers⟩

theorem BlocksStand.after {s t u : State} (k : BlocksStand t u) (h : BlocksStand s t) : BlocksStand s u :=
  h.trans k

theorem Reports.blocksStand {s t : State} (h : Reports s t) : BlocksStand s t :=
  ⟨h.windowsStand, h.trackers⟩

theorem setOut_blocksStand (l : Line) (o : LineOut) (q : List OutRecord) (cu : CommandUnit) (s : State) :
    BlocksStand s (setOut l o { s with records := q, command := cu }) := by
  cases l <;> exact ⟨⟨rfl, rfl, rfl, rfl⟩, rfl⟩

theorem choose_blocksStand (l : Line) (s : State) : BlocksStand s (choose l s) := by
  obtain ⟨_, _, _, e⟩ | ⟨_, rs, _, _, e⟩ | ⟨_, _, _, e⟩ | ⟨_, _, _, e⟩ := choose_cases l s
  · rw [e]
    exact setOut_blocksStand l _ s.records s.command s
  · rw [e]
    exact setOut_blocksStand l _ rs s.command s
  · rw [e]
    exact setOut_blocksStand l _ s.records s.command s
  · rw [e]
    exact setOut_blocksStand l _ s.records s.command s

theorem replyWith_blocksStand (restart : Bool) (c : CommandFrame) (st : Status) (res : List Byte) (s : State) :
    BlocksStand s (replyWith restart c st res s) := by
  obtain ⟨o, r, e⟩ := replyWith_frame restart c st res s
  rw [e]
  exact setOut_blocksStand c.line o r _ s

theorem offerForward_blocksStand (l : Line) (f : Frame) (s : State) : BlocksStand s (offerForward l f s) := by
  obtain ⟨_, e⟩ | ⟨_, e⟩ := offerForward_cases l f s
  · rw [e]
    obtain ⟨o, r, e'⟩ := kick_frame l (setOut l { s.out l with forward := (s.out l).forward ++ [f] } s)
    rw [e']
    cases l <;> exact ⟨⟨rfl, rfl, rfl, rfl⟩, rfl⟩
  · rw [e]
    refine BlocksStand.trans (t := countForwardDrop l s) ?_ (reportFault_reports _ _ _ _).blocksStand
    cases l <;> exact ⟨⟨rfl, rfl, rfl, rfl⟩, rfl⟩

theorem giveCommand_blocksStand (l : Line) (f : Frame) (s : State) : BlocksStand s (giveCommand l f s) := by
  unfold giveCommand
  dsimp only
  split
  · exact ⟨⟨rfl, rfl, rfl, rfl⟩, rfl⟩
  · obtain ⟨_, e⟩ | ⟨_, h⟩ := offerCommand_cases { line := l, src := f.src, bytes := message f.payload } s
    · rw [e]
      exact ⟨⟨rfl, rfl, rfl, rfl⟩, rfl⟩
    · exact h.blocksStand.after ⟨⟨rfl, rfl, rfl, rfl⟩, rfl⟩

theorem giveBroadcast_blocksStand (l : Line) (f : Frame) (s : State) :
    BlocksStand s (giveBroadcast l f s) := by
  unfold giveBroadcast
  dsimp only
  split
  · exact giveCommand_blocksStand l f s
  · exact .refl s

theorem beginNext_blocksStand (s : State) : BlocksStand s (beginNext s) := by
  obtain e | ⟨_, _, _, _, _, _, e⟩ := beginNext_cases s
  · rw [e]
    exact .refl s
  · rw [e]
    exact ⟨⟨rfl, rfl, rfl, rfl⟩, rfl⟩

section
variable {a b : Prop} {s t : State}

theorem BlocksStand.course (h : BlocksStand s t) : Course a b s t := .fewer h.fewer

theorem Reports.course (h : Reports s t) : Course a b s t := h.blocksStand.course

theorem Course.refl (s : State) : Course a b s s := (BlocksStand.refl s).course

theorem reply_course (c : CommandFrame) (st : Status) (res : List Byte) (s : State) :
    Course a b s (reply c st res s) := (replyWith_blocksStand false c st res s).course

/-- A state that differs from the end of a series in other blocks alone ends it too. -/
theorem Course.stands {u : State} (h : Course a b s t) (k : BlocksStand t u) : Course a b s u :=
  h.trans k.course

/-- A state that differs from the start of a series in other blocks alone starts it too. -/
theorem Course.from {u : State} (h : Course a b t u) (k : BlocksStand s t) : Course a b s u :=
  Course.trans k.course h

theorem foldl_course {α : Type} (l : List α) (f : α → State → State)
    (hf : ∀ x ∈ l, ∀ s, Course a b s (f x s)) (s : State) :
    Course a b s (l.foldl (fun s x => f x s) s) :=
  foldl_keeps (P := Course a b s) l f (fun x hx _ h => h.trans (hf x hx _)) s (.refl s)

theorem inSomeOrder_course {α : Type} (l : List α) (f : α → State → State)
    (hf : ∀ x s, Course a b s (f x s)) (s : State) : Course a b s (inSomeOrder l f s) :=
  inSomeOrder_keeps (P := Course a b s) l f (fun _ ts h => h.stands (ties_reports _ ts).blocksStand)
    (fun x _ _ h => h.trans (hf x _)) s (.refl s)

theorem channelsWhere_course (p : Fin 16 → Bool) (f : Fin 16 → State → State)
    (hf : ∀ c s, Course a b s (f c s)) (s : State) : Course a b s (channelsWhere p f s) :=
  foldl_course _ f (fun c _ => hf c) s

theorem withTies_course (ties : Ties) {f : State → State}
    (h : Course a b { s with ties := ties } (f { s with ties := ties })) :
    Course a b s (withTies ties f s) :=
  (h.from (ties_reports s ties).blocksStand).stands (ties_reports _ []).blocksStand

/-! ### Trackers -/

/-- R38 to R48: an item of a source's series reaches a measurer. -/
theorem measurerItem_course (i : Fin 2) (r : Role) (src : Fin 8) (item : Item) (s : State) :
    Course a b s (measurerItem i r src item s) := by
  refine Course.trans (.turned i (.took (fun r => s.referenceSlot i r src) (r, item) fun x hx hn => ?_))
    (measurerItem_reports i r src item s).course
  unfold State.referenceSlot at hx
  rw [hn] at hx
  cases hx

theorem trackerLoses_course (i : Fin 2) (src : Fin 8) (s : State) :
    Course a b s (trackerLoses i src s) :=
  Course.trans (.turned i (.lost fun r => (s.referenceSlot i r src).isSome))
    (trackerLoses_becomes i src s).reports.course

theorem trackerSeeks_course (i : Fin 2) (src : Fin 8) (s : State) :
    Course a b s (trackerSeeks i src s) := by
  rw [trackerSeeks_eq]
  exact .turned i (.sought fun r => (s.referenceSlot i r src).isSome)

theorem seekOnChannel_course (c : Fin 16) (i : Fin 2) (s : State) :
    Course a b s (seekOnChannel c i s) := by
  have h : seekOnChannel c i s = putTrackerAt i
      (seeking (fun r => decide (s.tables.trackers[i].reference r = some c)) s.trackers[i]) s := by
    rw [seekOnChannel_eq]
    simp [seeking]
  rw [h]
  exact .turned i (.sought _)

theorem usabilityExpires_course {i : Fin 2} {r : Role} (h : (s.trackers[i].measurer r).usable = true) :
    Course a b s (usabilityExpires i r s) := by
  have hb := (measurerFailed_becomes i r
    (putTrackerAt i (s.trackers[i].setMeasurer r { s.trackers[i].measurer r with usable := false }) s)).reports
  rw [putTrackerAt_put, putTrackerAt_trackers, putAt_same] at hb
  exact Course.trans (.turned i (.expired r h)) hb.course

theorem holdExpires_course {i : Fin 2} (h : s.trackers[i].state = .hold) :
    Course a b s (holdExpires i s) :=
  Course.trans (.turned i (.freed h)) (trackerMoved_reports i _ _).course

/-! ### Windows, the close arbiter and the engine -/

theorem putUnit_fewer {c : Fin 16} {u : ChannelUnit} {e : Engine} (hn : u.seqNext = s.channels[c].seqNext)
    (hf : ∀ w, u.fills w → s.channels[c].fills w) (hw : ∀ w, u.waits w → s.channels[c].waits w)
    (he : ∀ c w, e.holds c w → s.engine.holds c w ∨ s.channels[c].waits w) :
    WindowsFewer s { s with channels := putAt s.channels c u, engine := e } where
  tables := rfl
  opState := rfl
  trackers := rfl
  seqNext x := by
    dsimp only
    rw [putAt_get]
    split
    · next h => rw [h, hn]
    · rfl
  fills x w := by
    dsimp only
    rw [putAt_get]
    split
    · next h => rw [h]; exact hf w
    · exact id
  waits x w := by
    dsimp only
    rw [putAt_get]
    split
    · next h => rw [h]; exact hw w
    · exact id
  copied := he

/-- The engine changed alone. -/
theorem engine_fewer (e : Engine) (m : MemOwner)
    (he : ∀ c w, e.holds c w → s.engine.holds c w ∨ s.channels[c].waits w) :
    WindowsFewer s { s with engine := e, memOwner := m } where
  tables := rfl
  opState := rfl
  trackers := rfl
  seqNext _ := rfl
  fills _ _ := id
  waits _ _ := id
  copied := he

theorem not_idle_holds (c : Fin 16) (w : Window) : ¬ Engine.idle.holds c w := by
  simp [Engine.holds]

theorem endWindows_course (c : Fin 16) (s : State) : Course a b s (endWindows c s) := by
  refine (Course.fewer (putUnit_fewer (s := s) (c := c) (u := contextsFreed s.channels[c]) (e := s.engine)
    rfl ?_ ?_ fun _ _ => .inl)).stands ⟨⟨rfl, rfl, rfl, rfl⟩, rfl⟩
  · simp [ChannelUnit.fills, contextsFreed]
  · simp [ChannelUnit.waits, contextsFreed]

theorem discardCopy_course (c : Fin 16) (s : State) : Course a b s (discardCopy c s) := by
  unfold discardCopy
  split
  · split
    · exact (Course.fewer (engine_fewer (s := s) (.waiting c none) s.memOwner
        (by simp [Engine.holds]))).stands ⟨⟨rfl, rfl, rfl, rfl⟩, rfl⟩
    · exact .refl s
  · exact .refl s

theorem endAllWindows_course (c : Fin 16) (s : State) : Course a b s (endAllWindows c s) :=
  (endWindows_course c s).trans (discardCopy_course c _)

/-- R65: the copy taken is the PENDING window, and nothing is added. -/
theorem takePending_fewer {u u' : ChannelUnit} {w : Window} (h : u.takePending = some (w, u')) :
    u.waits w ∧ u'.seqNext = u.seqNext ∧ (∀ x, u'.fills x → u.fills x) ∧ ∀ x, u'.waits x → u.waits x := by
  unfold ChannelUnit.takePending at h
  split at h
  · next h0 =>
    cases h
    exact ⟨.inl h0, rfl, fun x => by simp [ChannelUnit.fills, h0], fun x => by
      simp only [ChannelUnit.waits, reduceCtorEq, false_or]; exact .inr⟩
  · next h1 _ =>
    cases h
    exact ⟨.inr h1, rfl, fun x => by simp [ChannelUnit.fills, h1], fun x => by
      simp only [ChannelUnit.waits, reduceCtorEq, or_false]; exact .inl⟩
  · cases h

/-- R77: a grant moves a PENDING window to the engine. -/
theorem grant_course (c : Fin 16) (s : State) : Course a b s (grant c s) := by
  obtain ⟨_, e⟩ | ⟨w, u, hu, e⟩ := grant_cases c s
  · rw [e]
    exact .refl s
  · obtain ⟨hw, hn, hf, hp⟩ := takePending_fewer hu
    rw [e]
    refine (Course.fewer (putUnit_fewer (s := s) (c := c) (u := u)
      (e := if s.memOwner = .free then .evaluating c w else .waiting c (some w)) hn hf hp
      fun x y h => .inr ?_)).stands ⟨⟨rfl, rfl, rfl, rfl⟩, rfl⟩
    split at h
    · obtain h | h := h <;> cases h
      exact hw
    · obtain h | h := h <;> cases h
      exact hw

theorem arbitrate_course (s : State) : Course a b s (arbitrate s) := by
  obtain e | ⟨c, _, _, _, e⟩ := arbitrate_cases s
  · rw [e]
    exact .refl s
  · rw [e]
    exact grant_course c s

theorem engineRelease_course (s : State) : Course a b s (engineRelease s) :=
  Course.trans (.fewer (engine_fewer .idle s.commandSideWaits fun c w h => absurd h (not_idle_holds c w)))
    (arbitrate_course _)

theorem commandRelease_course (s : State) : Course a b s (commandRelease s) := by
  obtain ⟨c, w, he, e⟩ | ⟨c, _, e⟩ | ⟨_, e⟩ := commandRelease_cases s
  · rw [e]
    refine .fewer (engine_fewer _ _ fun x y h => .inl ?_)
    obtain h | h := h <;> cases h
    exact .inl he
  · rw [e]
    exact engineRelease_course s
  · rw [e]
    exact BlocksStand.course ⟨⟨rfl, rfl, rfl, rfl⟩, rfl⟩

theorem reportMissed_blocksStand (c : Fin 16) (m : Option Nat) (s : State) :
    BlocksStand s (reportMissed c m s) := by
  unfold reportMissed
  split
  · exact .refl s
  · exact BlocksStand.trans (t := onChannelCounters c _ s) ⟨⟨rfl, rfl, rfl, rfl⟩, rfl⟩
      (reportFault_reports _ _ _ _).blocksStand

/-- R57, R60, R63, R64: a sample set reaches a channel. -/
theorem channelTakes_course {c : Fin 16} {ss : SampleSet} (h : a → ss.Bounded ∧ InRange (s.trackerOf c)) :
    Course a b s (channelTakes c ss s) := by
  by_cases ho : s.opState = .analysing
  · rw [channelTakes_analysing c ss ho]
    have hu := (Course.took (tabled := b) c s.tables.channels[c].slot ss h).stands
      (reportMissed_blocksStand c (setStep s.tables.channels[c].slot (s.trackerOf c) ss s.channels[c]).missed _)
    split
    · exact hu.trans (arbitrate_course _)
    · exact hu
  · rw [channelTakes_idle c ss ho]
    exact .refl s

end

end Sys2Proof.Machine

namespace Sys2Proof.Machine
open Sys2Proof.Claims

/-! ### The consumers of a source (R18, R19) -/

section
variable {a b : Prop} {s t : State}

/-- One item reaches one consumer. -/
theorem consume_course (src : Fin 8) (item : Item) (who : Consumer)
    (h : ∀ ss, item = .set ss → a → ss.Bounded ∧ ∀ i : Fin 2, InRange s.trackers[i]) :
    Course a b s (consume src item who s) := by
  cases who with
  | measurer i r => exact measurerItem_course i r src item s
  | tracker i => exact trackerLoses_course i src s
  | channel c =>
    cases item with
    | start => exact .refl s
    | realign => exact endWindows_course c s
    | loss => exact endWindows_course c s
    | set ss => exact channelTakes_course fun ha => ⟨(h ss rfl ha).1, (h ss rfl ha).2 _⟩
  | capture => exact BlocksStand.course ⟨⟨rfl, rfl, rfl, rfl⟩, rfl⟩

theorem deliverLoss_course (src : Fin 8) (s : State) : Course a b s (deliverLoss src s) :=
  inSomeOrder_course _ _ (fun who _ => consume_course src .loss who fun ss h => by cases h) s

theorem either_blocksStand {f g : State → State} (hf : ∀ s, BlocksStand s (f s))
    (hg : ∀ s, BlocksStand s (g s)) (s : State) : BlocksStand s (either f g s) :=
  either_keeps (P := BlocksStand s) f g (fun _ _ h => h.trans ⟨⟨rfl, rfl, rfl, rfl⟩, rfl⟩)
    (fun _ h => h.trans (hf _)) (fun _ h => h.trans (hg _)) s (.refl s)

/-- R19: a source is lost. -/
theorem loseSource_course (src : Fin 8) (s : State) : Course a b s (loseSource src s) :=
  (deliverLoss_course src _).from
    ((reportFault_reports .sourceLost src.val _ _).blocksStand.after ⟨⟨rfl, rfl, rfl, rfl⟩, rfl⟩)

/-- A series that leaves every tracker as it was. -/
def Passes (s t : State) : Prop := (∀ a b, Course a b s t) ∧ t.trackers = s.trackers

theorem BlocksStand.passes (h : BlocksStand s t) : Passes s t := ⟨fun _ _ => h.course, h.trackers⟩

theorem Passes.trans {u : State} (h : Passes s t) (k : Passes t u) : Passes s u :=
  ⟨fun a b => (h.1 a b).trans (k.1 a b), k.2.trans h.2⟩

theorem engineRelease_passes (s : State) : Passes s (engineRelease s) :=
  ⟨fun _ _ => engineRelease_course s, (arbitrate_trackers _).1⟩

theorem triggerByAlert_trackers (c : Fin 16) (seq : Nat) (es : List AlertEntry) (s : State) :
    (triggerByAlert c seq es s).trackers = s.trackers := by
  unfold triggerByAlert
  split
  · split <;> rfl
  · rfl

theorem countEvaluation_blocksStand (x : EvalInput) (s : State) : BlocksStand s (countEvaluation x s) :=
  ⟨⟨rfl, rfl, rfl, rfl⟩, rfl⟩

/-- R83: an evaluation completes. -/
theorem completeEvaluation_passes (c : Fin 16) (w : Window) (s : State) :
    Passes s (completeEvaluation c w s) := by
  unfold completeEvaluation
  dsimp only
  have h : Passes s (countEvaluation (s.evalInput c w) (offerAll (s.evalRecords (s.evalInput c w))
      { s with checks := putAt s.checks c (s.evalInput c w).checksAfter })) :=
    BlocksStand.passes (.after (countEvaluation_blocksStand _ _)
      (.after (offerAll_reports _ _).blocksStand ⟨⟨rfl, rfl, rfl, rfl⟩, rfl⟩))
  refine Passes.trans ?_ (engineRelease_passes _)
  split
  · exact h.trans (BlocksStand.passes
      { triggerByAlert_windowsStand c w.seq _ _ with trackers := triggerByAlert_trackers _ _ _ _ })
  · exact h

theorem evaluates_passes (s : State) : Passes s (evaluates s) := by
  unfold evaluates
  split
  · exact completeEvaluation_passes _ _ s
  · exact (BlocksStand.refl s).passes
  · exact (BlocksStand.refl s).passes

/-- R149: a command is refused, or follows its own rule. -/
theorem command_keeps_from {P : State → Prop} {α : Type} {code : Nat} {parse : List Byte → Option α}
    {body : α → CommandFrame → State → State} (hs : P s) (hr : ∀ c st, P (reply c st [] s))
    (hb : ∀ p c, s.opState ≠ .loading → parse (commandParams c.bytes) = some p → P (body p c s)) :
    P (command code parse body s) := by
  obtain e | ⟨c, _, _, _, _, ⟨_, e⟩ | ⟨_, _, e⟩ | ⟨p, ho, hp, e⟩⟩ := command_cases code parse body s
  · rw [e]
    exact hs
  · rw [e]
    exact hr c _
  · rw [e]
    exact hr c _
  · rw [e]
    exact hb p c ho hp

theorem triggerCommand_passes (s : State) : Passes s (triggerCommand s) := by
  have hr : ∀ c st res, Passes s (reply c st res s) := fun c st res =>
    (replyWith_blocksStand false c st res s).passes
  refine command_keeps_from (P := Passes s) (BlocksStand.refl s).passes (fun c st => hr c st _)
    fun _ c _ _ => ?_
  unfold triggerAnswered
  dsimp only
  split
  · exact hr c _ _
  · exact BlocksStand.passes (.after (replyWith_blocksStand false c _ _ _) ⟨⟨rfl, rfl, rfl, rfl⟩, rfl⟩)

theorem takeTriggers_passes (l : List MetTrigger) (s : State) : Passes s (takeTriggers l s) :=
  foldl_keeps (P := Passes s) l takeTrigger (fun x _ t h => h.trans (by
    cases x with
    | command => exact triggerCommand_passes t
    | evaluation => exact evaluates_passes t)) s (BlocksStand.refl s).passes

/-! ### The source monitor (R5 to R21) -/

/-- What makes every set delivered hold 24-bit counts, and every window opened have a legal length. -/
structure Supplied (s : State) : Prop where
  values : ∀ (i : Fin 8), ∀ v ∈ s.sources[i].lastValues.toList, v.natAbs ≤ 8388608
  inRange : ∀ i : Fin 2, InRange s.trackers[i]

theorem Supplied.congr (h : Supplied s) (hs : t.sources = s.sources) (ht : t.trackers = s.trackers) :
    Supplied t := ⟨by rw [hs]; exact h.values, by rw [ht]; exact h.inRange⟩

theorem clampValue_natAbs (v : Int) : (clampValue v).natAbs ≤ 8388608 := by
  have h := clampValue_bounds v
  omega

/-- R16, R17: the sets of a frame hold 24-bit counts. -/
theorem frameSets_bounded (h : Supplied s) (src : Fin 8) (m : List Byte) :
    ∀ ss ∈ frameSets src m s, ss.Bounded := by
  intro ss hss v hv
  unfold frameSets at hss
  obtain ⟨j, _, rfl⟩ := List.mem_map.mp hss
  obtain ⟨i, _, rfl⟩ := List.mem_map.mp hv
  split
  · dsimp only
    split
    · decide
    · rw [List.getD_eq_getElem?_getD]
      cases hx : s.sources[src].lastValues.toList[i]? with
      | none => decide
      | some x => exact h.values src x (List.mem_of_getElem? hx)
  · exact clampValue_natAbs _

/-- R13: so do synthesised sets. -/
theorem gapSets_bounded (h : Supplied s) (src : Fin 8) (m : List Byte) (q n : Nat) :
    ∀ ss ∈ gapSets src m q n s, ss.Bounded := by
  intro ss hss v hv
  unfold gapSets at hss
  obtain ⟨i, _, hss⟩ := List.mem_flatMap.mp hss
  obtain ⟨j, _, rfl⟩ := List.mem_map.mp hss
  obtain ⟨x, hx, rfl⟩ := List.mem_map.mp hv
  dsimp only
  split
  · decide
  · exact h.values src x (List.mem_of_mem_take hx)

section
variable {met : State → State} (hm : ∀ s, Passes s (met s))
include hm

/-- R18: the items of a delivery reach the consumers. -/
theorem deliver_course {src : Fin 8} {items : List Item}
    (hi : a → (∀ ss, .set ss ∈ items → ss.Bounded) ∧ ∀ i : Fin 2, InRange s.trackers[i]) :
    Course a b s (deliver met src items s) := by
  refine (foldl_keeps (P := fun t => Course a b s t ∧ (a → ∀ i : Fin 2, InRange t.trackers[i])) _
    (fun x s => consumeMeeting met src x s) (fun x hx t ⟨hc, ht⟩ => ?_)
    { s with ties := (s.delivery src items).2 }
    ⟨(ties_reports s _).course, fun ha => (hi ha).2⟩).1
  obtain ⟨hx1, hx2⟩ := mem_happenings s src items hx
  obtain ⟨rfl, e⟩ | e := consumeMeeting_cases met src x t
  · rw [e]
    refine ⟨(hc.trans (consume_course src .realign .capture fun ss h => by cases h)).trans ((hm _).1 a b),
      fun ha => ?_⟩
    rw [(hm _).2]
    exact ht ha
  · rw [e]
    refine ⟨hc.trans (consume_course src x.2 x.1 fun ss h ha => ⟨(hi ha).1 ss (h ▸ hx2), ht ha⟩), fun ha => ?_⟩
    exact consume_inRange hx1 (ht ha)

theorem takeFrame_course {src : Fin 8} {m : List Byte} {before : List Item}
    (hb : a → ∀ ss, .set ss ∈ before → ss.Bounded) (hs : a → Supplied s) :
    Course a b s (takeFrame met src m before s) := by
  rw [takeFrame_eq]
  refine Course.from (t := beforeDelivery src m s) ?_ ⟨⟨rfl, rfl, rfl, rfl⟩, rfl⟩
  refine deliver_course hm fun ha => ⟨fun ss hss => ?_, (hs ha).inRange⟩
  obtain hss | hss := List.mem_append.mp hss
  · exact hb ha ss hss
  · obtain ⟨x, hx, hxs⟩ := List.mem_map.mp hss
    cases hxs
    exact frameSets_bounded (hs ha) src m ss hx

/-- R12: a frame of a RUNNING source. -/
theorem ruleRunning_course (expiry : Bool) {src : Fin 8} {m : List Byte} (q : Nat) (hs : a → Supplied s) :
    Course a b s (ruleRunning expiry met src m q s) := by
  have hid : ∀ u, Passes u (id u) := fun u => (BlocksStand.refl u).passes
  unfold ruleRunning
  dsimp only
  split
  · exact takeFrame_course hid (fun _ ss h => by cases h) hs
  · split
    · refine Course.stands (t := if expiry then loseSource src s else s) ?_ ⟨⟨rfl, rfl, rfl, rfl⟩, rfl⟩
      split
      · exact loseSource_course src s
      · exact .refl s
    · split
      · rw [takeAfterGap_eq]
        refine Course.from (s := s) (t := gapCounted src (blockPosition m - (q + 1)) s) ?_ ⟨⟨rfl, rfl, rfl, rfl⟩, rfl⟩
        refine takeFrame_course hid (fun ha ss h => ?_) fun ha => (hs ha).congr rfl rfl
        obtain ⟨x, hx, hxs⟩ := List.mem_map.mp h
        cases hxs
        exact gapSets_bounded (hs ha) src m _ _ ss hx
      · unfold realignAndTake
        dsimp only
        have hr := reportFault_reports .sourceRealign src.val (.number (blockPosition m))
          (onSourceCounters src (fun k => { k with realigns := countUp k.realigns 1 }) s)
        refine Course.from ?_ (hr.blocksStand.after ⟨⟨rfl, rfl, rfl, rfl⟩, rfl⟩)
        exact takeFrame_course hm (fun _ ss h => by simp at h) fun ha =>
          ((hs ha).congr (t := onSourceCounters src _ s) rfl rfl).congr hr.apart.sources hr.trackers

theorem monitorFrame_course (expiry : Bool) (m : List Byte) (hs : a → Supplied s) :
    Course a b s (monitorFrame expiry met m s) := by
  unfold monitorFrame
  split
  · exact .refl s
  · split
    · exact BlocksStand.course ⟨⟨rfl, rfl, rfl, rfl⟩, rfl⟩
    · next src _ =>
      split
      · unfold rejectMalformed
        exact BlocksStand.course (.after (reportFault_reports _ _ _ _).blocksStand ⟨⟨rfl, rfl, rfl, rfl⟩, rfl⟩)
      · unfold ruleFrame
        split
        · exact ruleRunning_course hm expiry _ hs
        · exact .refl s
        · exact takeFrame_course (fun u => (BlocksStand.refl u).passes) (fun _ ss h => by simp at h) hs

/-- R1: a frame on line A. -/
theorem sortLineA_course (expiry : Bool) (f : Frame) (hs : a → Supplied s) :
    Course a b s (sortLineA expiry met f s) := by
  unfold sortLineA
  split
  · obtain ⟨ts, e | e⟩ := either_cases (offerForward .b f) (monitorFrame expiry met (message f.payload)) s
    · have hf := offerForward_blocksStand .b f { s with ties := ts }
      rw [e]
      exact Course.from (monitorFrame_course hm expiry _ fun ha =>
        (hs ha).congr (offerForward_apart .b f { s with ties := ts }).sources hf.trackers)
        (hf.after ⟨⟨rfl, rfl, rfl, rfl⟩, rfl⟩)
    · rw [e]
      exact (Course.from (s := s) (monitorFrame_course hm expiry _ fun ha =>
        (hs ha).congr (t := { s with ties := ts }) rfl rfl) ⟨⟨rfl, rfl, rfl, rfl⟩, rfl⟩).stands
          (offerForward_blocksStand .b f _)
  · exact (giveCommand_blocksStand .a f s).course
  · exact (either_blocksStand (offerForward_blocksStand .b f) (giveBroadcast_blocksStand .a f) s).course
  · exact (offerForward_blocksStand .b f s).course

end

/-- R2: a frame on line B. -/
theorem sortLineB_blocksStand (f : Frame) (s : State) : BlocksStand s (sortLineB f s) := by
  unfold sortLineB
  split
  · exact giveCommand_blocksStand .b f s
  · exact either_blocksStand (offerForward_blocksStand .a f) (giveBroadcast_blocksStand .b f) s
  · exact offerForward_blocksStand .a f s
  · exact offerForward_blocksStand .a f s

end

end Sys2Proof.Machine

namespace Sys2Proof.Machine
open Sys2Proof.Claims

/-! ### Entry writes (R8, R25, R26, R28 to R31, R37, R50, R69, R162, R170) -/

section
variable {a b : Prop} {s t : State}

/-- R37: a TRACKERS entry written. -/
theorem writeTracker_course {i : Fin 2} {e : TrackerEntry} (he : b → e.legal) :
    Course a b s (writeTracker i e s) := by
  by_cases h : s.tables.trackers[i] = e
  · have hw : writeTracker i e s = { s with tables := replaced s.tables (.tracker i e) } := if_pos h
    rw [hw, ← h, replaced_tracker_same]
    exact .refl s
  · exact Course.trans (.rewritten i e he) (writeTracker_turned h).reports.course

/-- A table other than TRACKERS changed. -/
theorem onTables_course {f : Tables → Tables} (h : (f s.tables).trackers = s.tables.trackers) :
    Course a b s (onTables f s) := .tabled _ h

theorem onSource_blocksStand (i : Fin 8) (f : SourceRecord → SourceRecord) (s : State) :
    BlocksStand s (onSource i f s) := ⟨⟨rfl, rfl, rfl, rfl⟩, rfl⟩

theorem onCapture_blocksStand (f : CaptureUnit → CaptureUnit) (s : State) : BlocksStand s (onCapture f s) :=
  ⟨⟨rfl, rfl, rfl, rfl⟩, rfl⟩

theorem writeSource_course (i : Fin 8) (e : SourceEntry) (s : State) : Course a b s (writeSource i e s) := by
  have ht : Course a b s (onCapture (fun u => u.sourceWritten i s.tables.sources[i] e)
      (onTables (fun t => { t with sources := putAt t.sources i e }) s)) :=
    Course.stands (onTables_course rfl) (onCapture_blocksStand _ _)
  unfold writeSource
  dsimp only
  generalize onCapture _ (onTables _ s) = u at ht ⊢
  have hend : ∀ q v, Course a b v (channelsWhere q endAllWindows v) := fun q v =>
    channelsWhere_course q endAllWindows (fun c => endAllWindows_course c) v
  split
  · exact ht.stands (onSource_blocksStand i awaitSource u)
  · split
    · exact ((ht.stands (onSource_blocksStand i offSource u)).trans
        (inSomeOrder_course _ _ (fun t => trackerLoses_course t i) _)).trans (hend _ _)
    · split
      · exact (((ht.stands (onSource_blocksStand i awaitSource u)).trans
          (trackerSeeks_course 0 i _)).trans (trackerSeeks_course 1 i _)).trans (hend _ _)
      · exact ht

theorem clearChecks_blocksStand (c : Fin 16) (s : State) : BlocksStand s (clearChecks c s) :=
  ⟨⟨rfl, rfl, rfl, rfl⟩, rfl⟩

theorem endAndClear_course (c : Fin 16) (s : State) : Course a b s (clearChecks c (endAllWindows c s)) :=
  (endAllWindows_course c s).stands (clearChecks_blocksStand c _)

theorem writeChannel_course (c : Fin 16) (e : ChannelEntry) (s : State) :
    Course a b s (writeChannel c e s) := by
  have ht : Course a b s (onTables (fun t => { t with channels := putAt t.channels c e }) s) :=
    onTables_course rfl
  unfold writeChannel
  dsimp only
  split
  · exact ht
  · have hc := ht.trans (endAndClear_course c _)
    split
    · exact (hc.trans (seekOnChannel_course c 0 _)).trans (seekOnChannel_course c 1 _)
    · exact hc

theorem writeGroup_course (g : Fin 4) (e : GroupEntry) (s : State) : Course a b s (writeGroup g e s) := by
  have ht : Course a b s (onTables (fun t => { t with groups := putAt t.groups g e }) s) := onTables_course rfl
  unfold writeGroup
  dsimp only
  have hd : ∀ (p : Bool) (q : Fin 16 → Bool) (u : State), Course a b s u →
      Course a b s (if p then channelsWhere q endAllWindows u else u) := fun p q u hu => by
    split
    · exact hu.trans (channelsWhere_course q endAllWindows (fun c => endAllWindows_course c) u)
    · exact hu
  have h1 := hd (s.tables.groups[g].enabled && !e.enabled)
    (fun c => (s.tables.channels[c].group == g) && s.active c) _ ht
  split
  · exact h1.trans (channelsWhere_course _ _ (fun c => endAndClear_course c) _)
  · exact h1

theorem checks_blocksStand (ch : Vector ChannelChecks 16) (s : State) : BlocksStand s { s with checks := ch } :=
  ⟨⟨rfl, rfl, rfl, rfl⟩, rfl⟩

theorem binList_fewer (c : Fin 16) (l : List Nat) (s : State) :
    WindowsFewer s { s with channels := updAt s.channels c fun u => { u with binList := l } } :=
  putUnit_fewer (c := c) (u := { s.channels[c] with binList := l }) rfl (fun _ => id) (fun _ => id) fun _ _ => .inl

theorem writePlan_course (c : Fin 16) (e : PlanRow) (s : State) : Course a b s (writePlan c e s) := by
  have ht : Course a b s (onTables (fun t => { t with plans := putAt t.plans c e }) s) := onTables_course rfl
  unfold writePlan
  dsimp only
  generalize onTables _ s = u at ht ⊢
  split
  · exact ht
  · split
    · exact ht.stands ⟨⟨rfl, rfl, rfl, rfl⟩, rfl⟩
    · have hc := ht.stands (checks_blocksStand
        (updAt u.checks c fun ch => { ch with bins := e.bins.map (keptCheck s.tables.plans[c] ch) }) u)
      exact (hc.trans (.fewer (binList_fewer c (e.bins.map PlanBin.k) _))).trans (endAllWindows_course c _)

/-- R162: a write is taken. -/
theorem applyWrite_course {w : EntryWrite} (hw : ∀ i e, w = .tracker i e → b → e.legal) (s : State) :
    Course a b s (applyWrite w s) := by
  cases w with
  | general e =>
    exact (onTables_course (f := fun t => { t with general := e }) rfl).stands ⟨⟨rfl, rfl, rfl, rfl⟩, rfl⟩
  | source i e => exact writeSource_course i e s
  | channel c e => exact writeChannel_course c e s
  | group g e => exact writeGroup_course g e s
  | tracker i e => exact writeTracker_course (hw i e rfl)
  | plan c e => exact writePlan_course c e s
  | band i e => exact onTables_course (f := fun t => { t with bands := putAt t.bands i e }) rfl
  | signature i e => exact onTables_course (f := fun t => { t with signatures := putAt t.signatures i e }) rfl

theorem applyRestored_course {w : EntryWrite} (hw : ∀ i e, w = .tracker i e → b → e.legal) (s : State) :
    Course a b s (applyRestored w s) := by
  cases w with
  | general e =>
    exact (onTables_course (f := fun t => { t with general := e }) rfl).stands ⟨⟨rfl, rfl, rfl, rfl⟩, rfl⟩
  | _ => exact applyWrite_course hw s

/-- R170: the entries a RESTORE changes are those of repaired tables. -/
theorem restoreCompletes_course {id : TableId} (hb : b → TablesLegal s) :
    Course a b s (restoreCompletes id s) := by
  unfold restoreCompletes
  dsimp only
  refine Course.trans ((foldl_course _ applyRestored (fun w hw u => applyRestored_course ?_ u) s).stands
    (u := onStore _ _) ⟨⟨rfl, rfl, rfl, rfl⟩, rfl⟩) (commandRelease_course _)
  rintro i e rfl h
  obtain ⟨u, hu⟩ := mem_restoreWrites.mp hw
  cases changedEntries_current hu
  obtain ⟨hl, hi, _⟩ := hb h
  exact repair_legal (setImage_legal hl (hi id)) .trackers i

/-! ### Commands of the host computer -/

/-- R149: a command is refused, or follows its own rule. -/
theorem command_course {α : Type} {code : Nat} {parse : List Byte → Option α}
    {body : α → CommandFrame → State → State}
    (hb : ∀ p c, s.opState ≠ .loading → parse (commandParams c.bytes) = some p → Course a b s (body p c s)) :
    Course a b s (command code parse body s) :=
  command_keeps_from (P := Course a b s) (.refl s) (fun c st => reply_course c st [] s) hb

theorem onOldest_course {p : CommandFrame → Bool} {body : CommandFrame → State → State}
    (hb : ∀ c, Course a b s (body c s)) : Course a b s (onOldest p body s) := by
  obtain ⟨c, _, _, _, _, e⟩ | e := onOldest_cases p body s
  · rw [e]
    exact hb c
  · rw [e]
    exact .refl s

theorem whilePowered_course {f : State → State} (hf : Course a b s (f s)) : Course a b s (whilePowered f s) := by
  unfold whilePowered
  split
  · exact hf
  · exact .refl s

/-- R79, R80: the table memory requested, held and released. -/
theorem withMemory_course {refusal : Option Status} {f : State → State} {c : CommandFrame}
    (hf : Course a b { s with memOwner := .command } (f { s with memOwner := .command })) :
    Course a b s (withMemory refusal f c s) := by
  obtain ⟨st, _, _, e⟩ | ⟨_, e⟩ | ⟨_, _, _, e⟩ | ⟨_, _, e⟩ := withMemory_cases refusal f c s
  · rw [e]
    exact reply_course c st [] s
  · rw [e]
    have hs : Course a b s (f { s with memOwner := .command }) := hf.from ⟨⟨rfl, rfl, rfl, rfl⟩, rfl⟩
    exact (hs.stands (beginNext_blocksStand _)).trans (commandRelease_course _)
  · rw [e]
    exact BlocksStand.course ⟨⟨rfl, rfl, rfl, rfl⟩, rfl⟩
  · rw [e]
    exact .refl s

/-- R162: a write of a decoded entry. -/
theorem writeEntry_course {p : List Byte} {w : RawWrite} (hp : parseWrite p = some w) (c : CommandFrame)
    (s : State) : Course a b s (writeEntry w c s) := by
  unfold writeEntry
  split
  · split
    · exact reply_course c _ [] s
    · next e clamped hj =>
      obtain ⟨hbad, he⟩ := judge_ok hj
      refine Course.trans (applyWrite_course (fun i x hx _ => ?_) s) (reply_course c _ _ _)
      have hf := keptEntry_fits hbad (parseWrite_bounded hp)
      rw [← he, hx] at hf
      exact hf
  · exact reply_course c _ [] s

/-- R50: a request of mode and frequency alone changes no reference. -/
theorem trackerRewritten_request (old : TrackerEntry) (m : RequestedMode) (f : Nat) (tr : Tracker) :
    trackerRewritten old { old with mode := m, fixedFrequency := f } tr
      = modeRequested m f old.holdTime tr := by
  have hr : ∀ r, referenceChanged old { old with mode := m, fixedFrequency := f } r = false := fun r => by
    cases r <;> simp [referenceChanged, TrackerEntry.reference]
  have ha : trackerAsked old { old with mode := m, fixedFrequency := f } tr
      = modeRequested m f old.holdTime tr := by
    unfold trackerAsked
    simp only [hr, Bool.false_eq_true, if_false, ← modeRequested_measurer m f old.holdTime tr]
    rfl
  unfold trackerRewritten
  rw [ha]
  exact (afterFailure_none _ (by simp [hr]) (by simp [hr])).1

/-- R50: SET TRACKER. -/
theorem setTracker_course {i : Fin 2} {mode f : Nat} {c : CommandFrame} (hb : b → s.tables.legal) :
    Course a b s (setTracker i mode f c s) := by
  unfold setTracker
  split
  · exact reply_course c _ [] s
  · split
    · exact reply_course c _ [] s
    · next m _ =>
      split
      · exact reply_course c _ [] s
      · next hf =>
        have hw : (writeRequest i m f s).tables.trackers[i]
            = { s.tables.trackers[i] with mode := m, fixedFrequency := f } := putAt_same _ _ _
        have hr := (requestMode_turned i m f (writeRequest i m f s)).reports
        rw [hw] at hr
        refine Course.trans (Course.trans
          (.rewritten i { s.tables.trackers[i] with mode := m, fixedFrequency := f } fun h => ?_) ?_)
          (reply_course c _ _ _)
        · obtain ⟨h1, h2, _, h4⟩ := hb h .trackers i
          have hf' : ¬ (f < 47000 ∨ 53000 < f) := hf
          have hlow : 47000 ≤ f := by omega
          have hhigh : f ≤ 53000 := by omega
          exact ⟨h1, h2, ⟨hlow, hhigh⟩, h4⟩
        · rw [trackerRewritten_request]
          exact hr.course

/-- R153: ANALYSING begins. -/
theorem startAnalysis_course (h : s.opState ≠ .loading) :
    Course a b s (clearAllChecks { s with opState := .analysing }) :=
  (Course.opState .analysing h nofun).stands ⟨⟨rfl, rfl, rfl, rfl⟩, rfl⟩

/-- R71, R154: ANALYSING ends. -/
theorem endAnalysis_course (h : s.opState ≠ .loading) : Course a b s (endAnalysis s) :=
  Course.trans (.opState .configuring h nofun) (foldl_course _ endWindows (fun c _ => endWindows_course c) _)

end

end Sys2Proof.Machine

namespace Sys2Proof.Machine
open Sys2Proof.Claims

/-! ### Every step -/

/-- R53: a tracker once its loaded entry has been taken up. -/
def loadedTracker (e : TrackerEntry) (tr : Tracker) : Tracker :=
  let seeking := withMeasurers (fun r => Claims.rereferenced (e.reference r)) tr
  match e.mode with
  | .auto => seeking
  | .fixed => seeking.enterFixed e.fixedFrequency

/-- R152: the load has been completed. -/
structure LoadTaken (s t : State) : Prop where
  tables : t.tables = repair s.tables
  opState : t.opState ≠ .loading
  trackers : ∀ i : Fin 2, t.trackers[i] = loadedTracker t.tables.trackers[i] s.trackers[i]
  channels : ∀ c : Fin 16, ∃ l, t.channels[c] = { s.channels[c] with binList := l }
  engine : t.engine = s.engine

/-- What an event or a command makes of trackers and windows. -/
inductive Turn (s : State) : State → Prop
  | course {t : State} : Course (Supplied s) (TablesLegal s) s t → Turn s t
  | copied {t : State} (tb : Tables) : s.opState = .loading → BlocksStand { s with tables := tb } t → Turn s t
  | loaded {t : State} : s.opState = .loading → LoadTaken s t → Turn s t
  | restarted {t : State} : BlocksStand (restartBlocks s) t → Turn s t

section
variable {s t : State}

theorem loadedOutcomes_takeUp (s : State) (i : Fin 2) : (loadedOutcomes (takeUpSettings s)).new i
    = loadedTracker (repair s.tables).trackers[i] s.trackers[i] := by
  unfold loadedOutcomes loadedTracker
  dsimp only
  rw [takeUpSettings_tracker]
  simp only [rereferenced_eq]
  rfl

/-- R53, R152: the load completes. -/
theorem loadCompletes_taken (s : State) :
    LoadTaken s (inSomeOrder (List.finRange 2) fixIfRequested (takeUpSettings s)) := by
  obtain ⟨l, hl, hd⟩ := inSomeOrder_trackersDone (o := loadedOutcomes (takeUpSettings s)) (f := fixIfRequested)
    (fun i u hg hu => fixIfRequested_becomes (takeUpSettings s) i hg hu)
  have hw := (TrackersMove.inSomeOrder fixIfRequested_move (takeUpSettings s)).windowsStand
  have ht : (inSomeOrder (List.finRange 2) fixIfRequested (takeUpSettings s)).tables = repair s.tables :=
    hw.tables
  refine ⟨ht, ?_, fun i => ?_, fun c => ?_, hw.engine⟩
  · rw [hw.opState]
    exact takeUpSettings_opState s
  · rw [hd.trackers_all hl i, loadedOutcomes_takeUp, ht]
  · exact ⟨(repair s.tables).plans[c].bins.map PlanBin.k, by rw [hw.channels, takeUpSettings_channel]⟩

section
variable {a b : Prop}

/-- A reply, after a change that leaves trackers and windows alone. -/
theorem reply_after_course (c : CommandFrame) (st : Status) (res : List Byte) {u : State} (h : BlocksStand s u) :
    Course a b s (reply c st res u) := (reply_course c st res u).from h

theorem completeFrame_course (l : Line) (r : Reply) (s : State) : Course a b s (completeFrame l r s) := by
  have hr : BlocksStand s (if r.restart then { s with command := { s.command with restart := .due } } else s) := by
    split
    · exact ⟨⟨rfl, rfl, rfl, rfl⟩, rfl⟩
    · exact .refl s
  unfold completeFrame
  generalize (if r.restart then { s with command := { s.command with restart := .due } } else s) = u at hr
  exact ((hr.trans (setOut_blocksStand l _ u.records u.command u)).trans (choose_blocksStand l _)).course

end

theorem whilePowered_turn {f : State → State} (hf : Turn s (f s)) : Turn s (whilePowered f s) := by
  unfold whilePowered
  split
  · exact hf
  · exact .course (.refl s)

/-! #### Events of the module -/

theorem execLineAFrameArrival_turn {f : Frame} {m : Meeting} (h : execLineAFrameArrival f m s = .next t) :
    Turn s t := by
  cases h
  refine .course (whilePowered_course ?_)
  split
  · exact withTies_course m.order (sortLineA_course (takeTriggers_passes m.triggers) m.expiry f
      fun h => h.congr rfl rfl)
  · exact .refl s

theorem execLineBFrameArrival_turn {f : Frame} {ts : Ties} (h : execLineBFrameArrival f ts s = .next t) :
    Turn s t := by
  cases h
  refine .course (whilePowered_course ?_)
  split
  · exact withTies_course ts (sortLineB_blocksStand f _).course
  · exact .refl s

theorem execSilenceTimeout_turn {src : Fin 8} {ts : Ties} (h : execSilenceTimeout src ts s = .next t) :
    Turn s t := by
  cases h
  refine .course (whilePowered_course ?_)
  split
  · exact withTies_course ts (loseSource_course src _)
  · exact .refl s

theorem execUsabilityTimeout_turn {i : Fin 2} {r : Role} {ts : Ties}
    (h : execUsabilityTimeout i r ts s = .next t) : Turn s t := by
  cases h
  refine .course (whilePowered_course ?_)
  split
  · next hu => exact withTies_course ts (usabilityExpires_course (s := { s with ties := ts }) hu)
  · exact .refl s

theorem execHoldTimeout_turn {i : Fin 2} {ts : Ties} (h : execHoldTimeout i ts s = .next t) : Turn s t := by
  cases h
  refine .course (whilePowered_course ?_)
  split
  · next hu => exact withTies_course ts (holdExpires_course (s := { s with ties := ts }) hu)
  · exact .refl s

theorem execEvaluationComplete_turn {ts : Ties} (h : execEvaluationComplete ts s = .next t) : Turn s t := by
  cases h
  refine .course (whilePowered_course ?_)
  split
  · exact withTies_course ts ((completeEvaluation_passes _ _ _).1 _ _)
  · exact .refl s
  · exact .refl s

theorem execTransmitComplete_turn {l : Line} (h : execTransmitComplete l s = .next t) : Turn s t := by
  cases h
  refine .course (whilePowered_course ?_)
  split
  · exact completeFrame_course l _ s
  · exact .refl s

theorem execCommandRestart_turn (h : execCommandRestart s = .next t) : Turn s t := by
  cases h
  refine whilePowered_turn ?_
  split
  · exact .restarted ⟨⟨rfl, rfl, rfl, rfl⟩, rfl⟩
  · exact .course (.refl s)

/-- R172: a table is copied. -/
theorem execLoadTableCopied_turn (h : execLoadTableCopied s = .next t) : Turn s t := by
  cases h
  refine whilePowered_turn ?_
  split
  · next i hl _ =>
    refine .copied (s.tables.setImage (s.loadImage i)) hl ?_
    unfold loadTable
    dsimp only
    split
    · exact ⟨⟨rfl, rfl, rfl, rfl⟩, rfl⟩
    · exact .after (reportFault_reports _ _ _ _).blocksStand ⟨⟨rfl, rfl, rfl, rfl⟩, rfl⟩
  · exact .course (.refl s)

theorem execLoadComplete_turn {ts : Ties} (h : execLoadComplete ts s = .next t) : Turn s t := by
  cases h
  refine whilePowered_turn ?_
  split
  · next hl =>
    obtain ⟨h1, h2, h3, h4, h5⟩ := loadCompletes_taken { s with ties := ts }
    exact .loaded hl.1 ⟨h1, h2, h3, h4, h5⟩
  · exact .course (.refl s)

theorem execStoreProgrammingComplete_turn {agrees : Bool}
    (h : execStoreProgrammingComplete agrees s = .next t) : Turn s t := by
  cases h
  refine .course (whilePowered_course ?_)
  split
  · unfold storeCompletes
    dsimp only
    split
    · exact BlocksStand.course ⟨⟨rfl, rfl, rfl, rfl⟩, rfl⟩
    · exact BlocksStand.course (.after (reportFault_reports _ _ _ _).blocksStand ⟨⟨rfl, rfl, rfl, rfl⟩, rfl⟩)
  all_goals exact .refl s

theorem execRestoreCopyComplete_turn {ts : Ties} (h : execRestoreCopyComplete ts s = .next t) : Turn s t := by
  cases h
  refine .course (whilePowered_course ?_)
  split
  · exact withTies_course ts (restoreCompletes_course (s := { s with ties := ts }) id)
  · exact .refl s

theorem execProtectionProgrammingComplete_turn {agrees : Bool}
    (h : execProtectionProgrammingComplete agrees s = .next t) : Turn s t := by
  cases h
  refine .course (whilePowered_course ?_)
  split
  · unfold protectionCompletes
    split
    · exact BlocksStand.course ⟨⟨rfl, rfl, rfl, rfl⟩, rfl⟩
    · exact BlocksStand.course (.after (reportFault_reports _ _ _ _).blocksStand ⟨⟨rfl, rfl, rfl, rfl⟩, rfl⟩)
  · exact .refl s

theorem execSupply_turn : (execSupplyRemoved s = .next t → Turn s t) ∧ (execLocalTimeTick s = .next t → Turn s t) := by
  refine ⟨fun h => ?_, fun h => ?_⟩
  · cases h
    exact .course (whilePowered_course (BlocksStand.course ⟨⟨rfl, rfl, rfl, rfl⟩, rfl⟩))
  · cases h
    exact .course (whilePowered_course (BlocksStand.course ⟨⟨rfl, rfl, rfl, rfl⟩, rfl⟩))

/-! #### Commands of the host computer -/

theorem execIdentify_turn (h : execIdentify s = .next t) : Turn s t := by
  cases h
  refine .course (onOldest_course fun c => ?_)
  split
  · exact reply_course c _ _ s
  · exact reply_course c _ _ s

theorem execReadEntry_turn (h : execReadEntry s = .next t) : Turn s t := by
  cases h
  exact .course (command_course fun _ c _ _ => withMemory_course (reply_course c _ _ _))

theorem execWriteEntry_turn {ts : Ties} (h : execWriteEntry ts s = .next t) : Turn s t := by
  cases h
  exact .course (command_course fun _ c _ hp => withMemory_course (withTies_course ts (writeEntry_course hp c _)))

theorem execReadChecks_turn (h : execReadChecks s = .next t) : Turn s t := by
  cases h
  refine .course (command_course fun _ c _ _ => ?_)
  split
  · exact withMemory_course (.refl _)
  · exact withMemory_course (reply_course c _ _ _)

theorem execSetTracker_turn (h : execSetTracker s = .next t) : Turn s t := by
  cases h
  refine .course (command_course fun _ c _ _ => ?_)
  split
  · exact withMemory_course (.refl _)
  · exact withMemory_course (setTracker_course fun h => h.1)

theorem execStartAnalysis_turn (h : execStartAnalysis s = .next t) : Turn s t := by
  cases h
  exact .course (command_course fun _ c hl _ => withMemory_course
    (Course.trans (startAnalysis_course (s := { s with memOwner := .command }) hl) (reply_course c _ _ _)))

theorem execStopAnalysis_turn (h : execStopAnalysis s = .next t) : Turn s t := by
  cases h
  refine .course (command_course fun _ c hl _ => ?_)
  split
  · exact (endAnalysis_course hl).trans (reply_course c _ _ _)
  · exact reply_course c _ _ s

theorem execRestart_turn (h : execRestart s = .next t) : Turn s t := by
  cases h
  exact .course (command_course fun _ c _ _ =>
    Course.from (replyWith_blocksStand true c _ _ _).course ⟨⟨rfl, rfl, rfl, rfl⟩, rfl⟩)

theorem execStoreTable_turn (h : execStoreTable s = .next t) : Turn s t := by
  cases h
  refine .course (command_course fun _ c _ _ => ?_)
  split
  · exact withMemory_course (.refl _)
  · exact withMemory_course (reply_after_course c _ _ ⟨⟨rfl, rfl, rfl, rfl⟩, rfl⟩)

theorem execRestoreTable_turn (h : execRestoreTable s = .next t) : Turn s t := by
  cases h
  refine .course (command_course fun _ c _ _ => ?_)
  split
  · exact reply_course c _ _ s
  · split
    · exact reply_course c _ _ s
    · split
      · exact reply_after_course c _ _ ⟨⟨rfl, rfl, rfl, rfl⟩, rfl⟩
      · exact reply_course c _ _ s

theorem execArmCapture_turn (h : execArmCapture s = .next t) : Turn s t := by
  cases h
  refine .course (command_course fun _ c _ _ => ?_)
  split
  · exact reply_after_course c _ _ (onCapture_blocksStand _ s)
  all_goals exact reply_course c _ _ s

theorem execReadCapture_turn (h : execReadCapture s = .next t) : Turn s t := by
  cases h
  refine .course (command_course fun _ c _ _ => ?_)
  split
  · exact reply_course c _ _ s
  · exact reply_course c _ _ s

theorem execReleaseCapture_turn (h : execReleaseCapture s = .next t) : Turn s t := by
  cases h
  refine .course (command_course fun _ c _ _ => ?_)
  split
  · exact reply_after_course c _ _ (onCapture_blocksStand _ s)
  all_goals exact reply_course c _ _ s

theorem execSetRuntimeLock_turn (h : execSetRuntimeLock s = .next t) : Turn s t := by
  cases h
  refine .course (command_course fun _ c _ _ => ?_)
  split
  · exact reply_course c _ _ s
  · exact reply_after_course c _ _ ⟨⟨rfl, rfl, rfl, rfl⟩, rfl⟩

theorem execClearRuntimeLock_turn (h : execClearRuntimeLock s = .next t) : Turn s t := by
  cases h
  refine .course (command_course fun _ c _ _ => ?_)
  split
  · exact reply_course c _ _ s
  · split
    · exact reply_course c _ _ s
    · exact reply_after_course c _ _ ⟨⟨rfl, rfl, rfl, rfl⟩, rfl⟩

theorem execWriteProtection_turn (h : execWriteProtection s = .next t) : Turn s t := by
  cases h
  refine .course (command_course fun _ c _ _ => ?_)
  split
  · exact reply_course c _ _ s
  · split
    · exact reply_course c _ _ s
    · split
      · exact reply_course c _ _ s
      · exact reply_after_course c _ _ ⟨⟨rfl, rfl, rfl, rfl⟩, rfl⟩

/-- A command that changes neither trackers nor windows, and answers. -/
theorem answerAfter_turn {α : Type} {code : Nat} {parse : List Byte → Option α} {st : Status}
    {res : State → List Byte} {f : State → State} (hf : ∀ s, BlocksStand s (f s)) :
    Turn s (command code parse (fun _ c s => reply c st (res s) (f s)) s) :=
  .course (command_course fun _ c _ _ => reply_after_course c _ _ (hf s))

theorem answer_turn {α : Type} {code : Nat} {parse : List Byte → Option α} {st : Status}
    {res : State → List Byte} : Turn s (command code parse (fun _ c s => reply c st (res s) s) s) :=
  answerAfter_turn (f := id) fun s => .refl s

theorem exec_turn (i : Instr) (h : exec i s = .next t) : Turn s t := by
  cases i with
  | lineAFrameArrival f m => exact execLineAFrameArrival_turn h
  | lineBFrameArrival f ts => exact execLineBFrameArrival_turn h
  | silenceTimeout src ts => exact execSilenceTimeout_turn h
  | usabilityTimeout i r ts => exact execUsabilityTimeout_turn h
  | holdTimeout i ts => exact execHoldTimeout_turn h
  | evaluationComplete ts => exact execEvaluationComplete_turn h
  | transmitComplete l => exact execTransmitComplete_turn h
  | unknownCommand => cases h; exact .course (onOldest_course fun c => reply_course c _ _ s)
  | identify => exact execIdentify_turn h
  | readStatus => cases h; exact answer_turn
  | readEntry => exact execReadEntry_turn h
  | writeEntry ts => exact execWriteEntry_turn h
  | readChecks => exact execReadChecks_turn h
  | setTracker => exact execSetTracker_turn h
  | startAnalysis => exact execStartAnalysis_turn h
  | stopAnalysis => exact execStopAnalysis_turn h
  | restart => exact execRestart_turn h
  | commandRestart => exact execCommandRestart_turn h
  | powerOnRestart => cases h; exact .restarted ⟨⟨rfl, rfl, rfl, rfl⟩, rfl⟩
  | loadTableCopied => exact execLoadTableCopied_turn h
  | loadComplete ts => exact execLoadComplete_turn h
  | armCapture => exact execArmCapture_turn h
  | triggerCapture => cases h; exact .course ((triggerCommand_passes s).1 _ _)
  | readCapture => exact execReadCapture_turn h
  | releaseCapture => exact execReleaseCapture_turn h
  | disarmCapture => cases h; exact answerAfter_turn fun s => onCapture_blocksStand _ s
  | storeTable => exact execStoreTable_turn h
  | storeProgrammingComplete b => exact execStoreProgrammingComplete_turn h
  | restoreTable => exact execRestoreTable_turn h
  | restoreCopyComplete ts => exact execRestoreCopyComplete_turn h
  | queryProgress => cases h; exact answer_turn
  | setRuntimeLock => exact execSetRuntimeLock_turn h
  | clearRuntimeLock => exact execClearRuntimeLock_turn h
  | writeProtection => exact execWriteProtection_turn h
  | protectionProgrammingComplete b => exact execProtectionProgrammingComplete_turn h
  | freezeProtection => cases h; exact answerAfter_turn fun s => ⟨⟨rfl, rfl, rfl, rfl⟩, rfl⟩
  | readCounters => cases h; exact answer_turn
  | clearCounters => cases h; exact answerAfter_turn fun s => ⟨⟨rfl, rfl, rfl, rfl⟩, rfl⟩
  | clearFaults => cases h; exact answerAfter_turn fun s => ⟨⟨rfl, rfl, rfl, rfl⟩, rfl⟩
  | maintenanceLineChange b => cases h; exact .course (BlocksStand.course ⟨⟨rfl, rfl, rfl, rfl⟩, rfl⟩)
  | localTimeTick => exact execSupply_turn.2 h
  | supplyRemoved => exact execSupply_turn.1 h

end

end Sys2Proof.Machine

namespace Sys2Proof.Machine
open Sys2Proof.Claims

theorem step_turn {s t : State} (h : step s = .next t) : t = s ∨ ∃ rest, Turn { s with pending := rest } t := by
  unfold step at h
  split at h
  · cases h
    exact .inl rfl
  · next rest _ => exact .inr ⟨rest, exec_turn _ h⟩

/-! ## O7: the measurers (R37, R38, R42, R43) -/

/-! ### One measurer -/

/-- R38, R42, R43: a measurer that reads the channel `ref`, if any; `outside` where the module is not LOADING. -/
structure Measurer.Fits (outside : Prop) (ref : Option (Fin 16)) (m : Measurer) : Prop where
  last : m.usable = true → ∃ f, m.last = some { freq := f, valid := true } ∧ within 45000 55000 f
  run : m.run ≤ 255
  idle : outside → (m.state = .idle ↔ ref = none)

theorem measurersLegal_iff (s : State) : MeasurersLegal s ↔ ∀ (i : Fin 2) (r : Role),
    (s.trackers[i].measurer r).Fits (s.opState ≠ .loading) (s.tables.trackers[i].reference r) :=
  forall₂_congr fun _ _ => ⟨fun ⟨h1, h2, h3⟩ => ⟨h1, h2, h3⟩, fun ⟨h1, h2, h3⟩ => ⟨h1, h2, h3⟩⟩

section
variable {o : Prop} {ref : Option (Fin 16)} {m : Measurer}

theorem sought_idle (m : Measurer) : (sought m).state = .idle ↔ m.state = .idle := by
  unfold sought
  split
  · exact Iff.rfl
  · next h => exact ⟨nofun, fun h' => absurd h' h⟩

theorem sought_keeps (m : Measurer) :
    (sought m).usable = m.usable ∧ (sought m).last = m.last ∧ (sought m).run = m.run := by
  unfold sought
  split <;> exact ⟨rfl, rfl, rfl⟩

theorem Measurer.Fits.sought (h : m.Fits o ref) : (Claims.sought m).Fits o ref := by
  obtain ⟨e1, e2, e3⟩ := sought_keeps m
  refine ⟨?_, e3 ▸ h.run, fun ho => (sought_idle m).trans (h.idle ho)⟩
  rw [e1, e2]
  exact h.last

theorem Measurer.Fits.lostSource (h : m.Fits o ref) : (Claims.lostSource m).Fits o ref :=
  ⟨nofun, Nat.zero_le _, fun ho => (sought_idle m).trans (h.idle ho)⟩

theorem Measurer.Fits.expired (h : m.Fits o ref) : ({ m with usable := false } : Measurer).Fits o ref :=
  ⟨nofun, h.run, h.idle⟩

theorem rereferenced_fits (o : Prop) (c : Option (Fin 16)) : (Claims.rereferenced c).Fits o c :=
  ⟨nofun, Nat.zero_le _, fun _ => by cases c <;> simp [Claims.rereferenced]⟩

/-- R42, R43: what a completed measurement leaves. -/
theorem complete_fits {f peak floor : Nat} (h : m.Fits o ref) : (m.complete f peak floor).1.Fits o ref := by
  by_cases hv : 45000 ≤ f ∧ f ≤ 55000 ∧ floor ≤ peak
  · rw [complete_valid hv]
    exact ⟨fun _ => ⟨f, rfl, hv.1, hv.2.1⟩, Nat.min_le_left _ _, h.idle⟩
  · rw [complete_invalid hv]
    exact ⟨nofun, Nat.zero_le _, h.idle⟩

/-- R41: a crossing leaves a measurer COUNTING. -/
theorem onCrossing_fits {stamp floor : Nat} {x : Int} (h : m.Fits o ref) (hr : ref ≠ none) :
    (m.onCrossing stamp x floor).1.Fits o ref := by
  unfold Measurer.onCrossing
  split
  · split
    · exact ⟨h.last, h.run, h.idle⟩
    · have hc := complete_fits (f := measuredFrequency (stamp - m.startStamp)) (peak := m.peak) (floor := floor) h
      exact ⟨hc.last, hc.run, hc.idle⟩
  · exact ⟨h.last, h.run, fun _ => ⟨nofun, fun h => absurd h hr⟩⟩

theorem Measurer.Fits.takes (h : m.Fits o ref) (hr : ref ≠ none) (floor : Nat) (v : Option SlotValue) :
    (m.takes floor v).1.Fits o ref := by
  cases v with
  | none => exact h
  | some v =>
    unfold Measurer.takes
    dsimp only
    split
    · rw [toSeeking_eq]
      exact h.sought
    · unfold Measurer.sample
      dsimp only
      split
      · exact onCrossing_fits ⟨h.last, h.run, h.idle⟩ hr
      · exact ⟨h.last, h.run, h.idle⟩

end

/-! ### The measurers of a tracker -/

theorem afterFailure_measurer (failed : Role → Bool) (hold : Nat) (tr : Tracker) (r : Role) :
    (afterFailure failed hold tr).measurer r = tr.measurer r := by
  unfold afterFailure
  dsimp only
  split
  · split
    · cases r <;> rfl
    · cases r <;> rfl
  · split
    · cases r <;> rfl
    · rfl

theorem steered_measurer (x : Role) (f : Nat) (q : Bool) (tr : Tracker) (r : Role) :
    (steered x f q tr).measurer r = tr.measurer r := by
  rw [steered_eq]
  split
  · cases r <;> rfl
  · split
    · cases r <;> rfl
    · rfl

/-- The measurers of a tracker whose entry is `e`. -/
def Tracker.MeasurersFit (o : Prop) (e : TrackerEntry) (tr : Tracker) : Prop :=
  ∀ r, (tr.measurer r).Fits o (e.reference r)

section
variable {o : Prop} {e : TrackerEntry} {tr new : Tracker}

theorem Tracker.MeasurersFit.set (h : tr.MeasurersFit o e) {x : Role} {m : Measurer}
    (hm : m.Fits o (e.reference x)) : (tr.setMeasurer x m).MeasurersFit o e := by
  intro r
  rw [setMeasurer_measurer]
  split
  · next hx => exact hx ▸ hm
  · exact h r

/-- R38, R42: a sample set reaches one of the measurers. -/
theorem trackerTakes_measurersFit (h : tr.MeasurersFit o e) {slot : Role → Option (Fin 8)} {x : Role × SampleSet}
    (hs : (slot x.1).isSome = true → e.reference x.1 ≠ none) : (trackerTakes e slot tr x).MeasurersFit o e := by
  unfold trackerTakes
  split
  · exact h
  · next p hp =>
    have hr : e.reference x.1 ≠ none := hs (by rw [hp]; rfl)
    have hnew := h.set ((h x.1).takes hr e.floor (x.2.slot? p))
    dsimp only
    split
    · exact hnew
    · intro r
      rw [steered_measurer]
      exact hnew r
    · intro r
      rw [afterFailure_measurer]
      exact hnew r

theorem TrackerTurns.measurersFit (h : TrackerTurns e tr new) (hf : tr.MeasurersFit o e) :
    new.MeasurersFit o e := by
  cases h with
  | took slot x hs =>
    obtain ⟨r, item⟩ := x
    cases item with
    | set ss => exact trackerTakes_measurersFit hf (hs r)
    | loss => exact hf
    | _ =>
      unfold itemTaken
      dsimp only
      split
      · exact hf.set (hf r).sought
      · exact hf
  | sought b =>
    intro r
    unfold seeking
    rw [withMeasurers_measurer]
    split
    · exact (hf r).sought
    · exact hf r
  | lost reads =>
    intro r
    rw [afterFailure_measurer, withMeasurers_measurer]
    split
    · exact (hf r).lostSource
    · exact hf r
  | expired x _ =>
    intro r
    rw [afterFailure_measurer]
    exact hf.set (hf x).expired r
  | freed _ => exact fun r => by cases r <;> [exact hf .primary; exact hf .secondary]

/-- R37: an entry rewritten. -/
theorem trackerRewritten_measurersFit {old : TrackerEntry} (hf : tr.MeasurersFit o old) (new : TrackerEntry) :
    (trackerRewritten old new tr).MeasurersFit o new := by
  intro r
  unfold trackerRewritten trackerAsked
  rw [afterFailure_measurer, withMeasurers_measurer]
  split
  · exact rereferenced_fits o _
  · next h =>
    have he : old.reference r = new.reference r := by simpa [referenceChanged] using h
    rw [← he]
    exact hf r

/-- R53: an entry loaded. -/
theorem loadedTracker_measurersFit (o : Prop) (e : TrackerEntry) (tr : Tracker) :
    (loadedTracker e tr).MeasurersFit o e := by
  have hm : ∀ r, (loadedTracker e tr).measurer r = Claims.rereferenced (e.reference r) := fun r => by
    unfold loadedTracker
    dsimp only
    split
    · exact withMeasurers_measurer _ tr r
    · cases r <;> rfl
  intro r
  rw [hm]
  exact rereferenced_fits o _

end

/-! ### Every step -/

theorem restartBlocks_tracker (s : State) (i : Fin 2) : (restartBlocks s).trackers[i] = freshTracker :=
  forall_replicate (p := (· = freshTracker)) rfl i

theorem MeasurersLegal.congr {s t : State} (h : MeasurersLegal s) (hr : t.trackers = s.trackers)
    (he : t.tables.trackers = s.tables.trackers) (ho : t.opState ≠ .loading → s.opState ≠ .loading) :
    MeasurersLegal t := by
  rw [measurersLegal_iff] at h ⊢
  intro i r
  rw [hr, he]
  obtain ⟨h1, h2, h3⟩ := h i r
  exact ⟨h1, h2, fun x => h3 (ho x)⟩

theorem Course.measurersLegal {a b : Prop} {s t : State} (h : Course a b s t) (hs : MeasurersLegal s) :
    MeasurersLegal t := by
  induction h with
  | fewer h => exact hs.congr h.trackers (congrArg Tables.trackers h.tables) (h.opState ▸ id)
  | trans _ _ ih1 ih2 => exact ih2 (ih1 hs)
  | @turned s i new ht =>
    rw [measurersLegal_iff] at hs ⊢
    intro j
    rw [putTrackerAt_trackers, putAt_get]
    split
    · next hj =>
      subst hj
      exact ht.measurersFit (hs j)
    · exact hs j
  | @rewritten s i e he =>
    rw [measurersLegal_iff] at hs ⊢
    intro j
    change ((putAt s.trackers i _)[j]).MeasurersFit _ ((putAt s.tables.trackers i e)[j])
    rw [putAt_get, putAt_get]
    split
    · next hj =>
      subst hj
      exact trackerRewritten_measurersFit (hs j) e
    · exact hs j
  | tabled tb ht => exact hs.congr rfl ht id
  | opState o ho _ => exact hs.congr rfl rfl fun _ => ho
  | took _ _ _ _ => exact hs.congr rfl rfl id

/-- R53: the measurers of a module that has just restarted. -/
theorem measurersLegal_fresh {t : State} (ho : t.opState = .loading) (h : ∀ i : Fin 2, t.trackers[i] = freshTracker) :
    MeasurersLegal t := by
  rw [measurersLegal_iff]
  intro i r
  have hf : t.trackers[i].measurer r = freshMeasurer := by
    rw [h i]
    cases r <;> rfl
  rw [hf]
  exact ⟨nofun, Nat.zero_le _, fun x => absurd ho x⟩

theorem Turn.measurersLegal {s t : State} (h : Turn s t) (hs : MeasurersLegal s) : MeasurersLegal t := by
  cases h with
  | course h => exact h.measurersLegal hs
  | copied tb hl h =>
    have ho : t.opState = .loading := h.opState.trans hl
    rw [measurersLegal_iff] at hs ⊢
    intro i r
    rw [h.trackers]
    obtain ⟨h1, h2, _⟩ := hs i r
    exact ⟨h1, h2, fun x => absurd ho x⟩
  | loaded _ h =>
    rw [measurersLegal_iff]
    intro i
    rw [h.trackers]
    exact loadedTracker_measurersFit _ _ _
  | restarted h =>
    exact measurersLegal_fresh h.opState fun i => (congrArg (·[i]) h.trackers).trans (restartBlocks_tracker s i)

/-- Settles O7: each change a step makes to a tracker leaves its measurers as R38, R42 and R43 say. -/
theorem measurersStayLegal : Obligations.MeasurersStayLegal := by
  intro s t _ hs h
  obtain rfl | ⟨rest, ht⟩ := step_turn h
  · exact hs
  · exact ht.measurersLegal (s := { s with pending := rest }) hs

end Sys2Proof.Machine

namespace Sys2Proof.Machine
open Sys2Proof.Claims

/-! ## O8: the trackers (R44 to R48, R50, R53) -/

/-! ### What a tracker steers by, and the measurer it follows -/

/-- R44, R50: the state, frequency, mark and hold timer of a tracker whose entry is `e`; `outside` where the module
is not LOADING. -/
structure Tracker.Steers (outside : Prop) (e : TrackerEntry) (tr : Tracker) : Prop where
  freq : within 47000 53000 tr.freq
  hold : tr.hold.isSome = true ↔ tr.state = .hold
  free : tr.state = .free → tr.freq = 50000 ∧ tr.atLimit = false
  fixed : tr.state = .fixed → tr.freq = e.fixedFrequency ∧ tr.atLimit = false
  mode : outside → (tr.state = .fixed ↔ e.mode = .fixed)

/-- R44: the measurer that a tracker follows is usable. -/
def Tracker.Follows (tr : Tracker) : Prop := ∀ r, tr.state = followState r → (tr.measurer r).usable = true

theorem trackersLegal_iff (s : State) : TrackersLegal s ↔ ∀ i : Fin 2,
    s.trackers[i].Steers (s.opState ≠ .loading) s.tables.trackers[i] ∧ s.trackers[i].Follows := by
  refine forall_congr' fun i => ⟨fun ⟨h1, h2, h3, h4, h5, h6, h7⟩ => ⟨⟨h1, h2, h3, h4, h5⟩, fun r => ?_⟩,
    fun ⟨⟨h1, h2, h3, h4, h5⟩, h6⟩ => ⟨h1, h2, h3, h4, h5, h6 .primary, h6 .secondary⟩⟩
  cases r with
  | primary => exact h6
  | secondary => exact h7

section
variable {o : Prop} {e : TrackerEntry} {tr new : Tracker}

/-- Only the measurers have changed. -/
theorem Tracker.Steers.withMeasurers (h : tr.Steers o e) (m : Role → Measurer) :
    (Claims.withMeasurers m tr).Steers o e := ⟨h.freq, h.hold, h.free, h.fixed, h.mode⟩

theorem Tracker.Steers.setMeasurer (h : tr.Steers o e) (r : Role) (m : Measurer) :
    (tr.setMeasurer r m).Steers o e := by
  cases r <;> exact ⟨h.freq, h.hold, h.free, h.fixed, h.mode⟩

/-- R45, R46, R50: a tracker that is not FIXED enters HOLD. -/
theorem Tracker.Steers.enterHold (h : tr.Steers o e) (hs : tr.state ≠ .fixed) (hold : Nat) :
    (tr.enterHold hold).Steers o e where
  freq := h.freq
  hold := ⟨fun _ => rfl, fun _ => rfl⟩
  free := nofun
  fixed := nofun
  mode ho := ⟨nofun, fun hm => absurd ((h.mode ho).mpr hm) hs⟩

theorem Tracker.Steers.setFrequency (h : tr.Steers o e) {r : Role} (hs : tr.state = followState r) (f : Nat) :
    (tr.setFrequency f).Steers o e where
  freq := limited_bounds f
  hold := h.hold
  free hf := absurd (hs.symm.trans hf) (followState_ne_free r)
  fixed hf := absurd (hs.symm.trans hf) (followState_ne_fixed r)
  mode := h.mode

/-- R44, R45, R46, R48: a tracker that is not FIXED follows a measurer. -/
theorem Tracker.Steers.follow (h : tr.Steers o e) (hs : tr.state ≠ .fixed) (r : Role) (f : Nat) :
    (tr.follow r f).Steers o e := by
  have hst : (tr.follow r f).state = followState r := by cases r <;> rfl
  exact {
    freq := limited_bounds f
    hold := ⟨nofun, fun hh => absurd (hst.symm.trans hh) (followState_ne_hold r)⟩
    free := fun hf => absurd (hst.symm.trans hf) (followState_ne_free r)
    fixed := fun hf => absurd (hst.symm.trans hf) (followState_ne_fixed r)
    mode := fun ho => ⟨fun hf => absurd (hst.symm.trans hf) (followState_ne_fixed r),
      fun hm => absurd ((h.mode ho).mpr hm) hs⟩ }

theorem Tracker.Steers.enterFree (h : tr.Steers o e) (hs : tr.state ≠ .fixed) : tr.enterFree.Steers o e where
  freq := show within 47000 53000 Config.nominalFrequency from ⟨by decide, by decide⟩
  hold := ⟨nofun, nofun⟩
  free _ := ⟨rfl, rfl⟩
  fixed := nofun
  mode ho := ⟨nofun, fun hm => absurd ((h.mode ho).mpr hm) hs⟩

/-- R50: a tracker enters FIXED at the frequency of its entry. -/
theorem enterFixed_steers (tr : Tracker) (he : e.legal) (hm : e.mode = .fixed) :
    (tr.enterFixed e.fixedFrequency).Steers o e where
  freq := he.2.2.1
  hold := ⟨nofun, nofun⟩
  free := nofun
  fixed _ := ⟨rfl, rfl⟩
  mode _ := ⟨fun _ => hm, fun _ => rfl⟩

theorem followState_injective {r x : Role} (h : followState x = followState r) : x = r := by
  cases r <;> cases x <;> simp_all [followState]

/-! ### Failures and measurements (R45, R46, R48) -/

/-- What a failure leaves of a tracker: itself, HOLD, or a usable secondary. -/
theorem afterFailure_cases (failed : Role → Bool) (hold : Nat) (tr : Tracker) :
    (afterFailure failed hold tr = tr ∧ ∀ r, tr.state = followState r → failed r = false)
      ∨ (tr.state ≠ .fixed ∧ (afterFailure failed hold tr = tr.enterHold hold
        ∨ ∃ f, tr.secondary.usable = true ∧ afterFailure failed hold tr = tr.follow .secondary f)) := by
  by_cases hp : tr.state = .followPrimary ∧ failed .primary = true
  · obtain ⟨hst, hf⟩ := hp
    refine .inr ⟨by rw [hst]; exact nofun, ?_⟩
    cases hu : tr.secondary.usable with
    | false => exact .inl (afterFailure_held hold hst hf (.inl hu)).1
    | true =>
      cases hl : tr.secondary.last with
      | none => exact .inl (afterFailure_held hold hst hf (.inr hl)).1
      | some m => exact .inr ⟨m.freq, rfl, (afterFailure_switched hold hst hf hu hl).1⟩
  · by_cases hq : tr.state = .followSecondary ∧ failed .secondary = true
    · exact .inr ⟨by rw [hq.1]; exact nofun, .inl (afterFailure_lost hold hq.1 hq.2).1⟩
    · refine .inl ⟨(afterFailure_none hold hp hq).1, fun r hr => ?_⟩
      rw [← Bool.not_eq_true]
      cases r with
      | primary => exact fun hf => hp ⟨hr, hf⟩
      | secondary => exact fun hf => hq ⟨hr, hf⟩

theorem Tracker.Steers.afterFailure (h : tr.Steers o e) (failed : Role → Bool) (hold : Nat) :
    (Claims.afterFailure failed hold tr).Steers o e := by
  obtain ⟨he, _⟩ | ⟨hs, he | ⟨f, _, he⟩⟩ := afterFailure_cases failed hold tr
  · rw [he]
    exact h
  · rw [he]
    exact h.enterHold hs hold
  · rw [he]
    exact h.follow hs .secondary f

/-- R45, R46: after a failure the tracker follows a usable measurer, if those that have not failed still were. -/
theorem afterFailure_follows {failed : Role → Bool} (hold : Nat)
    (h : ∀ r, tr.state = followState r → failed r = false → (tr.measurer r).usable = true) :
    (afterFailure failed hold tr).Follows := by
  intro r hr
  rw [afterFailure_measurer]
  obtain ⟨he, hn⟩ | ⟨_, he | ⟨f, hu, he⟩⟩ := afterFailure_cases failed hold tr
  · rw [he] at hr
    exact h r hr (hn r hr)
  · rw [he] at hr
    exact absurd hr.symm (followState_ne_hold r)
  · rw [he] at hr
    cases r with
    | primary => cases hr
    | secondary => exact hu

theorem Tracker.Steers.steered (h : tr.Steers o e) (r : Role) (f : Nat) (q : Bool) :
    (Claims.steered r f q tr).Steers o e := by
  rw [steered_eq]
  split
  · next hs => exact h.setFrequency hs f
  · split
    · next hs =>
      refine h.follow (fun hf => ?_) r f
      rw [hf] at hs
      simp at hs
    · exact h

/-- R44, R45, R46, R48: a tracker that follows a measurer that has measured validly follows a usable one. -/
theorem steered_follows {r : Role} (h : tr.Follows) (hr : (tr.measurer r).usable = true) (f : Nat) (q : Bool) :
    (steered r f q tr).Follows := by
  intro x hx
  rw [steered_measurer]
  rw [steered_eq] at hx
  split at hx
  · exact h x hx
  · split at hx
    · have hst : (tr.follow r f).state = followState r := by cases r <;> rfl
      rw [followState_injective (hx.symm.trans hst)]
      exact hr
    · exact h x hx

/-! ### What changes a tracker -/

/-- R42, R43: a measurer is usable after a valid measurement, and loses its usability at an invalid one alone. -/
theorem complete_usable (m : Measurer) (f peak floor : Nat) :
    ((∃ g q, (m.complete f peak floor).2 = .valid g q) → (m.complete f peak floor).1.usable = true)
      ∧ ((m.complete f peak floor).2 = .nothing → m.usable = true →
        (m.complete f peak floor).1.usable = true) := by
  by_cases hv : 45000 ≤ f ∧ f ≤ 55000 ∧ floor ≤ peak
  · rw [complete_valid hv]
    exact ⟨fun _ => rfl, fun _ _ => rfl⟩
  · rw [complete_invalid hv]
    refine ⟨fun ⟨g, q, h⟩ => ?_, fun h hu => ?_⟩
    · split at h <;> cases h
    · rw [hu] at h
      cases h

theorem takes_usable (m : Measurer) (floor : Nat) (v : Option SlotValue) :
    ((∃ f q, (m.takes floor v).2 = .valid f q) → (m.takes floor v).1.usable = true)
      ∧ ((m.takes floor v).2 = .nothing → m.usable = true → (m.takes floor v).1.usable = true) := by
  cases v with
  | none => exact ⟨fun ⟨_, _, h⟩ => (nomatch h), fun _ h => h⟩
  | some v =>
    unfold Measurer.takes
    dsimp only
    split
    · rw [toSeeking_eq]
      exact ⟨fun ⟨_, _, h⟩ => (nomatch h), fun _ h => (sought_keeps m).1.trans h⟩
    · unfold Measurer.sample
      dsimp only
      split
      · unfold Measurer.onCrossing
        split
        · split
          · exact ⟨fun ⟨_, _, h⟩ => (nomatch h), fun _ h => h⟩
          · exact complete_usable _ _ _ _
        · exact ⟨fun ⟨_, _, h⟩ => (nomatch h), fun _ h => h⟩
      · exact ⟨fun ⟨_, _, h⟩ => (nomatch h), fun _ h => h⟩

/-- A tracker in order: what it steers by, and the measurer it follows. -/
def Tracker.InOrder (o : Prop) (e : TrackerEntry) (tr : Tracker) : Prop := tr.Steers o e ∧ tr.Follows

theorem Tracker.Follows.set (h : tr.Follows) {x : Role} {m : Measurer}
    (hm : (tr.measurer x).usable = true → m.usable = true) : (tr.setMeasurer x m).Follows := by
  intro r hr
  rw [setMeasurer_state] at hr
  rw [setMeasurer_measurer]
  split
  · next hx => exact hm (hx ▸ h r hr)
  · exact h r hr

/-- R38, R45, R46, R48: a sample set reaches one of the measurers. -/
theorem trackerTakes_inOrder (h : tr.InOrder o e) (slot : Role → Option (Fin 8)) (x : Role × SampleSet) :
    (trackerTakes e slot tr x).InOrder o e := by
  unfold trackerTakes
  split
  · exact h
  · next p _ =>
    obtain ⟨hv, hn⟩ := takes_usable (tr.measurer x.1) e.floor (x.2.slot? p)
    have hst := h.1.setMeasurer x.1 ((tr.measurer x.1).takes e.floor (x.2.slot? p)).1
    dsimp only
    split
    · next he => exact ⟨hst, h.2.set (hn he)⟩
    · next f q he =>
      have hu := hv ⟨f, q, he⟩
      refine ⟨hst.steered _ _ _, steered_follows (h.2.set fun _ => hu) ?_ f q⟩
      rw [setMeasurer_measurer, if_pos rfl]
      exact hu
    · refine ⟨hst.afterFailure _ _, afterFailure_follows _ fun r hr hf => ?_⟩
      rw [setMeasurer_state] at hr
      rw [setMeasurer_measurer, if_neg (of_decide_eq_false hf)]
      exact h.2 r hr

theorem TrackerTurns.inOrder (h : TrackerTurns e tr new) (hf : tr.InOrder o e) : new.InOrder o e := by
  cases h with
  | took slot x _ =>
    obtain ⟨r, item⟩ := x
    cases item with
    | set ss => exact trackerTakes_inOrder hf slot (r, ss)
    | loss => exact hf
    | _ =>
      unfold itemTaken
      dsimp only
      split
      · exact ⟨hf.1.setMeasurer _ _, hf.2.set fun hu => (sought_keeps _).1.trans hu⟩
      · exact hf
  | sought b =>
    refine ⟨hf.1.withMeasurers _, fun r hr => ?_⟩
    unfold seeking
    rw [withMeasurers_measurer]
    split
    · exact (sought_keeps _).1.trans (hf.2 r hr)
    · exact hf.2 r hr
  | lost reads =>
    refine ⟨(hf.1.withMeasurers _).afterFailure _ _, afterFailure_follows _ fun r hr hn => ?_⟩
    have hu := hf.2 r hr
    rw [hu, Bool.and_true] at hn
    rw [withMeasurers_measurer, hn]
    exact hu
  | expired x _ =>
    refine ⟨(hf.1.setMeasurer _ _).afterFailure _ _, afterFailure_follows _ fun r hr hn => ?_⟩
    rw [setMeasurer_state] at hr
    rw [setMeasurer_measurer, if_neg (of_decide_eq_false hn)]
    exact hf.2 r hr
  | freed hh =>
    exact ⟨hf.1.enterFree (by rw [hh]; exact nofun), fun r hr => absurd hr.symm (followState_ne_free r)⟩

/-- R50: a requested mode, written with its entry. -/
theorem modeRequested_steers {old : TrackerEntry} (h : tr.Steers o old) (he : e.legal) :
    (modeRequested e.mode e.fixedFrequency e.holdTime tr).Steers o e := by
  cases hm : e.mode with
  | fixed => exact enterFixed_steers tr he hm
  | auto =>
    by_cases hs : tr.state = .fixed
    · rw [modeRequested_released hs]
      exact {
        freq := h.freq
        hold := ⟨fun _ => rfl, fun _ => rfl⟩
        free := nofun
        fixed := nofun
        mode := fun _ => ⟨nofun, fun hm' => by rw [hm] at hm'; cases hm'⟩ }
    · rw [modeRequested_auto hs]
      exact {
        freq := h.freq
        hold := h.hold
        free := h.free
        fixed := fun hf => absurd hf hs
        mode := fun _ => ⟨fun hf => absurd hf hs, fun hm' => by rw [hm] at hm'; cases hm'⟩ }

/-- R37, R50: an entry rewritten. -/
theorem trackerRewritten_inOrder {old : TrackerEntry} (h : tr.InOrder o old) (he : e.legal) :
    (trackerRewritten old e tr).InOrder o e := by
  refine ⟨((modeRequested_steers h.1 he).withMeasurers _).afterFailure _ _, afterFailure_follows _ fun r hr hn => ?_⟩
  unfold trackerAsked
  rw [withMeasurers_measurer, hn]
  refine h.2 r ?_
  change (modeRequested e.mode e.fixedFrequency e.holdTime tr).state = followState r at hr
  by_cases hst : (modeRequested e.mode e.fixedFrequency e.holdTime tr).state = tr.state
  · rw [← hst]
    exact hr
  · have := modeRequested_state hst
    rw [hr] at this
    exact absurd this (not_or.mpr ⟨followState_ne_fixed r, followState_ne_hold r⟩)

/-- R53: a tracker at a restart. -/
theorem freshTracker_inOrder (h : o → e.mode = .auto) : freshTracker.InOrder o e := by
  refine ⟨⟨⟨by decide, by decide⟩, ⟨nofun, nofun⟩, fun _ => ⟨rfl, rfl⟩, nofun, fun ho => ⟨nofun, fun hm => ?_⟩⟩,
    fun r hr => absurd hr.symm (followState_ne_free r)⟩
  rw [h ho] at hm
  cases hm

/-- R53: an entry loaded. -/
theorem loadedTracker_inOrder (o : Prop) (he : e.legal) : (loadedTracker e freshTracker).InOrder o e := by
  unfold loadedTracker
  dsimp only
  split
  · next hm =>
    exact ⟨(freshTracker_inOrder fun _ => hm).1.withMeasurers _, fun r hr => absurd hr.symm (followState_ne_free r)⟩
  · next hm =>
    exact ⟨enterFixed_steers _ he hm, fun r hr => absurd hr.symm (followState_ne_fixed r)⟩

end

/-! ### Every step -/

theorem TrackersLegal.congr {s t : State} (h : TrackersLegal s) (hr : t.trackers = s.trackers)
    (he : t.tables.trackers = s.tables.trackers) (ho : t.opState ≠ .loading → s.opState ≠ .loading) :
    TrackersLegal t := by
  rw [trackersLegal_iff] at h ⊢
  intro i
  rw [hr, he]
  obtain ⟨⟨h1, h2, h3, h4, h5⟩, h6⟩ := h i
  exact ⟨⟨h1, h2, h3, h4, fun x => h5 (ho x)⟩, h6⟩

theorem Course.trackersLegal {a b : Prop} {s t : State} (h : Course a b s t) (hb : b) (hs : TrackersLegal s) :
    TrackersLegal t := by
  induction h with
  | fewer h => exact hs.congr h.trackers (congrArg Tables.trackers h.tables) (h.opState ▸ id)
  | trans _ _ ih1 ih2 => exact ih2 (ih1 hs)
  | @turned s i new ht =>
    rw [trackersLegal_iff] at hs ⊢
    intro j
    rw [putTrackerAt_trackers, putAt_get]
    split
    · next hj =>
      subst hj
      exact ht.inOrder (hs j)
    · exact hs j
  | @rewritten s i e he =>
    rw [trackersLegal_iff] at hs ⊢
    intro j
    change ((putAt s.trackers i _)[j]).InOrder _ ((putAt s.tables.trackers i e)[j])
    rw [putAt_get, putAt_get]
    split
    · next hj =>
      subst hj
      exact trackerRewritten_inOrder (hs j) (he hb)
    · exact hs j
  | tabled tb ht => exact hs.congr rfl ht id
  | opState o ho _ => exact hs.congr rfl rfl fun _ => ho
  | took _ _ _ _ => exact hs.congr rfl rfl id

/-- R53: the trackers of a module that has just restarted. -/
theorem trackersLegal_fresh {t : State} (ho : t.opState = .loading) (h : ∀ i : Fin 2, t.trackers[i] = freshTracker) :
    TrackersLegal t := by
  rw [trackersLegal_iff]
  intro i
  rw [h i]
  exact freshTracker_inOrder fun x => absurd ho x

theorem Turn.trackersLegal {s t : State} (h : Turn s t) (hq : LoadingQuiet s) (ht : TablesLegal s)
    (hs : TrackersLegal s) : TrackersLegal t := by
  cases h with
  | course h => exact h.trackersLegal ht hs
  | copied tb hl h =>
    exact trackersLegal_fresh (h.opState.trans hl) fun i => (congrArg (·[i]) h.trackers).trans (hq.tracker hl i)
  | loaded hl h =>
    rw [trackersLegal_iff]
    intro i
    rw [h.trackers, hq.tracker hl i, h.tables]
    exact loadedTracker_inOrder _ (repair_legal ht.1 .trackers i)
  | restarted h =>
    exact trackersLegal_fresh h.opState fun i => (congrArg (·[i]) h.trackers).trans (restartBlocks_tracker s i)

/-- Settles O8: each change a step makes to a tracker leaves it at a legal frequency, and following a usable
measurer where it follows one. -/
theorem trackersStayLegal : Obligations.TrackersStayLegal := by
  intro s t hq ht hs h
  obtain rfl | ⟨rest, h⟩ := step_turn h
  · exact hs
  · exact h.trackersLegal (s := { s with pending := rest }) hq ht hs

end Sys2Proof.Machine

namespace Sys2Proof.Machine
open Sys2Proof.Claims

/-! ## O10: the content of windows (R52, R55, R57, R60, R62, R63) -/

/-! ### The phase tables are bounded (R61) -/

theorem toTable_bounds {v : Nat} (h : v ≤ fixOne) : (toTable v).natAbs ≤ 32767 := by
  unfold toTable
  rw [Int.natAbs_natCast, Nat.div_le_iff_le_mul (by decide)]
  unfold fixOne at h ⊢
  omega

/-- The last factor of a series of factors `one - …` is at most one. -/
theorem foldl_sub_le {α : Type} (one : Nat) (f : Nat → α → Nat) (l : List α) {init : Nat} (h : init ≤ one) :
    l.foldl (fun h d => one - f h d) init ≤ one := by
  induction l generalizing init with
  | nil => exact h
  | cons d l ih => exact ih (Nat.sub_le _ _)

theorem cosOctant_le (r : Nat) : cosOctant r ≤ fixOne := by
  unfold cosOctant
  exact foldl_sub_le fixOne (fun h d => _ * h / fixOne / d) _ (Nat.le_refl _)

theorem mul_div_le {one x y : Nat} (hx : x ≤ one) (hy : y ≤ one) : x * y / one ≤ one :=
  Nat.div_le_of_le_mul (Nat.mul_le_mul hx hy)

/-- The argument of an octant is at most an eighth of a turn, less than one in fixed point. -/
theorem sinOctant_le {r : Nat} (h : r ≤ 512) : sinOctant r ≤ fixOne := by
  have hx : fixPi * r / 2048 ≤ fixOne := by
    unfold fixPi fixOne
    omega
  unfold sinOctant
  exact mul_div_le hx (foldl_sub_le fixOne (fun h d => _ * h / fixOne / d) _ (Nat.le_refl _))

theorem cosQuarter_bounds {r : Nat} (h : r ≤ 1024) : (cosQuarter r).natAbs ≤ 32767 := by
  unfold cosQuarter
  split
  · exact toTable_bounds (cosOctant_le r)
  · exact toTable_bounds (sinOctant_le (by omega))

theorem cosTable_bounds (p : Nat) : (cosTable p).natAbs ≤ 32767 := by
  have hr : p % 1024 ≤ 1024 := (Nat.mod_lt p (by decide)).le
  have hr' : 1024 - p % 1024 ≤ 1024 := Nat.sub_le _ _
  unfold cosTable
  dsimp only
  split
  · exact cosQuarter_bounds hr
  · rw [Int.natAbs_neg]
    exact cosQuarter_bounds hr'
  · rw [Int.natAbs_neg]
    exact cosQuarter_bounds hr
  · exact cosQuarter_bounds hr'

theorem sinTable_bounds (p : Nat) : (sinTable p).natAbs ≤ 32767 := cosTable_bounds _

/-! ### A window takes a value (R60) -/

theorem natAbs_add_mul_le {a x y : Int} {n : Nat} (ha : a.natAbs ≤ 8388608 * 32767 * n) (hx : x.natAbs ≤ 8388608)
    (hy : y.natAbs ≤ 32767) : (a + x * y).natAbs ≤ 8388608 * 32767 * (n + 1) := by
  have hxy : (x * y).natAbs ≤ 8388608 * 32767 := by
    rw [Int.natAbs_mul]
    exact Nat.mul_le_mul hx hy
  have := Int.natAbs_add_le a (x * y)
  omega

theorem Window.legal.add {w : Window} (h : w.legal) {v : SlotValue} (hv : v.value.natAbs ≤ 8388608) (test : Bool) :
    (w.add v test).legal := by
  obtain ⟨hf, hl, hq, hc, hd, hk, hp, hs⟩ := h
  refine ⟨hf, hl, hq, ?_, hd, ?_, ?_, ?_⟩
  · change (if v.filled then w.filled + 1 else w.filled) ≤ w.count + 1
    split
    · exact Nat.succ_le_succ hc
    · exact Nat.le_succ_of_le hc
  · refine Eq.trans ?_ hk
    change (w.sums.map fun b => b.add v.value w.count w.len).map BinSum.k = _
    rw [List.map_map]
    rfl
  · have := Int.natAbs_add_le w.plain v.value
    change (w.plain + v.value).natAbs ≤ 8388608 * (w.count + 1)
    omega
  · intro b hb
    obtain ⟨x, hx, rfl⟩ := List.mem_map.mp hb
    obtain ⟨h1, h2⟩ := hs x hx
    exact ⟨natAbs_add_mul_le h1 hv (cosTable_bounds _), natAbs_add_mul_le h2 hv (sinTable_bounds _)⟩

/-- R57: a window opened under a tracker in range. -/
theorem opened_legal {tr : Tracker} (ht : InRange tr) {u : ChannelUnit} (hu : u.seqNext < 65536) (stamp : Stamp) :
    (u.opened tr stamp).legal := by
  refine ⟨ht, rfl, hu, Nat.le_refl 0, ?_, ?_, Nat.le_refl 0, ?_⟩
  · exact beq_iff_eq
  · change ((accumulatedBins u.binList).map _).map BinSum.k = accumulatedBins u.binList
    rw [List.map_map]
    exact List.map_id _
  · intro b hb
    obtain ⟨k, _, rfl⟩ := List.mem_map.mp hb
    exact ⟨Nat.le_refl 0, Nat.le_refl 0⟩

/-! ### A channel unit (R55, R57, R60, R63, R64) -/

/-- R55, R63: a window that fills, and one that is full. -/
def Window.Filling (w : Window) : Prop := w.legal ∧ w.count < w.len

def Window.Full (w : Window) : Prop := w.legal ∧ w.count = w.len

/-- A channel unit whose windows are legal. -/
structure ChannelUnit.Legal (u : ChannelUnit) : Prop where
  seqNext : u.seqNext < 65536
  fills : ∀ w, u.fills w → w.Filling
  waits : ∀ w, u.waits w → w.Full

section
variable {u : ChannelUnit} {w : Window}

theorem ChannelUnit.Legal.openIfNone (h : u.Legal) (hw : w.Filling) : (u.openIfNone w).Legal := by
  have hseq : (u.seqNext + 1) % 65536 < 65536 := Nat.mod_lt _ (by decide)
  unfold ChannelUnit.openIfNone
  split
  · exact h
  · split
    · next h0 =>
      refine ⟨hseq, fun x hx => ?_, fun x hx => ?_⟩
      · obtain hx | hx := hx
        · cases hx
          exact hw
        · exact h.fills x (.inr hx)
      · obtain hx | hx := hx
        · cases hx
        · exact h.waits x (.inr hx)
    · split
      · refine ⟨hseq, fun x hx => ?_, fun x hx => ?_⟩
        · obtain hx | hx := hx
          · exact h.fills x (.inl hx)
          · cases hx
            exact hw
        · obtain hx | hx := hx
          · exact h.waits x (.inl hx)
          · cases hx
      · exact h

/-- R60, R63: a FILLING window that takes a value is FILLING still, or full. -/
theorem Window.Filling.add (h : w.Filling) {v : SlotValue} (hv : v.value.natAbs ≤ 8388608) (test : Bool) :
    (w.add v test).legal ∧ ((w.add v test).count < (w.add v test).len
      ∨ (w.add v test).count = (w.add v test).len) := by
  obtain ⟨hl, hc⟩ := h
  exact ⟨hl.add hv test, Nat.lt_or_eq_of_le hc⟩

theorem afterClose_not_pending (c : Context) (w : Window) : c.afterClose ≠ .pending w := by
  cases c <;> exact nofun

theorem afterClose_filling {c : Context} (h : c.afterClose = .filling w) : c = .filling w := by
  cases c with
  | filling x => exact h
  | free => cases h
  | pending x => cases h

theorem ChannelUnit.Legal.advance (h : u.Legal) {v : SlotValue} (hv : v.value.natAbs ≤ 8388608) (test : Bool) :
    (u.advance v test).unit.Legal := by
  unfold ChannelUnit.advance
  split
  · next w h0 =>
    have hw := h.fills w (.inl h0)
    dsimp only
    split
    · next hc =>
      refine ⟨h.seqNext, fun x hx => ?_, fun x hx => ?_⟩
      · obtain hx | hx := hx
        · cases hx
        · exact h.fills x (.inr (afterClose_filling hx))
      · obtain hx | hx := hx
        · cases hx
          exact ⟨(hw.add hv test).1, Nat.le_antisymm hw.2 hc⟩
        · exact absurd hx (afterClose_not_pending _ _)
    · next hc =>
      refine ⟨h.seqNext, fun x hx => ?_, fun x hx => ?_⟩
      · obtain hx | hx := hx
        · cases hx
          exact ⟨(hw.add hv test).1, Nat.lt_of_not_le hc⟩
        · exact h.fills x (.inr hx)
      · obtain hx | hx := hx
        · cases hx
        · exact h.waits x (.inr hx)
  · next w h1 _ =>
    have hw := h.fills w (.inr h1)
    dsimp only
    split
    · next hc =>
      refine ⟨h.seqNext, fun x hx => ?_, fun x hx => ?_⟩
      · obtain hx | hx := hx
        · exact h.fills x (.inl (afterClose_filling hx))
        · cases hx
      · obtain hx | hx := hx
        · exact absurd hx (afterClose_not_pending _ _)
        · cases hx
          exact ⟨(hw.add hv test).1, Nat.le_antisymm hw.2 hc⟩
    · next hc =>
      refine ⟨h.seqNext, fun x hx => ?_, fun x hx => ?_⟩
      · obtain hx | hx := hx
        · exact h.fills x (.inl hx)
        · cases hx
          exact ⟨(hw.add hv test).1, Nat.lt_of_not_le hc⟩
      · obtain hx | hx := hx
        · exact h.waits x (.inl hx)
        · cases hx
  · exact h

/-- R57, R60, R63, R64: a unit takes a set of 24-bit counts under a tracker in range. -/
theorem setStep_legal {slot : Fin 8} {tr : Tracker} {ss : SampleSet} (h : u.Legal) (hss : ss.Bounded)
    (ht : InRange tr) : (setStep slot tr ss u).unit.Legal := by
  cases hs : ss.slot? slot with
  | none =>
    rw [setStep_none hs]
    exact h
  | some v =>
    rw [setStep_some hs]
    have ho : (u.opened tr ss.stamp).Filling :=
      ⟨opened_legal ht h.seqNext ss.stamp, Nat.lt_of_lt_of_le (by decide : 0 < 2415) (opened_len ht u ss.stamp)⟩
    exact (h.openIfNone ho).advance (hss v (List.mem_of_getElem? hs)) ss.test

end

/-! ### Every step -/

/-- The windows of the units and of the engine are legal. -/
structure WindowsKept (s : State) : Prop where
  units : ∀ c : Fin 16, s.channels[c].Legal
  copy : ∀ c w, s.engine.holds c w → w.Full

theorem windowsKept_of_legal {s : State} (hc : ContextsLegal s) (h : WindowsLegal s) : WindowsKept s := by
  obtain ⟨hl, hf, hp⟩ := h
  refine ⟨fun c => ⟨?_, fun w h => ?_, fun w h => ?_⟩, fun c w h => ?_⟩
  · obtain ⟨_, _, _, hseq⟩ := hc.1 c
    exact hseq
  · refine ⟨hl c w ?_, hf c w h⟩
    unfold State.holdsWindow
    unfold ChannelUnit.fills at h
    tauto
  · unfold ChannelUnit.waits at h
    refine ⟨hl c w ?_, hp c w (by tauto)⟩
    unfold State.holdsWindow
    tauto
  · unfold Engine.holds at h
    refine ⟨hl c w ?_, hp c w (by tauto)⟩
    unfold State.holdsWindow
    tauto

theorem WindowsKept.legal {s : State} (h : WindowsKept s) : WindowsLegal s := by
  refine ⟨fun c w hw => ?_, fun c w hw => ((h.units c).fills w hw).2, fun c w hw => ?_⟩
  · obtain hw | hw | hw | hw | hw := hw
    · exact ((h.units c).fills w (.inl hw)).1
    · exact ((h.units c).fills w (.inr hw)).1
    · exact ((h.units c).waits w (.inl hw)).1
    · exact ((h.units c).waits w (.inr hw)).1
    · exact (h.copy c w hw).1
  · obtain hw | hw | hw := hw
    · exact ((h.units c).waits w (.inl hw)).2
    · exact ((h.units c).waits w (.inr hw)).2
    · exact (h.copy c w hw).2

theorem WindowsKept.congr {s t : State} (h : WindowsKept s) (hc : t.channels = s.channels)
    (he : t.engine = s.engine) : WindowsKept t := ⟨hc ▸ h.units, he ▸ h.copy⟩

theorem Course.windowsKept {a b : Prop} {s t : State} (h : Course a b s t) (ha : a) (hs : WindowsKept s) :
    WindowsKept t := by
  induction h with
  | fewer h =>
    refine ⟨fun c => ⟨h.seqNext c ▸ (hs.units c).seqNext, fun w hw => (hs.units c).fills w (h.fills c w hw),
      fun w hw => (hs.units c).waits w (h.waits c w hw)⟩, fun c w hw => ?_⟩
    obtain hw | hw := h.copied c w hw
    · exact hs.copy c w hw
    · exact (hs.units c).waits w hw
  | trans _ _ ih1 ih2 => exact ih2 (ih1 hs)
  | turned i _ => exact hs.congr rfl rfl
  | rewritten i e _ => exact hs.congr rfl rfl
  | tabled tb _ => exact hs.congr rfl rfl
  | opState o _ _ => exact hs.congr rfl rfl
  | @took s c slot ss h =>
    obtain ⟨hss, ht⟩ := h ha
    refine ⟨fun x => ?_, hs.copy⟩
    dsimp only
    rw [putAt_get]
    split
    · exact setStep_legal (hs.units c) hss ht
    · exact hs.units x

/-- R73: the windows of a module that has just restarted. -/
theorem windowsKept_fresh {t : State} (he : t.engine = .idle) (h : ∀ c : Fin 16, t.channels[c] = freshChannel) :
    WindowsKept t := by
  refine ⟨fun c => ?_, fun c w hw => ?_⟩
  · rw [h c]
    exact ⟨by decide, fun w hw => hw.elim nofun nofun, fun w hw => hw.elim nofun nofun⟩
  · rw [he] at hw
    exact absurd hw (not_idle_holds c w)

theorem Turn.windowsKept {s t : State} (h : Turn s t) (ha : Supplied s) (hs : WindowsKept s) :
    WindowsKept t := by
  cases h with
  | course h => exact h.windowsKept ha hs
  | copied tb _ h => exact hs.congr h.channels h.engine
  | loaded _ h =>
    refine ⟨fun c => ?_, h.engine ▸ hs.copy⟩
    obtain ⟨l, hl⟩ := h.channels c
    rw [hl]
    exact ⟨(hs.units c).seqNext, (hs.units c).fills, (hs.units c).waits⟩
  | restarted h =>
    exact windowsKept_fresh h.engine fun c => (congrArg (·[c]) h.channels).trans
      (forall_replicate (p := (· = freshChannel)) rfl c)

theorem supplied_of_legal {s : State} (hs : SourcesLegal s) (ht : TrackersLegal s) : Supplied s := by
  refine ⟨fun i v hv => ?_, fun i => (ht i).1⟩
  obtain ⟨j, hj, rfl⟩ := List.mem_iff_getElem.mp hv
  have hj' : j < 8 := by simpa using hj
  obtain ⟨_, _, _, hb⟩ := hs i
  have := hb ⟨j, hj'⟩
  simp only [Fin.getElem_fin, Vector.getElem_toList] at this ⊢
  omega

/-- Settles O10: a set adds to the FILLING window a 24-bit count times entries of the phase tables, and opens one of
legal length. -/
theorem windowsStayLegal : Obligations.WindowsStayLegal := by
  intro s t hs ht hc hw h
  obtain rfl | ⟨rest, h⟩ := step_turn h
  · exact hw
  · exact (h.windowsKept (s := { s with pending := rest }) (supplied_of_legal hs ht)
      (windowsKept_of_legal hc hw)).legal

end Sys2Proof.Machine

namespace Sys2Proof.Machine
open Sys2Proof.Claims

/-! ## O17: right after reset (R53, R73, R113, R131, R134, R156, R166) -/

/-- R156: the reset state is one that has just restarted. -/
theorem restartBlocks_reset : restartBlocks State.reset = State.reset := by
  have hs : State.reset.sources.map offSource = State.reset.sources := by
    simp [State.reset, offSource, freshSource]
  unfold restartBlocks
  rw [hs]
  rfl

theorem reset_tracker (i : Fin 2) : State.reset.trackers[i] = freshTracker :=
  forall_replicate (p := (· = freshTracker)) rfl i

theorem reset_channel (c : Fin 16) : State.reset.channels[c] = freshChannel :=
  forall_replicate (p := (· = freshChannel)) rfl c

theorem reset_tablesLegal : TablesLegal State.reset := by
  rw [← restartBlocks_reset]
  exact restartBlocks_tablesLegal factoryDefaults_legal

theorem reset_sourcesLegal : SourcesLegal State.reset := by
  intro i
  have h : State.reset.sources[i] = freshSource := forall_replicate (p := (· = freshSource)) rfl i
  rw [h]
  refine ⟨fun hl => absurd rfl hl, ⟨nofun, nofun⟩, nofun, fun j => ?_⟩
  exact forall_replicate (p := fun v : Int => -8388608 ≤ v ∧ v ≤ 8388607) (by decide) j

theorem reset_memoryLegal : MemoryLegal State.reset := fun _ =>
  ⟨⟨nofun, fun ⟨_, _, h⟩ => nomatch h⟩, nofun, nofun, fun _ => .inl rfl, nofun, nofun, fun _ c => by
    rw [reset_channel]
    rfl⟩

theorem reset_captureLegal : CaptureLegal State.reset :=
  ⟨Nat.zero_le _, Nat.zero_le _, nofun, fun h => absurd rfl h, fun h => h.elim nofun nofun, rfl, rfl, rfl⟩

theorem reset_protectionLegal : ProtectionLegal State.reset :=
  ⟨by decide, by decide, .inl rfl, nofun, nofun⟩

theorem reset_faultUnitLegal : FaultUnitLegal State.reset :=
  ⟨Nat.zero_le _, rfl, fun k => forall_replicate (p := (· = false)) rfl k⟩

theorem reset_countersLegal : CountersLegal State.reset := by
  refine ⟨fun i => ?_, fun c => ?_, by decide⟩
  · have h : State.reset.counters.sources[i] = zeroSourceCounters :=
      forall_replicate (p := (· = zeroSourceCounters)) rfl i
    rw [h]
    decide
  · have h : State.reset.counters.channels[c] = zeroChannelCounters :=
      forall_replicate (p := (· = zeroChannelCounters)) rfl c
    rw [h]
    decide

/-- Settles O17: the reset state is a power-on restart of itself, in LOADING with every block at rest. -/
theorem invariantsHoldAtReset : Obligations.InvariantsHoldAtReset := by
  have hord := restartByPower_orderly State.reset
  unfold restartByPower at hord
  rw [restartBlocks_reset] at hord
  have hq := restartBlocks_loadingQuiet State.reset
  rw [restartBlocks_reset] at hq
  have hc := restartBlocks_contextsLegal State.reset
  rw [restartBlocks_reset] at hc
  exact ⟨hord.1, hord.2, hq, reset_tablesLegal, reset_sourcesLegal, measurersLegal_fresh rfl reset_tracker,
    trackersLegal_fresh rfl reset_tracker, hc, (windowsKept_fresh rfl reset_channel).legal,
    fun h => absurd rfl h, reset_memoryLegal, fun h => absurd rfl h, reset_captureLegal, reset_protectionLegal,
    reset_faultUnitLegal, reset_countersLegal⟩

end Sys2Proof.Machine
